-- ==== Sys2Proof/Word.lean ====
section
/-! DEFINITION. The word type of the AP-43's byte formats (spec/11, R207). -/

namespace Sys2Proof

/-- One byte of a frame, a message or a response. -/
abbrev Byte := BitVec 8

end Sys2Proof
end

