-- ==== Sys2Proof/Config.lean ====
section
/-! DEFINITION. The sizes and limits that the manual fixes for the part (spec/00 Table 0-2 and the owning chapters).
The manual leaves no value to the implementation, so no constant here is without a body. -/

namespace Sys2Proof.Config

/-- R34: slots of each sensor's ring. -/
def ringSlots : Nat := 32768

/-- R15, R16: the largest magnitude of a corrected component. -/
def sampleMax : Int := 8388607

/-- R56: the scale divisor of the P-channel's energy; R57 doubles it. -/
def energyScale : Nat := 1024

/-- The limit at which the 16-bit counts of the part stay (R1, R2, R22, R24, R41, R63, R80, R132, R140, R192). -/
def countMax : Nat := 65535

/-- R77: requests a refinement queue takes. -/
def queueCapacity : Nat := 4

/-- R86: the largest pass-over count. -/
def passOverMax : Nat := 15

/-- R108: entries of the Arrival Table. -/
def tableCapacity : Nat := 64

/-- R127: records of the group table. -/
def groupCapacity : Nat := 8

/-- R109, R128: the largest pick id and group id. -/
def idMax : Nat := 65535

/-- R172: sets an excerpt buffer holds. -/
def bufferCapacity : Nat := 512

/-- R91, R172: the most sets one block read takes. -/
def blockMax : Nat := 128

/-- R171, R174: the limit of an excerpt chain's wait, in µs. -/
def chainWaitLimit : Nat := 60000000

/-- R22: the idle time that divides the Time Link into messages, in µs. -/
def messageIdle : Nat := 5000

/-- R23: how long a Time Link message stays pending, in µs. -/
def messageLife : Nat := 1000000

/-- R27: the mark-loss count, in µs. -/
def markLossLimit : Nat := 2500000

/-- R26: the largest difference at a mark that is no step, in µs. -/
def stepTolerance : Nat := 1000

/-- R28: µs of one second, and the seconds at which absolute time comes round to 0. -/
def microsPerSecond : Nat := 1000000

/-- R28: absolute time's seconds are taken modulo this. -/
def secondsModulus : Nat := 4294967296

/-- R209: the width of one attention pulse, in µs. -/
def pulseWidth : Nat := 20

/-- R6, R13: the consecutive-good count at which auto-clear acts. -/
def goodLimit : Nat := 64

/-- R9: the bad frame in a row that declares GAP. -/
def badLimit : Nat := 8

/-- R1: bytes of a Sample Link frame. -/
def frameBytes : Nat := 12

/-- Table 11-2: the lead byte of a Time Link message. -/
def leadByte : Byte := 0xD4#8

/-- Chapter 11.2: the kind byte of a COMMAND transaction. -/
def commandKind : Byte := 0xA1#8

/-- Chapter 11.2: the kind byte of a RESPONSE transaction. -/
def responseKind : Byte := 0xA2#8

/-- R173: the no-sample marker that a VOID set's components hold. -/
def noSample : Int := -8388608

end Sys2Proof.Config
end

