-- ==== Sys2Proof/Syntax.lean ====
section
/-! DEFINITION. The commands of the AP-43: one constructor of `Instr` for each row of spec/opcode_table.json. -/

namespace Sys2Proof

/-- The two station ports (spec/00, 0.3.1 Ports). -/
inductive Port where
  | a | b
  deriving DecidableEq, Repr

/-- The four sensors, numbered 0 to 3. -/
inductive Sensor where
  | s0 | s1 | s2 | s3
  deriving DecidableEq, Repr

/-- The other port: "the port that did not issue the command under discussion" (00, 0.3.1). -/
def Port.other : Port → Port
  | .a => .b
  | .b => .a

/-- A sensor's number. -/
def Sensor.num : Sensor → Nat
  | .s0 => 0
  | .s1 => 1
  | .s2 => 2
  | .s3 => 3

/-- The sensor with a number, if there is one. -/
def Sensor.ofNum : Nat → Option Sensor
  | 0 => some .s0
  | 1 => some .s1
  | 2 => some .s2
  | 3 => some .s3
  | _ => none

/-- The sensors in number order. -/
def Sensor.list : List Sensor := [.s0, .s1, .s2, .s3]

/-- The next sensor, wrapping from 3 to 0 (R87). -/
def Sensor.succ : Sensor → Sensor
  | .s0 => .s1
  | .s1 => .s2
  | .s2 => .s3
  | .s3 => .s0

/-- The two detector channels of a sensor: P_CHANNEL on Z, S_CHANNEL on N and E. -/
inductive Channel where
  | p | s
  deriving DecidableEq, Repr

/-- One character of the Time Link, with the mark of a framing error: a stop bit received low (R22). -/
structure LineChar where
  byte : Byte
  framingError : Bool
  deriving DecidableEq, Repr

/-- A character as a row carries it: how many µs before the row's step it began on the line, and ended. It may lie in
the time of earlier rows (DESIGN CHOICE, log 38: the table gives the row no operands). -/
structure TimedChar where
  began : Nat
  ended : Nat
  char : LineChar
  deriving DecidableEq, Repr

/-- The fields of one 16-byte element of LOAD_CHAIN as they stand in the message (chapter 11.2): byte 0, byte 1,
bytes 2 to 9, bytes 10 and 11, byte 12, byte 13. Bytes 14 and 15 are unused and are dropped (R207). -/
structure ElementWords where
  kind : Byte
  selector : Byte
  start : BitVec 64
  length : BitVec 16
  mask : Byte
  flags : Byte
  deriving DecidableEq, Repr

/-- The three quality thresholds, whose SET has a rule of its own (R83). -/
inductive Threshold where
  | q0 | q1 | q2
  deriving DecidableEq, Repr

/-- A command of Table 10-2 with its arguments as Table 11-4 gives them: what a command slot in BUSY holds (R188). -/
inductive Request where
  | attach
  | detach
  | status
  | take
  | readPick (id : BitVec 16)
  | readGroup (id : BitVec 16)
  | retract (id : BitVec 16)
  | set (index : BitVec 16) (value : BitVec 32)
  | get (index : BitVec 16)
  | apply (area : Byte)
  | freeze
  | loadChain (count : Byte) (elements : List ElementWords)
  | startChain
  | pauseChain
  | resetChain
  | readExcerpt (maximum : Byte)
  | attnDone (classes : BitVec 16)
  | softReset
  deriving DecidableEq, Repr

/-- The steps of the part, one constructor for each row of the opcode table. `dt` is the µs of local time that have
passed since the step before (DESIGN CHOICE, log 1: the table gives the rows no operands and no row for the passing
of time; safe: any `dt` may be given, and it may be 0). The rows from `attach` to `softReset` are the performance of
the command that port `p`'s slot holds in BUSY (R189, step 3). -/
inductive Instr where
  /-- HARDWARE_RESET (R209). -/
  | hardwareReset
  /-- SAMPLE_LINK_FRAME (R1): the bytes clocked in while the frame strobe was asserted. -/
  | sampleLinkFrame (dt : Nat) (bytes : List Byte)
  /-- FRAME_SILENCE_EXPIRY (R11). -/
  | frameSilenceExpiry (dt : Nat) (sen : Sensor)
  /-- RING_READ_GRANT (R183). -/
  | ringReadGrant (dt : Nat)
  /-- PICK_WRITE (R102). -/
  | pickWrite (dt : Nat)
  /-- START_WAIT_TIMEOUT (R171). -/
  | startWaitTimeout (dt : Nat) (p : Port)
  /-- DATA_WAIT_TIMEOUT (R174). -/
  | dataWaitTimeout (dt : Nat) (p : Port)
  /-- TIME_LINK_MESSAGE (R22): the characters that the Time Link has carried since the row before of this kind. -/
  | timeLinkMessage (dt : Nat) (chars : List TimedChar)
  /-- PENDING_MESSAGE_EXPIRY (R23). -/
  | pendingMessageExpiry (dt : Nat)
  /-- SECOND_MARK (R24). -/
  | secondMark (dt : Nat)
  /-- MARK_LOSS (R27). -/
  | markLoss (dt : Nat)
  /-- COMMAND_TRANSACTION (R188): the bytes after the kind byte. -/
  | commandTransaction (dt : Nat) (p : Port) (message : List Byte)
  /-- RESPONSE_TRANSACTION (R190): how many bytes are clocked out after the status byte. -/
  | responseTransaction (dt : Nat) (p : Port) (clocked : Nat)
  /-- SILENCE_TIMEOUT (R191). -/
  | silenceTimeout (dt : Nat) (p : Port)
  /-- ATTENTION_PULSE_END (R209). -/
  | attentionPulseEnd (dt : Nat) (p : Port)
  /-- ATTACH (R159). -/
  | attach (dt : Nat) (p : Port)
  /-- DETACH (R160). -/
  | detach (dt : Nat) (p : Port)
  /-- STATUS (R197). -/
  | status (dt : Nat) (p : Port)
  /-- TAKE (R156). -/
  | take (dt : Nat) (p : Port)
  /-- READ_PICK (R119). -/
  | readPick (dt : Nat) (p : Port) (id : BitVec 16)
  /-- READ_GROUP (R158). -/
  | readGroup (dt : Nat) (p : Port) (id : BitVec 16)
  /-- RETRACT (R116). -/
  | retract (dt : Nat) (p : Port) (id : BitVec 16)
  /-- SET (R201) of an index with no row of its own. -/
  | set (dt : Nat) (p : Port) (index : BitVec 16) (value : BitVec 32)
  /-- SET_QUALITY_THRESHOLD (R83). -/
  | setQualityThreshold (dt : Nat) (p : Port) (sen : Sensor) (which : Threshold) (value : BitVec 32)
  /-- SET_PAGE_SIZE (R51). -/
  | setPageSize (dt : Nat) (p : Port) (value : BitVec 32)
  /-- SET_ARBITER_MODE (R85). -/
  | setArbiterMode (dt : Nat) (p : Port) (value : BitVec 32)
  /-- SET_AGING_LIMIT (R85). -/
  | setAgingLimit (dt : Nat) (p : Port) (value : BitVec 32)
  /-- SET_RING_READ_POLICY (R183). -/
  | setRingReadPolicy (dt : Nat) (p : Port) (value : BitVec 32)
  /-- SET_INTAKE_AUTO_CLEAR (R13). -/
  | setIntakeAutoClear (dt : Nat) (p : Port) (value : BitVec 32)
  /-- SET_MASK (R195). -/
  | setMask (dt : Nat) (p : Port) (value : BitVec 32)
  /-- SET_LINE_MODE (R196). -/
  | setLineMode (dt : Nat) (p : Port) (value : BitVec 32)
  /-- SET_CLEAR_MODE (R197). -/
  | setClearMode (dt : Nat) (p : Port) (value : BitVec 32)
  /-- SET_SILENCE_TIMEOUT (R191). -/
  | setSilenceTimeout (dt : Nat) (p : Port) (value : BitVec 32)
  /-- SET_OFFER_MODE (R149). -/
  | setOfferMode (dt : Nat) (p : Port) (value : BitVec 32)
  /-- GET (R203) of an index other than a sensor's intake status. -/
  | get (dt : Nat) (p : Port) (index : BitVec 16)
  /-- GET_INTAKE_STATUS (R14). -/
  | getIntakeStatus (dt : Nat) (p : Port) (sen : Sensor)
  /-- APPLY_CORRECTION (R17). -/
  | applyCorrection (dt : Nat) (p : Port) (sen : Sensor)
  /-- APPLY_DETECTOR (R70). -/
  | applyDetector (dt : Nat) (p : Port) (sen : Sensor)
  /-- APPLY_REFINEMENT (R84). -/
  | applyRefinement (dt : Nat) (p : Port) (sen : Sensor)
  /-- APPLY_GROUPING (R129). -/
  | applyGrouping (dt : Nat) (p : Port)
  /-- APPLY_PRESETS (R165). -/
  | applyPresets (dt : Nat) (p : Port)
  /-- FREEZE (R205). -/
  | freeze (dt : Nat) (p : Port)
  /-- LOAD_CHAIN (R164). -/
  | loadChain (dt : Nat) (p : Port) (count : Byte) (elements : List ElementWords)
  /-- START_CHAIN (R166). -/
  | startChain (dt : Nat) (p : Port)
  /-- PAUSE_CHAIN (R176). -/
  | pauseChain (dt : Nat) (p : Port)
  /-- RESET_CHAIN (R178). -/
  | resetChain (dt : Nat) (p : Port)
  /-- READ_EXCERPT (R181). -/
  | readExcerpt (dt : Nat) (p : Port) (maximum : Byte)
  /-- ATTN_DONE (R198). -/
  | attnDone (dt : Nat) (p : Port) (classes : BitVec 16)
  /-- SOFT_RESET (R192). -/
  | softReset (dt : Nat) (p : Port)
  /-- IGNORED_TRANSACTION (R187): the bytes of a transaction that is neither kind, or none. -/
  | ignoredTransaction (dt : Nat) (p : Port) (bytes : List Byte)
  deriving DecidableEq, Repr

/-! ### Setting indexes (R208, Table 11-8) -/

/-- Items of area 0x10 + s. -/
inductive CorrectionItem where
  | rate | offsetZ | offsetH1 | offsetH2 | gainZ | gainH1 | gainH2 | cosine | sine | delay
  deriving DecidableEq, Repr

/-- Items of area 0x20 + s, for one channel. -/
inductive ChannelItem where
  | staShift | ltaShift | onThreshold | offThreshold | holdOff | maxTrigger | ltaFloor
  deriving DecidableEq, Repr

/-- Items of area 0x30 + s. -/
inductive RefinementItem where
  | pre | post | pol | threshold (which : Threshold) | pFrac | sFrac | polThr | sectorFloor
  deriving DecidableEq, Repr

/-- Items of area 0x40. -/
inductive GroupingItem where
  | qmax | count | pWindow | sWindow
  deriving DecidableEq, Repr

/-- Items of one preset in area 0x48. -/
inductive PresetItem where
  | lead | length | mask
  deriving DecidableEq, Repr

/-- The indexes of Table 11-8. -/
inductive SettingIndex where
  | correction (sen : Sensor) (item : CorrectionItem)
  | detector (sen : Sensor) (ch : Channel) (item : ChannelItem)
  | refinement (sen : Sensor) (item : RefinementItem)
  | grouping (item : GroupingItem)
  | preset (k : Fin 8) (item : PresetItem)
  | pageSize | arbiterMode | agingLimit | ringReadPolicy | intakeAutoClear
  | mask | lineMode | clearMode | silenceTimeout | offerMode
  | intakeStatus (sen : Sensor) | ringStatus (sen : Sensor) | detectorStatus (sen : Sensor)
  | timeStatus | refinerStatus | tableStatus | groupingStatus | offerStatus | chainStatus
  deriving DecidableEq, Repr

/-- The staged groups an APPLY names (R204). -/
inductive GroupName where
  | correction (sen : Sensor) | detector (sen : Sensor) | refinement (sen : Sensor) | grouping | presets
  deriving DecidableEq, Repr

end Sys2Proof
end

