-- ==== Sys2Proof/Machine/State.lean ====
section
/-! DEFINITION. The state of the AP-43 as plain data, every piece that the manual's tables name, and its values after
hardware reset. Each docstring names the table or rule that gives the piece. -/

namespace Sys2Proof.Machine

/-! ### Families indexed by sensor, port and channel -/

/-- One `α` for each of the four sensors. -/
structure PerSensor (α : Type) where
  s0 : α
  s1 : α
  s2 : α
  s3 : α
  deriving DecidableEq, Repr

def PerSensor.get {α : Type} (v : PerSensor α) : Sensor → α
  | .s0 => v.s0
  | .s1 => v.s1
  | .s2 => v.s2
  | .s3 => v.s3

def PerSensor.set {α : Type} (v : PerSensor α) (i : Sensor) (x : α) : PerSensor α :=
  match i with
  | .s0 => { v with s0 := x }
  | .s1 => { v with s1 := x }
  | .s2 => { v with s2 := x }
  | .s3 => { v with s3 := x }

def PerSensor.all {α : Type} (x : α) : PerSensor α := ⟨x, x, x, x⟩

def PerSensor.map {α β : Type} (f : Sensor → α → β) (v : PerSensor α) : PerSensor β :=
  ⟨f .s0 v.s0, f .s1 v.s1, f .s2 v.s2, f .s3 v.s3⟩

/-- One `α` for each of the two ports. -/
structure PerPort (α : Type) where
  a : α
  b : α
  deriving DecidableEq, Repr

def PerPort.get {α : Type} (v : PerPort α) : Port → α
  | .a => v.a
  | .b => v.b

def PerPort.set {α : Type} (v : PerPort α) (i : Port) (x : α) : PerPort α :=
  match i with
  | .a => { v with a := x }
  | .b => { v with b := x }

def PerPort.all {α : Type} (x : α) : PerPort α := ⟨x, x⟩

def PerPort.map {α β : Type} (f : α → β) (v : PerPort α) : PerPort β := ⟨f v.a, f v.b⟩

/-- One `α` for each of the two channels of a sensor. -/
structure PerChannel (α : Type) where
  p : α
  s : α
  deriving DecidableEq, Repr

def PerChannel.get {α : Type} (v : PerChannel α) : Channel → α
  | .p => v.p
  | .s => v.s

def PerChannel.set {α : Type} (v : PerChannel α) (i : Channel) (x : α) : PerChannel α :=
  match i with
  | .p => { v with p := x }
  | .s => { v with s := x }

def PerChannel.map {α β : Type} (f : Channel → α → β) (v : PerChannel α) : PerChannel β := ⟨f .p v.p, f .s v.s⟩

/-- The two copies of a setting group (00, 0.4 "staged, active"). -/
structure Staged (α : Type) where
  staged : α
  active : α
  deriving DecidableEq, Repr

/-- Both copies at one value. -/
def Staged.both {α : Type} (x : α) : Staged α := ⟨x, x⟩

/-- A sparse store: index and content, indexes strictly rising; an index that is not listed reads as empty (VOID for
a ring slot, invalid for a map entry). -/
abbrev Store (α : Type) := List (Nat × α)

/-! ### Timebase (chapter 2, Table 2-1) -/

/-- Absolute time: seconds and µs. -/
structure AbsTime where
  seconds : Nat
  micros : Nat
  deriving DecidableEq, Repr

inductive TimeState where
  | noTime | locked | holdover
  deriving DecidableEq, Repr

inductive FaultCause where
  | none | step | lost
  deriving DecidableEq, Repr

/-- The pair of corresponding readings from which absolute time is counted (R28). -/
structure Anchor where
  localTime : Nat
  absTime : AbsTime
  deriving DecidableEq, Repr

/-- The last good Time Link message that no mark has taken (R22). -/
structure TimeMessage where
  seconds : Nat
  locked : Bool
  arrival : Nat
  deriving DecidableEq, Repr

structure Timebase where
  state : TimeState
  /-- R21. 64 bits that do not reach their limit in the life of the part: a natural number (DEDUCED, log 6; unsafe
  past 2^64 µs). -/
  localTime : Nat
  anchor : Option Anchor
  /-- R22. The characters of the message that the Time Link is carrying; absent while none has begun. -/
  line : Option (List LineChar)
  /-- R22. The local time since which the Time Link has been idle: the end of its last character, and 0 before the
  first (DESIGN CHOICE, log 38; unsafe for a character in the first 5,000 µs). -/
  idleSince : Nat
  pendingMessage : Option TimeMessage
  lastValidMark : Option Nat
  missedMarks : Nat
  badMessages : Nat
  lastFault : FaultCause
  stepSize : Nat
  deriving DecidableEq, Repr

/-- R33. -/
def Timebase.reset : Timebase :=
  { state := .noTime, localTime := 0, anchor := none, line := none, idleSince := 0, pendingMessage := none,
    lastValidMark := none, missedMarks := 0, badMessages := 0, lastFault := .none, stepSize := 0 }

/-! ### Sample Intake (chapter 1, Tables 1-1 to 1-3) -/

inductive Rate where
  | off | r50 | r100 | r200
  deriving DecidableEq, Repr

/-- Table 1-3. -/
structure CorrectionGroup where
  rate : Rate
  offsetZ : Int
  offsetH1 : Int
  offsetH2 : Int
  gainZ : Nat
  gainH1 : Nat
  gainH2 : Nat
  cosine : Int
  sine : Int
  delay : Nat
  deriving DecidableEq, Repr

/-- The defaults of Table 1-3. -/
def CorrectionGroup.default : CorrectionGroup :=
  { rate := .off, offsetZ := 0, offsetH1 := 0, offsetH2 := 0, gainZ := 16384, gainH1 := 16384, gainH2 := 16384,
    cosine := 16384, sine := 0, delay := 0 }

/-- A corrected sample set with its marks (R4, R16). -/
structure SampleSet where
  z : Int
  n : Int
  e : Int
  held : Bool
  clip : Bool
  cal : Bool
  deriving DecidableEq, Repr

/-- Table 1-2. -/
inductive IntakeState where
  | off | starting | running | gap
  deriving DecidableEq, Repr

inductive IntakeFlag where
  | parity | sequence | gap
  deriving DecidableEq, Repr

/-- The three intake fault flags of a sensor (R12). -/
structure IntakeFlags where
  parity : Bool
  sequence : Bool
  gap : Bool
  deriving DecidableEq, Repr

/-- Table 1-1. A running silence timer holds the local time at which it was last started. -/
structure IntakeRecord where
  state : IntakeState
  expected : Option (BitVec 8)
  lastGood : Option SampleSet
  consecutiveBad : Nat
  consecutiveGood : Nat
  flags : IntakeFlags
  silenceTimer : Option Nat
  offFrames : Nat
  correction : Staged CorrectionGroup
  applyPending : Bool
  deriving DecidableEq, Repr

/-- R19. -/
def IntakeRecord.reset : IntakeRecord :=
  { state := .off, expected := none, lastGood := none, consecutiveBad := 0, consecutiveGood := 0,
    flags := ⟨false, false, false⟩, silenceTimer := none, offFrames := 0, correction := .both .default,
    applyPending := false }

/-! ### Waveform Ring (chapter 3, Tables 3-1 and 3-3) -/

inductive PageSize where
  | p128 | p256 | p512
  deriving DecidableEq, Repr

inductive TimeQuality where
  | locked | holdover | none
  deriving DecidableEq, Repr

inductive PageState where
  | opened | closed
  deriving DecidableEq, Repr

/-- A valid page time map entry (Table 3-3) as the bits that are stored: an entry whose valid mark is clear is not
listed in the map. `quality` codes LOCKED 0, HOLDOVER 1, NONE 2. -/
structure MapEntry where
  startSample : BitVec 48
  localStart : BitVec 64
  absSeconds : BitVec 32
  absMicros : BitVec 20
  quality : BitVec 2
  fill : BitVec 10
  period : BitVec 15
  check : BitVec 9
  deriving DecidableEq, Repr

/-- Table 3-1, but for the reader positions, which stand in the chain records (`ElementRun.level`). -/
structure RingRecord where
  slots : Store SampleSet
  /-- 48-bit sample numbers do not wrap (R34): natural numbers (DEDUCED, log 6; unsafe past 2^48 sets). -/
  newest : Option Nat
  oldest : Option Nat
  newestLocal : Option Nat
  page : Option PageState
  setsInPage : Option Nat
  pageMap : Store MapEntry
  mapCorrected : Nat
  mapFaults : Nat
  deriving DecidableEq, Repr

/-- R52. -/
def RingRecord.reset : RingRecord :=
  { slots := [], newest := none, oldest := none, newestLocal := none, page := none, setsInPage := none, pageMap := [],
    mapCorrected := 0, mapFaults := 0 }

/-- R48. -/
inductive Pressure where
  | none | near | close
  deriving DecidableEq, Repr

/-! ### Detector (chapter 4, Tables 4-1, 4-2 and 4-4) -/

inductive TriggerState where
  | warmup | quiet | triggered | holdoff | blind
  deriving DecidableEq, Repr

/-- One channel's settings of Table 4-4. -/
structure ChannelSettings where
  staShift : Nat
  ltaShift : Nat
  onThreshold : Nat
  offThreshold : Nat
  holdOff : Nat
  maxTrigger : Nat
  ltaFloor : Nat
  deriving DecidableEq, Repr

/-- A sensor's detector group (Table 4-4). -/
abbrev DetectorGroup := PerChannel ChannelSettings

/-- The defaults of Table 4-4. -/
def DetectorGroup.default : DetectorGroup :=
  { p := { staShift := 3, ltaShift := 8, onThreshold := 1024, offThreshold := 512, holdOff := 100, maxTrigger := 6000,
           ltaFloor := 1000 }
    s := { staShift := 4, ltaShift := 9, onThreshold := 1024, offThreshold := 512, holdOff := 100, maxTrigger := 6000,
           ltaFloor := 1000 } }

/-- What a channel holds in TRIGGERED (R62, R63), with the last set that the episode processed: R67 names it as the
end sample of an episode ended by BLIND. -/
structure Episode where
  trigger : Nat
  triggerLocal : Nat
  peak : Nat
  posted : Bool
  last : Nat
  deriving DecidableEq, Repr

/-- Table 4-1. `prev` holds the Z, N and E of the last set processed; the P-channel uses Z, the S-channel N and E. -/
structure ChannelRecord where
  state : TriggerState
  prev : Option (Int × Int × Int)
  sta : Nat
  lta : Nat
  ratio : Nat
  count : Nat
  episode : Option Episode
  lostTriggers : Nat
  deriving DecidableEq, Repr

/-- R75. -/
def ChannelRecord.reset : ChannelRecord :=
  { state := .blind, prev := none, sta := 0, lta := 0, ratio := 0, count := 0, episode := none, lostTriggers := 0 }

structure DetectorRecord where
  channels : PerChannel ChannelRecord
  group : Staged DetectorGroup
  applyPending : Bool
  deriving DecidableEq, Repr

/-- R75. -/
def DetectorRecord.reset : DetectorRecord :=
  { channels := ⟨.reset, .reset⟩, group := .both .default, applyPending := false }

/-! ### Onset Refiner (chapter 5, Tables 5-1 to 5-3) -/

inductive EndCause where
  | detrigger | long | blind
  deriving DecidableEq, Repr

/-- What detrigger information carries beyond the names of its episode (R65). -/
structure EndInfo where
  endSample : Nat
  peak : Nat
  cause : EndCause
  deriving DecidableEq, Repr

/-- The flags of a request and of a pick record (Tables 5-1 and 6-1). -/
structure PickFlags where
  edge : Bool
  truncated : Bool
  gapNear : Bool
  held : Bool
  clip : Bool
  cal : Bool
  groupFull : Bool
  deriving DecidableEq, Repr

def PickFlags.empty : PickFlags := ⟨false, false, false, false, false, false, false⟩

inductive RequestState where
  | pendingData | ready | inProgress
  deriving DecidableEq, Repr

/-- Table 5-1. The sensor is that of the queue. -/
structure RefineRequest where
  channel : Channel
  trigger : Nat
  triggerLocal : Nat
  period : Nat
  state : RequestState
  cut : Option Nat
  info : Option EndInfo
  flags : PickFlags
  passOver : Nat
  deriving DecidableEq, Repr

/-- A sensor's refinement group (Table 5-3). -/
structure RefinementGroup where
  pre : Nat
  post : Nat
  pol : Nat
  q0 : Nat
  q1 : Nat
  q2 : Nat
  pFrac : Nat
  sFrac : Nat
  polThr : Nat
  sectorFloor : Nat
  deriving DecidableEq, Repr

/-- The defaults of Table 5-3. -/
def RefinementGroup.default : RefinementGroup :=
  { pre := 256, post := 64, pol := 32, q0 := 8192, q1 := 2048, q2 := 768, pFrac := 160, sFrac := 96, polThr := 64,
    sectorFloor := 1000000 }

inductive ArbiterMode where
  | rotating | fixed
  deriving DecidableEq, Repr

/-- The refinement in progress (R90, R91): the settings captured at the grant, the window, the next sample number to
read, and the sets read so far, lowest first, `none` for a VOID answer. -/
structure Work where
  sensor : Sensor
  group : RefinementGroup
  windowStart : Nat
  windowEnd : Nat
  readEnd : Nat
  next : Nat
  read : List (Nat × Option SampleSet)
  deriving DecidableEq, Repr

/-- The refiner (5.1 to 5.3). It is BUSY when `work` is present, else STALLED when `stalled`, else IDLE. `gapCut` is
present while the sensor's gap mark is set (R79). -/
structure Refiner where
  queues : PerSensor (List RefineRequest)
  gapCut : PerSensor (Option Nat)
  lost : PerSensor Nat
  groups : PerSensor (Staged RefinementGroup)
  mode : ArbiterMode
  aging : Nat
  lastGranted : Sensor
  stalled : Bool
  work : Option Work
  deriving DecidableEq, Repr

/-- R104. -/
def Refiner.reset : Refiner :=
  { queues := .all [], gapCut := .all none, lost := .all 0, groups := .all (.both .default), mode := .rotating, aging := 4,
    lastGranted := .s3, stalled := false, work := none }

/-! ### Arrival Table (chapter 6, Table 6-1) -/

inductive Phase where
  | p | s | u
  deriving DecidableEq, Repr

inductive PickState where
  | provisional | final | retracted
  deriving DecidableEq, Repr

inductive Polarity where
  | up | down | none
  deriving DecidableEq, Repr

/-- Grouping with the group id that is present in PENDING and GROUPED. -/
inductive Grouping where
  | pending (group : Nat)
  | grouped (group : Nat)
  | single
  deriving DecidableEq, Repr

/-- R121. -/
inductive Delivery where
  | none | waiting | takenProvisional | takenFinal
  deriving DecidableEq, Repr

/-- The fields set together when a record becomes FINAL (R107). -/
structure EndFields where
  endSample : Nat
  duration : Nat
  cause : EndCause
  deriving DecidableEq, Repr

/-- Table 6-1. -/
structure PickRecord where
  id : Nat
  sensor : Sensor
  channel : Channel
  phase : Phase
  state : PickState
  retractedBy : Option Port
  trigger : Nat
  onset : Nat
  onsetLocal : Option Nat
  onsetAbs : Option AbsTime
  quality : TimeQuality
  qualityClass : Nat
  sharpness : Nat
  vertical : Nat
  polarity : Option Polarity
  sector : Option Nat
  amplitude : Nat
  peak : Nat
  ending : Option EndFields
  flags : PickFlags
  grouping : Grouping
  delivery : PerPort Delivery
  deriving DecidableEq, Repr

/-- R108 to R110: the live records in creation order, oldest first, and the next pick id. The other entries of the 64
are free. -/
structure ArrivalTable where
  records : List PickRecord
  nextId : Nat
  deriving DecidableEq, Repr

/-- R125. -/
def ArrivalTable.reset : ArrivalTable := { records := [], nextId := 1 }

/-! ### Coincidence Grouper (chapter 7, Tables 7-1 and 7-2) -/

inductive GroupState where
  | opened | declared | closed
  deriving DecidableEq, Repr

inductive MemberPhase where
  | p | s
  deriving DecidableEq, Repr

structure Member where
  pick : Nat
  sensor : Sensor
  phase : MemberPhase
  deriving DecidableEq, Repr

/-- Table 7-1. -/
structure GroupRecord where
  id : Nat
  state : GroupState
  firstLocal : Nat
  firstAbs : Option AbsTime
  count : Nat
  pWindow : Nat
  sWindow : Nat
  members : List Member
  pCount : Nat
  sCount : Nat
  declareTime : Option Nat
  deriving DecidableEq, Repr

/-- Table 7-2; the windows are in ms. -/
structure GroupingGroup where
  qmax : Nat
  count : Nat
  pWindow : Nat
  sWindow : Nat
  deriving DecidableEq, Repr

/-- The defaults of Table 7-2. -/
def GroupingGroup.default : GroupingGroup := { qmax := 2, count := 2, pWindow := 1500, sWindow := 20000 }

/-- 7.1: the live groups in opening order, oldest first, with the counts. -/
structure Grouper where
  groups : List GroupRecord
  nextId : Nat
  fullCount : Nat
  expired : Nat
  settings : Staged GroupingGroup
  deriving DecidableEq, Repr

/-- R146. -/
def Grouper.reset : Grouper := { groups := [], nextId := 1, fullCount := 0, expired := 0, settings := .both .default }

/-! ### Offer Lists (chapter 8) -/

/-- R148: a notice, by kind, with its subject and the retracting port of a PICK_RETRACTED. -/
inductive Notice where
  | pickNew (pick : Nat)
  | pickFinal (pick : Nat)
  | pickRetracted (pick : Nat) (retractingPort : Port)
  | groupDeclared (group : Nat)
  | groupClosed (group : Nat)
  deriving DecidableEq, Repr

inductive OfferMode where
  | all | grouped
  deriving DecidableEq, Repr

/-- R148, R149. The mode in force is present exactly while the port is ATTACHED. -/
structure OfferRecord where
  notices : List Notice
  mode : Option OfferMode
  setting : OfferMode
  deriving DecidableEq, Repr

/-- R162. -/
def OfferRecord.reset : OfferRecord := { notices := [], mode := none, setting := .all }

/-! ### Excerpt Engine and Ring Read Arbiter (chapter 9) -/

structure CompMask where
  z : Bool
  n : Bool
  e : Bool
  deriving DecidableEq, Repr

/-- A preset (R165); the lead is in ms. -/
structure Preset where
  lead : Nat
  length : Nat
  mask : CompMask
  deriving DecidableEq, Repr

/-- R165. -/
def Preset.default : Preset := { lead := 10000, length := 2048, mask := ⟨true, true, true⟩ }

/-- The 8 presets. -/
structure PresetGroup where
  p0 : Preset
  p1 : Preset
  p2 : Preset
  p3 : Preset
  p4 : Preset
  p5 : Preset
  p6 : Preset
  p7 : Preset
  deriving DecidableEq, Repr

def PresetGroup.default : PresetGroup :=
  ⟨.default, .default, .default, .default, .default, .default, .default, .default⟩

def PresetGroup.get (g : PresetGroup) (k : Fin 8) : Preset :=
  match k with
  | 0 => g.p0
  | 1 => g.p1
  | 2 => g.p2
  | 3 => g.p3
  | 4 => g.p4
  | 5 => g.p5
  | 6 => g.p6
  | 7 => g.p7

def PresetGroup.set (g : PresetGroup) (k : Fin 8) (x : Preset) : PresetGroup :=
  match k with
  | 0 => { g with p0 := x }
  | 1 => { g with p1 := x }
  | 2 => { g with p2 := x }
  | 3 => { g with p3 := x }
  | 4 => { g with p4 := x }
  | 5 => { g with p5 := x }
  | 6 => { g with p6 := x }
  | 7 => { g with p7 := x }

/-- How an element names its start, and what it reads (Table 9-1). -/
inductive ElementKind where
  | bySample (sensor : Sensor) (start : Nat) (length : Nat) (mask : CompMask)
  | byLocal (sensor : Sensor) (start : Nat) (length : Nat) (mask : CompMask)
  | byAbs (sensor : Sensor) (start : AbsTime) (length : Nat) (mask : CompMask)
  | byPick (pick : Nat) (preset : Fin 8)
  deriving DecidableEq, Repr

structure Element where
  kind : ElementKind
  goOn : Bool
  pauseAfter : Bool
  notify : Bool
  deriving DecidableEq, Repr

inductive ChainState where
  | empty | loaded | running | waiting | paused | done | faulted
  deriving DecidableEq, Repr

inductive StartTime where
  | localTime (t : Nat)
  | absolute (t : AbsTime)
  deriving DecidableEq, Repr

inductive StartNote where
  | none | clippedStart | gapSkipped
  deriving DecidableEq, Repr

inductive WaitKind where
  | start | data
  deriving DecidableEq, Repr

inductive PausePoint where
  | startWait | inElement | between
  deriving DecidableEq, Repr

inductive ChainStatus where
  | none | complete | overrun | timeout | noSuchPick
  deriving DecidableEq, Repr

/-- What stands for the current element from its beginning to its end: its sensor, length and mask, taken from the
element itself or, for BY_PICK, from the record and the preset (R170). -/
structure ElementPlan where
  sensor : Sensor
  length : Nat
  mask : CompMask
  deriving DecidableEq, Repr

/-- The resolved start, next unread sample number and progress of the current element (Table 9-2). `level` is present
while the chain holds its reader position, which names the plan's sensor and `next` (R47). -/
structure ElementRun where
  first : Nat
  note : StartNote
  next : Nat
  progress : Nat
  level : Option Pressure
  deriving DecidableEq, Repr

/-- A buffered set (9.3): `content` is absent for the VOID mark, `page` is the page record of its block, absent where
the entry was invalid. `firstNote` and `lastOfElement` keep what R181's notes need (DEDUCED, log 16; safe). -/
structure BufferedSet where
  element : Nat
  sensor : Sensor
  sample : Nat
  mask : CompMask
  content : Option SampleSet
  page : Option MapEntry
  firstNote : StartNote
  lastOfElement : Bool
  deriving DecidableEq, Repr

/-- Table 9-2. The block request is computed (`chainRequests`, R172). -/
structure Chain where
  state : ChainState
  elements : List Element
  current : Option Nat
  plan : Option ElementPlan
  run : Option ElementRun
  pendingStart : Option StartTime
  wait : Option (WaitKind × Nat)
  pausePoint : Option PausePoint
  lastStatus : ChainStatus
  buffer : List BufferedSet
  deriving DecidableEq, Repr

/-- R178, R185: EMPTY, with nothing loaded. -/
def Chain.reset : Chain :=
  { state := .empty, elements := [], current := none, plan := none, run := none, pendingStart := none, wait := none,
    pausePoint := none, lastStatus := .none, buffer := [] }

inductive ReadPath where
  | free | busy
  deriving DecidableEq, Repr

/-- The readers of the ring, in the cyclic order of R184. -/
inductive Reader where
  | refiner
  | chain (p : Port)
  deriving DecidableEq, Repr

inductive ReadPolicy where
  | refinerFirst | equal
  deriving DecidableEq, Repr

/-- 9.7. -/
structure ReadArbiter where
  path : ReadPath
  lastGrant : Reader
  lastChain : Port
  policy : ReadPolicy
  deriving DecidableEq, Repr

/-- R185. -/
def ReadArbiter.reset : ReadArbiter :=
  { path := .free, lastGrant := .chain .b, lastChain := .b, policy := .refinerFirst }

/-! ### Station ports (chapter 10, Table 10-1) -/

/-- Table 10-3. -/
inductive Result where
  | ok | notAttached | badArg | frozen | noSuchPick | noSuchGroup | chainBusy | empty | already | aborted
  deriving DecidableEq, Repr

/-- A response message (11.2): command code, result and data bytes. -/
structure Response where
  code : Byte
  result : Result
  data : List Byte
  deriving DecidableEq, Repr

/-- The command slot (R188 to R190): free, holding a command that is being performed, or holding its response. -/
inductive Slot where
  | idle
  | busy (command : Request)
  | done (response : Response)
  deriving DecidableEq, Repr

/-- Table 10-1. A running silence timer holds the local time at which it was last started. `sent` is what the part sent
on the port's data-out line in the last transaction (R187, R190). -/
structure PortRecord where
  slot : Slot
  reject : Bool
  timeout : Nat
  timer : Option Nat
  sent : List Byte
  deriving DecidableEq, Repr

/-- R191, R206. `sent` is empty (DESIGN CHOICE, log 21: the spec gives no value before a first transaction; unsafe). -/
def PortRecord.reset : PortRecord := { slot := .idle, reject := false, timeout := 30, timer := none, sent := [] }

/-! ### Attention Unit (chapter 10, Tables 10-4 and 10-5) -/

/-- The ten classes, in the bit order of chapter 11.2. -/
inductive AttnClass where
  | offer | tableFull | pickLost | excerptEnd | excerptFault | ringPressure | intakeFault | timeFault | mapFault
  | settingsChanged
  deriving DecidableEq, Repr

/-- A set of classes, one bit each in the order of chapter 11.2. -/
abbrev ClassSet := BitVec 10

inductive LineMode where
  | level | pulse
  deriving DecidableEq, Repr

inductive ClearMode where
  | explicit | onRead
  deriving DecidableEq, Repr

/-- Table 10-4. `pulse` holds the local time at which the pulse in progress began. -/
structure AttnRecord where
  pending : ClassSet
  mask : ClassSet
  lineMode : LineMode
  clearMode : ClearMode
  changedBy : PerPort Bool
  pulse : Option Nat
  deriving DecidableEq, Repr

/-- R200. -/
def AttnRecord.reset : AttnRecord :=
  { pending := 0#10, mask := BitVec.allOnes 10, lineMode := .level, clearMode := .explicit, changedBy := .all false,
    pulse := none }

/-! ### The whole part -/

structure State where
  /-- The queue of commands that wait, first in, first out: the model's, not the part's. -/
  pending : List Instr
  time : Timebase
  malformedFrames : Nat
  autoClear : Bool
  intake : PerSensor IntakeRecord
  pageSize : Staged PageSize
  ring : PerSensor RingRecord
  detector : PerSensor DetectorRecord
  refiner : Refiner
  table : ArrivalTable
  grouper : Grouper
  offers : PerPort OfferRecord
  chains : PerPort Chain
  presets : Staged PresetGroup
  arbiter : ReadArbiter
  ports : PerPort PortRecord
  attention : PerPort AttnRecord
  frozen : Bool
  softResets : Nat
  deriving DecidableEq, Repr

/-- No step of the part stops it (INVENTORY, Faults): there is no reason to give. -/
inductive Fault where
  deriving DecidableEq, Repr

/-- Why a step has no meaning. -/
inductive Refusal where
  /-- Raised by an arm of `exec` whose command has no meaning yet; safe: it proves nothing about the part. -/
  | notModelled (mnemonic : String)
  deriving DecidableEq, Repr

/-- The part right after hardware reset, with nothing waiting (R19, R33, R52, R75, R104, R125, R146, R162, R185, R200,
R205, R206). -/
def State.reset : State :=
  { pending := []
    time := .reset
    malformedFrames := 0
    autoClear := false
    intake := .all .reset
    pageSize := .both .p256
    ring := .all .reset
    detector := .all .reset
    refiner := .reset
    table := .reset
    grouper := .reset
    offers := .all .reset
    chains := .all .reset
    presets := .both .default
    arbiter := .reset
    ports := .all .reset
    attention := .all .reset
    frozen := false
    softResets := 0 }

end Sys2Proof.Machine
end

