-- ==== Sys2Proof/Machine/Arith.lean ====
section
/-! DEFINITION. The manual's arithmetic conventions (spec/00, 0.3.1) and its sparse stores. -/

namespace Sys2Proof.Machine

/-- A 16-bit count that goes up by one and stays at 65,535 once it gets there. -/
def bump (n : Nat) : Nat := min (n + 1) Config.countMax

/-- "Saturated to": a value outside the range is replaced by the nearer end. -/
def saturate (lo hi x : Int) : Int := if x < lo then lo else if hi < x then hi else x

/-- The same clamp on natural numbers (R201, step 3). -/
def clampNat (lo hi x : Nat) : Nat := if x < lo then lo else if hi < x then hi else x

/-- "Rounded to nearest": to the nearest integer, a tie going away from zero, of x / d. -/
def roundDiv (x : Int) (d : Nat) : Int :=
  if x < 0 then -(((2 * x.natAbs + d) / (2 * d) : Nat) : Int) else (((2 * x.natAbs + d) / (2 * d) : Nat) : Int)

/-- "ceil" of a / b. -/
def ceilDiv (a b : Nat) : Nat := (a + b - 1) / b

/-- The sum of a list of integers. -/
def sumInt (l : List Int) : Int := l.foldl (· + ·) 0

/-- The sum of a list of natural numbers. -/
def sumNat (l : List Nat) : Nat := l.foldl (· + ·) 0

/-- The active sample period in µs (Table 0-2). A rate of OFF has no period: 0 is never used as one by a rule. -/
def Rate.period : Rate → Nat
  | .off => 0
  | .r50 => 20000
  | .r100 => 10000
  | .r200 => 5000

/-- R34: the page size in sets. -/
def PageSize.sets : PageSize → Nat
  | .p128 => 128
  | .p256 => 256
  | .p512 => 512

/-- R34: the page count C. -/
def PageSize.pages (p : PageSize) : Nat := Config.ringSlots / p.sets

/-! ### Sparse stores -/

/-- What an index holds; `none` where nothing is listed. -/
def Store.read {α : Type} : Store α → Nat → Option α
  | [], _ => none
  | (i, x) :: rest, k => if i = k then some x else Store.read rest k

/-- The store with one index written. -/
def Store.write {α : Type} : Store α → Nat → α → Store α
  | [], k, v => [(k, v)]
  | (i, x) :: rest, k, v =>
    if k < i then (k, v) :: (i, x) :: rest
    else if k = i then (k, v) :: rest
    else (i, x) :: Store.write rest k v

/-- The store with one index emptied. -/
def Store.erase {α : Type} : Store α → Nat → Store α
  | [], _ => []
  | (i, x) :: rest, k => if i = k then rest else (i, x) :: Store.erase rest k

/-- The store with the indexes `from`, `from + 1`, … (`n` of them) emptied. -/
def Store.eraseRange {α : Type} (m : Store α) (start : Nat) : Nat → Store α
  | 0 => m
  | n + 1 => Store.erase (Store.eraseRange m start n) (start + n)

/-- The canonical form: indexes strictly rising, all above `lo` where one is given. -/
def Store.above {α : Type} : Option Nat → Store α → Bool
  | _, [] => true
  | lo, (i, _) :: rest => (match lo with
      | none => true
      | some l => decide (l < i)) && Store.above (some i) rest

/-- The canonical form of a store: indexes strictly rising, so that equal contents are equal data. -/
def Store.wf {α : Type} (m : Store α) : Bool := Store.above none m

end Sys2Proof.Machine
end

