-- ==== Sys2Proof/Machine/MapCheck.lean ====
section
/-! DEFINITION. The check bits of a page time map entry: an extended Hamming code of 9 bits over the entry's other
fields (3.3, R41). The manual names the code and not the places of its bits: the data bits stand here at the positions
3, 5 to 7, 9 to 15, 17 to 31, 33 to 63, 65 to 127 and 129 to 200 of the code word, lowest first (DESIGN CHOICE, log 7;
safe for up to two bits in error, since every such code gives the same outcomes; unsafe beyond two). -/

namespace Sys2Proof.Machine

/-- An entry's fields as one word, with the valid mark as bit 0. -/
def MapEntry.dataBits (e : MapEntry) : BitVec 192 :=
  e.startSample ++ e.localStart ++ e.absSeconds ++ e.absMicros ++ e.quality ++ e.fill ++ e.period ++ 1#1

/-- The entry whose fields stand in a word. -/
def MapEntry.ofDataBits (d : BitVec 192) (check : BitVec 9) : MapEntry :=
  { startSample := d.extractLsb' 144 48
    localStart := d.extractLsb' 80 64
    absSeconds := d.extractLsb' 48 32
    absMicros := d.extractLsb' 28 20
    quality := d.extractLsb' 26 2
    fill := d.extractLsb' 16 10
    period := d.extractLsb' 1 15
    check := check }

/-- The runs of data bits: first data bit, how many, position of the first in the code word. -/
def codeRuns : List (Nat × Nat × Nat) :=
  [(0, 1, 3), (1, 3, 5), (4, 7, 9), (11, 15, 17), (26, 31, 33), (57, 63, 65), (120, 72, 129)]

/-- The code word of a data word, its check positions 0. -/
def spreadBits (d : Nat) : Nat :=
  codeRuns.foldl (fun w (lo, n, pos) => w + (((d >>> lo) % 2 ^ n) <<< pos)) 0

/-- The data word of a code word. -/
def gatherBits (w : Nat) : Nat :=
  codeRuns.foldl (fun d (lo, n, pos) => d + (((w >>> pos) % 2 ^ n) <<< lo)) 0

/-- The parity of the lowest 256 bits. -/
def parity (x : Nat) : Bool :=
  let x := x ^^^ (x >>> 128)
  let x := x ^^^ (x >>> 64)
  let x := x ^^^ (x >>> 32)
  let x := x ^^^ (x >>> 16)
  let x := x ^^^ (x >>> 8)
  let x := x ^^^ (x >>> 4)
  let x := x ^^^ (x >>> 2)
  let x := x ^^^ (x >>> 1)
  x % 2 == 1

/-- The positions below 256 whose bit `k` is set. -/
def hammingMask (k : Nat) : Nat :=
  ((2 ^ (2 ^ k) - 1) <<< (2 ^ k)) * ((2 ^ 256 - 1) / (2 ^ (2 ^ (k + 1)) - 1))

/-- The eight Hamming bits of a code word. -/
def hammingBits (w : Nat) : Nat :=
  (List.range 8).foldl (fun acc k => acc + ((parity (w &&& hammingMask k)).toNat <<< k)) 0

/-- The 9 check bits of an entry's fields: the Hamming bits, and above them the parity of the whole word. -/
def MapEntry.checkOf (e : MapEntry) : BitVec 9 :=
  let w := spreadBits e.dataBits.toNat
  let h := hammingBits w
  BitVec.ofNat 9 (h + (((parity w).xor (parity h)).toNat <<< 8))

/-- The entry with fresh check bits. -/
def MapEntry.withCheck (e : MapEntry) : MapEntry := { e with check := e.checkOf }

/-- The entry with the data bit at a position of the code word put right. -/
def MapEntry.flipAt (e : MapEntry) (position : Nat) : MapEntry :=
  (MapEntry.ofDataBits (BitVec.ofNat 192 (gatherBits (spreadBits e.dataBits.toNat ^^^ (1 <<< position)))) 0#9).withCheck

/-- The three outcomes of the test (R41). -/
inductive MapTest where
  | clean
  | corrected (e : MapEntry)
  | faulty
  deriving DecidableEq, Repr

/-- R41: the test of a valid entry. The syndrome is the difference of the check bits; an odd number of ones in it is a
single bit in error, whose position its low eight bits name. A name that is no data position, or that of the valid
mark, comes from three bits or more and is taken as uncorrectable. -/
def mapTest (e : MapEntry) : MapTest :=
  let x := e.checkOf.toNat ^^^ e.check.toNat
  let position := x % 256
  if x = 0 then .clean
  else if parity x then
    if position = 0 ∨ position ∈ [1, 2, 4, 8, 16, 32, 64, 128] then .corrected e.withCheck
    else if 3 < position ∧ position ≤ 200 then .corrected (e.flipAt position)
    else .faulty
  else .faulty

end Sys2Proof.Machine
end

