-- ==== Sys2Proof/Decode.lean ====
section
/-! DEFINITION. Decoding: the table's words (none of its rows has bits), the kinds of transaction (R187), command
messages (R188, R189, Table 11-4), setting indexes (R208, Table 11-8) and APPLY areas, each with its encoder. -/

namespace Sys2Proof

/-! ### The opcode table -/

/-- No row of spec/opcode_table.json has bits, so no word spells a command. -/
def decodeTableWord (_nbits _w : Nat) : Option Instr := none

/-! ### Byte order (R207: most significant byte first) -/

/-- `n` bytes that hold `v`, most significant first. -/
def bytesBE : Nat → Nat → List Byte
  | 0, _ => []
  | n + 1, v => BitVec.ofNat 8 (v >>> (8 * n)) :: bytesBE n v

/-- The number that bytes hold, most significant first. -/
def natBE (bs : List Byte) : Nat := bs.foldl (fun acc b => acc * 256 + b.toNat) 0

/-! ### Transactions -/

/-- R187: the row that a transaction of port `p` is, by its kind byte. `bytes` are all bytes the controller sends; in
a RESPONSE transaction every byte after the kind byte clocks out one byte of the response. -/
def transactionRow (dt : Nat) (p : Port) (bytes : List Byte) : Instr :=
  match bytes with
  | [] => .ignoredTransaction dt p []
  | k :: rest =>
    if k = Config.commandKind then .commandTransaction dt p rest
    else if k = Config.responseKind then .responseTransaction dt p rest.length
    else .ignoredTransaction dt p (k :: rest)

/-! ### Command messages -/

/-- The 16 bytes of one LOAD_CHAIN element (11.2). -/
def elementOfBytes : List Byte → Option ElementWords
  | [b0, b1, b2, b3, b4, b5, b6, b7, b8, b9, b10, b11, b12, b13, _, _] =>
    some { kind := b0, selector := b1, start := b2 ++ b3 ++ b4 ++ b5 ++ b6 ++ b7 ++ b8 ++ b9, length := b10 ++ b11,
           mask := b12, flags := b13 }
  | _ => none

/-- `n` elements of 16 bytes, one after another, with nothing left over. -/
def elementsOfBytes : Nat → List Byte → Option (List ElementWords)
  | 0, [] => some []
  | 0, _ :: _ => none
  | n + 1, bs => do
    let e ← elementOfBytes (bs.take 16)
    let rest ← elementsOfBytes n (bs.drop 16)
    pure (e :: rest)

/-- Table 11-4: the command that a code and its argument bytes spell. -/
def requestOfBytes (code : Byte) (args : List Byte) : Option Request :=
  match code.toNat, args with
  | 0x01, [] => some .attach
  | 0x02, [] => some .detach
  | 0x03, [] => some .status
  | 0x04, [] => some .take
  | 0x05, [i1, i0] => some (.readPick (i1 ++ i0))
  | 0x06, [i1, i0] => some (.readGroup (i1 ++ i0))
  | 0x07, [i1, i0] => some (.retract (i1 ++ i0))
  | 0x08, [i1, i0, v3, v2, v1, v0] => some (.set (i1 ++ i0) (v3 ++ v2 ++ v1 ++ v0))
  | 0x09, [i1, i0] => some (.get (i1 ++ i0))
  | 0x0A, [area] => some (.apply area)
  | 0x0B, [] => some .freeze
  | 0x0C, count :: rest => (elementsOfBytes count.toNat rest).map (.loadChain count)
  | 0x0D, [] => some .startChain
  | 0x0E, [] => some .pauseChain
  | 0x0F, [] => some .resetChain
  | 0x10, [n] => some (.readExcerpt n)
  | 0x11, [c1, c0] => some (.attnDone (c1 ++ c0))
  | 0x12, [] => some .softReset
  | _, _ => none

/-- The command code of Table 11-4. -/
def Request.code : Request → Byte
  | .attach => 0x01#8
  | .detach => 0x02#8
  | .status => 0x03#8
  | .take => 0x04#8
  | .readPick _ => 0x05#8
  | .readGroup _ => 0x06#8
  | .retract _ => 0x07#8
  | .set _ _ => 0x08#8
  | .get _ => 0x09#8
  | .apply _ => 0x0A#8
  | .freeze => 0x0B#8
  | .loadChain _ _ => 0x0C#8
  | .startChain => 0x0D#8
  | .pauseChain => 0x0E#8
  | .resetChain => 0x0F#8
  | .readExcerpt _ => 0x10#8
  | .attnDone _ => 0x11#8
  | .softReset => 0x12#8

/-- The 16 bytes of an element, with the unused bytes 14 and 15 as 0. -/
def ElementWords.bytes (e : ElementWords) : List Byte :=
  [e.kind, e.selector] ++ bytesBE 8 e.start.toNat ++ bytesBE 2 e.length.toNat ++ [e.mask, e.flags, 0#8, 0#8]

/-- The argument bytes of Table 11-4. -/
def Request.args : Request → List Byte
  | .readPick id | .readGroup id | .retract id => bytesBE 2 id.toNat
  | .set index value => bytesBE 2 index.toNat ++ bytesBE 4 value.toNat
  | .get index => bytesBE 2 index.toNat
  | .apply area => [area]
  | .loadChain count elements => count :: elements.flatMap ElementWords.bytes
  | .readExcerpt maximum => [maximum]
  | .attnDone classes => bytesBE 2 classes.toNat
  | .attach | .detach | .status | .take | .freeze | .startChain | .pauseChain | .resetChain | .softReset => []

/-- The command message: code, length, arguments (11.2). -/
def Request.message (r : Request) : List Byte :=
  r.code :: BitVec.ofNat 8 r.args.length :: r.args

/-- 11.2: a LOAD_CHAIN's length is 1 + 16 × its element count. -/
def chainLengthOk (len : Byte) : List Byte → Bool
  | [] => false
  | count :: _ => len.toNat == 1 + 16 * count.toNat

/-- R189, step 1: the code and the arguments of a message that is not malformed. A LOAD_CHAIN whose length is not
1 + 16 × its element count fails too (11.2). -/
def formOf (message : List Byte) : Option (Byte × List Byte) :=
  match message with
  | code :: len :: args =>
    if code.toNat < 0x01 ∨ 0x12 < code.toNat then none
    else if args.length ≠ len.toNat then none
    else if code = 0x0C#8 ∧ chainLengthOk len args = false then none
    else some (code, args)
  | _ => none

/-! ### Setting indexes -/

/-- The sensor whose area, of a group whose first area is `base`, is `area` (R208: four in a row). -/
def sensorOfArea (base area : Nat) : Option Sensor :=
  if area < base then none else Sensor.ofNum (area - base)

def CorrectionItem.ofNum : Nat → Option CorrectionItem
  | 0 => some .rate
  | 1 => some .offsetZ
  | 2 => some .offsetH1
  | 3 => some .offsetH2
  | 4 => some .gainZ
  | 5 => some .gainH1
  | 6 => some .gainH2
  | 7 => some .cosine
  | 8 => some .sine
  | 9 => some .delay
  | _ => none

def CorrectionItem.num : CorrectionItem → Nat
  | .rate => 0
  | .offsetZ => 1
  | .offsetH1 => 2
  | .offsetH2 => 3
  | .gainZ => 4
  | .gainH1 => 5
  | .gainH2 => 6
  | .cosine => 7
  | .sine => 8
  | .delay => 9

def ChannelItem.ofNum : Nat → Option ChannelItem
  | 0 => some .staShift
  | 1 => some .ltaShift
  | 2 => some .onThreshold
  | 3 => some .offThreshold
  | 4 => some .holdOff
  | 5 => some .maxTrigger
  | 6 => some .ltaFloor
  | _ => none

def ChannelItem.num : ChannelItem → Nat
  | .staShift => 0
  | .ltaShift => 1
  | .onThreshold => 2
  | .offThreshold => 3
  | .holdOff => 4
  | .maxTrigger => 5
  | .ltaFloor => 6

def RefinementItem.ofNum : Nat → Option RefinementItem
  | 0 => some .pre
  | 1 => some .post
  | 2 => some .pol
  | 3 => some (.threshold .q0)
  | 4 => some (.threshold .q1)
  | 5 => some (.threshold .q2)
  | 6 => some .pFrac
  | 7 => some .sFrac
  | 8 => some .polThr
  | 9 => some .sectorFloor
  | _ => none

def RefinementItem.num : RefinementItem → Nat
  | .pre => 0
  | .post => 1
  | .pol => 2
  | .threshold .q0 => 3
  | .threshold .q1 => 4
  | .threshold .q2 => 5
  | .pFrac => 6
  | .sFrac => 7
  | .polThr => 8
  | .sectorFloor => 9

def GroupingItem.ofNum : Nat → Option GroupingItem
  | 0 => some .qmax
  | 1 => some .count
  | 2 => some .pWindow
  | 3 => some .sWindow
  | _ => none

def GroupingItem.num : GroupingItem → Nat
  | .qmax => 0
  | .count => 1
  | .pWindow => 2
  | .sWindow => 3

def PresetItem.num : PresetItem → Nat
  | .lead => 0
  | .length => 1
  | .mask => 2

/-- Items 3p, 3p + 1 and 3p + 2 of area 0x48 are preset p's. -/
def presetIndexOf (item : Nat) : Option SettingIndex :=
  if h : item / 3 < 8 then
    some (.preset ⟨item / 3, h⟩ (if item % 3 = 0 then .lead else if item % 3 = 1 then .length else .mask))
  else none

/-- Items 0 to 6 of area 0x20 + s are the P-channel's, 8 to 14 the S-channel's; 7 and 15 name nothing. -/
def detectorIndexOf (sen : Sensor) (item : Nat) : Option SettingIndex :=
  if item < 8 then (ChannelItem.ofNum item).map (.detector sen .p)
  else (ChannelItem.ofNum (item - 8)).map (.detector sen .s)

/-- Areas 0x50, 0x60 and 0x78. -/
def partIndexOf (area item : Nat) : Option SettingIndex :=
  match area, item with
  | 0x50, 0 => some .pageSize
  | 0x50, 1 => some .arbiterMode
  | 0x50, 2 => some .agingLimit
  | 0x50, 3 => some .ringReadPolicy
  | 0x50, 4 => some .intakeAutoClear
  | 0x60, 0 => some .mask
  | 0x60, 1 => some .lineMode
  | 0x60, 2 => some .clearMode
  | 0x60, 3 => some .silenceTimeout
  | 0x60, 4 => some .offerMode
  | 0x78, 0 => some .timeStatus
  | 0x78, 1 => some .refinerStatus
  | 0x78, 2 => some .tableStatus
  | 0x78, 3 => some .groupingStatus
  | 0x78, 4 => some .offerStatus
  | 0x78, 5 => some .chainStatus
  | _, _ => none

/-- The status items of area 0x70 + s. -/
def sensorStatusOf (sen : Sensor) (item : Nat) : Option SettingIndex :=
  match item with
  | 0 => some (.intakeStatus sen)
  | 1 => some (.ringStatus sen)
  | 2 => some (.detectorStatus sen)
  | _ => none

/-- Table 11-8 by area and item; `none` is an unknown index. -/
def indexOf (area item : Nat) : Option SettingIndex :=
  match sensorOfArea 0x10 area with
  | some sen => (CorrectionItem.ofNum item).map (.correction sen)
  | none =>
  match sensorOfArea 0x20 area with
  | some sen => detectorIndexOf sen item
  | none =>
  match sensorOfArea 0x30 area with
  | some sen => (RefinementItem.ofNum item).map (.refinement sen)
  | none =>
  match sensorOfArea 0x70 area with
  | some sen => sensorStatusOf sen item
  | none =>
  if area = 0x40 then (GroupingItem.ofNum item).map .grouping
  else if area = 0x48 then presetIndexOf item
  else partIndexOf area item

/-- R208: the high byte names the area and the low byte the item. -/
def decodeIndex (w : BitVec 16) : Option SettingIndex := indexOf (w.toNat / 256) (w.toNat % 256)

/-- The area of an index. -/
def SettingIndex.area : SettingIndex → Nat
  | .correction sen _ => 0x10 + sen.num
  | .detector sen _ _ => 0x20 + sen.num
  | .refinement sen _ => 0x30 + sen.num
  | .grouping _ => 0x40
  | .preset _ _ => 0x48
  | .pageSize | .arbiterMode | .agingLimit | .ringReadPolicy | .intakeAutoClear => 0x50
  | .mask | .lineMode | .clearMode | .silenceTimeout | .offerMode => 0x60
  | .intakeStatus sen | .ringStatus sen | .detectorStatus sen => 0x70 + sen.num
  | .timeStatus | .refinerStatus | .tableStatus | .groupingStatus | .offerStatus | .chainStatus => 0x78

/-- The item of an index. -/
def SettingIndex.item : SettingIndex → Nat
  | .correction _ i => i.num
  | .detector _ .p i => i.num
  | .detector _ .s i => 8 + i.num
  | .refinement _ i => i.num
  | .grouping i => i.num
  | .preset k i => 3 * k.val + i.num
  | .pageSize => 0
  | .arbiterMode => 1
  | .agingLimit => 2
  | .ringReadPolicy => 3
  | .intakeAutoClear => 4
  | .mask => 0
  | .lineMode => 1
  | .clearMode => 2
  | .silenceTimeout => 3
  | .offerMode => 4
  | .intakeStatus _ => 0
  | .ringStatus _ => 1
  | .detectorStatus _ => 2
  | .timeStatus => 0
  | .refinerStatus => 1
  | .tableStatus => 2
  | .groupingStatus => 3
  | .offerStatus => 4
  | .chainStatus => 5

/-- The 2 bytes of an index as one word. -/
def encodeIndex (i : SettingIndex) : BitVec 16 := BitVec.ofNat 16 (i.area * 256 + i.item)

/-- R208: the group that an APPLY area names. -/
def groupOfArea (area : Byte) : Option GroupName :=
  match sensorOfArea 0x10 area.toNat with
  | some sen => some (.correction sen)
  | none =>
  match sensorOfArea 0x20 area.toNat with
  | some sen => some (.detector sen)
  | none =>
  match sensorOfArea 0x30 area.toNat with
  | some sen => some (.refinement sen)
  | none => if area = 0x40#8 then some .grouping else if area = 0x48#8 then some .presets else none

/-- The area of a group. -/
def GroupName.area : GroupName → Byte
  | .correction sen => BitVec.ofNat 8 (0x10 + sen.num)
  | .detector sen => BitVec.ofNat 8 (0x20 + sen.num)
  | .refinement sen => BitVec.ofNat 8 (0x30 + sen.num)
  | .grouping => 0x40#8
  | .presets => 0x48#8

/-! ### Which row performs a command -/

/-- R189, step 3: the row of the opcode table that performs a command of port `p`. `none` for an APPLY that names no
group: no row performs it (log 4). -/
def performingRow (dt : Nat) (p : Port) (r : Request) : Option Instr :=
  match r with
  | .attach => some (.attach dt p)
  | .detach => some (.detach dt p)
  | .status => some (.status dt p)
  | .take => some (.take dt p)
  | .readPick id => some (.readPick dt p id)
  | .readGroup id => some (.readGroup dt p id)
  | .retract id => some (.retract dt p id)
  | .set index value =>
    match decodeIndex index with
    | some (.refinement sen (.threshold q)) => some (.setQualityThreshold dt p sen q value)
    | some .pageSize => some (.setPageSize dt p value)
    | some .arbiterMode => some (.setArbiterMode dt p value)
    | some .agingLimit => some (.setAgingLimit dt p value)
    | some .ringReadPolicy => some (.setRingReadPolicy dt p value)
    | some .intakeAutoClear => some (.setIntakeAutoClear dt p value)
    | some .mask => some (.setMask dt p value)
    | some .lineMode => some (.setLineMode dt p value)
    | some .clearMode => some (.setClearMode dt p value)
    | some .silenceTimeout => some (.setSilenceTimeout dt p value)
    | some .offerMode => some (.setOfferMode dt p value)
    | _ => some (.set dt p index value)
  | .get index =>
    match decodeIndex index with
    | some (.intakeStatus sen) => some (.getIntakeStatus dt p sen)
    | _ => some (.get dt p index)
  | .apply area =>
    match groupOfArea area with
    | some (.correction sen) => some (.applyCorrection dt p sen)
    | some (.detector sen) => some (.applyDetector dt p sen)
    | some (.refinement sen) => some (.applyRefinement dt p sen)
    | some .grouping => some (.applyGrouping dt p)
    | some .presets => some (.applyPresets dt p)
    | none => none
  | .freeze => some (.freeze dt p)
  | .loadChain count elements => some (.loadChain dt p count elements)
  | .startChain => some (.startChain dt p)
  | .pauseChain => some (.pauseChain dt p)
  | .resetChain => some (.resetChain dt p)
  | .readExcerpt maximum => some (.readExcerpt dt p maximum)
  | .attnDone classes => some (.attnDone dt p classes)
  | .softReset => some (.softReset dt p)

/-- The command that a row performs, with its port; `none` for a row that is no performance of a command. -/
def Instr.performs : Instr → Option (Port × Request)
  | .attach _ p => some (p, .attach)
  | .detach _ p => some (p, .detach)
  | .status _ p => some (p, .status)
  | .take _ p => some (p, .take)
  | .readPick _ p id => some (p, .readPick id)
  | .readGroup _ p id => some (p, .readGroup id)
  | .retract _ p id => some (p, .retract id)
  | .set _ p index value => some (p, .set index value)
  | .setQualityThreshold _ p sen q value => some (p, .set (encodeIndex (.refinement sen (.threshold q))) value)
  | .setPageSize _ p value => some (p, .set (encodeIndex .pageSize) value)
  | .setArbiterMode _ p value => some (p, .set (encodeIndex .arbiterMode) value)
  | .setAgingLimit _ p value => some (p, .set (encodeIndex .agingLimit) value)
  | .setRingReadPolicy _ p value => some (p, .set (encodeIndex .ringReadPolicy) value)
  | .setIntakeAutoClear _ p value => some (p, .set (encodeIndex .intakeAutoClear) value)
  | .setMask _ p value => some (p, .set (encodeIndex .mask) value)
  | .setLineMode _ p value => some (p, .set (encodeIndex .lineMode) value)
  | .setClearMode _ p value => some (p, .set (encodeIndex .clearMode) value)
  | .setSilenceTimeout _ p value => some (p, .set (encodeIndex .silenceTimeout) value)
  | .setOfferMode _ p value => some (p, .set (encodeIndex .offerMode) value)
  | .get _ p index => some (p, .get index)
  | .getIntakeStatus _ p sen => some (p, .get (encodeIndex (.intakeStatus sen)))
  | .applyCorrection _ p sen => some (p, .apply (GroupName.area (.correction sen)))
  | .applyDetector _ p sen => some (p, .apply (GroupName.area (.detector sen)))
  | .applyRefinement _ p sen => some (p, .apply (GroupName.area (.refinement sen)))
  | .applyGrouping _ p => some (p, .apply (GroupName.area .grouping))
  | .applyPresets _ p => some (p, .apply (GroupName.area .presets))
  | .freeze _ p => some (p, .freeze)
  | .loadChain _ p count elements => some (p, .loadChain count elements)
  | .startChain _ p => some (p, .startChain)
  | .pauseChain _ p => some (p, .pauseChain)
  | .resetChain _ p => some (p, .resetChain)
  | .readExcerpt _ p maximum => some (p, .readExcerpt maximum)
  | .attnDone _ p classes => some (p, .attnDone classes)
  | .softReset _ p => some (p, .softReset)
  | .hardwareReset | .sampleLinkFrame _ _ | .frameSilenceExpiry _ _ | .ringReadGrant _ | .pickWrite _
  | .startWaitTimeout _ _ | .dataWaitTimeout _ _ | .timeLinkMessage _ _ | .pendingMessageExpiry _ | .secondMark _
  | .markLoss _ | .commandTransaction _ _ _ | .responseTransaction _ _ _ | .silenceTimeout _ _
  | .attentionPulseEnd _ _ | .ignoredTransaction _ _ _ => none

/-- The µs of local time that a row carries; HARDWARE_RESET carries none, since local time starts at 0 when it ends. -/
def Instr.elapsed : Instr → Nat
  | .hardwareReset => 0
  | .sampleLinkFrame dt _ | .frameSilenceExpiry dt _ | .ringReadGrant dt | .pickWrite dt | .startWaitTimeout dt _
  | .dataWaitTimeout dt _ | .timeLinkMessage dt _ | .pendingMessageExpiry dt | .secondMark dt | .markLoss dt
  | .commandTransaction dt _ _ | .responseTransaction dt _ _ | .silenceTimeout dt _ | .attentionPulseEnd dt _
  | .attach dt _ | .detach dt _ | .status dt _ | .take dt _ | .readPick dt _ _ | .readGroup dt _ _ | .retract dt _ _
  | .set dt _ _ _ | .setQualityThreshold dt _ _ _ _ | .setPageSize dt _ _ | .setArbiterMode dt _ _
  | .setAgingLimit dt _ _ | .setRingReadPolicy dt _ _ | .setIntakeAutoClear dt _ _ | .setMask dt _ _
  | .setLineMode dt _ _ | .setClearMode dt _ _ | .setSilenceTimeout dt _ _ | .setOfferMode dt _ _ | .get dt _ _
  | .getIntakeStatus dt _ _ | .applyCorrection dt _ _ | .applyDetector dt _ _ | .applyRefinement dt _ _
  | .applyGrouping dt _ | .applyPresets dt _ | .freeze dt _ | .loadChain dt _ _ _ | .startChain dt _
  | .pauseChain dt _ | .resetChain dt _ | .readExcerpt dt _ _ | .attnDone dt _ _ | .softReset dt _
  | .ignoredTransaction dt _ _ => dt

end Sys2Proof
end

