-- ==== Sys2Proof/Machine/Flags.lean ====
section
/-! DEFINITION. The flags of the part: attention classes and the attention line (10.3), the intake fault flags (1.5),
and the status byte of a station port (R187, Table 11-3). -/

namespace Sys2Proof.Machine

/-! ### Class sets -/

/-- The bit of a class (11.2). -/
def AttnClass.bit : AttnClass → Nat
  | .offer => 0
  | .tableFull => 1
  | .pickLost => 2
  | .excerptEnd => 3
  | .excerptFault => 4
  | .ringPressure => 5
  | .intakeFault => 6
  | .timeFault => 7
  | .mapFault => 8
  | .settingsChanged => 9

/-- The set that holds one class. -/
def AttnClass.only (c : AttnClass) : ClassSet := BitVec.twoPow 10 c.bit

def ClassSet.has (x : ClassSet) (c : AttnClass) : Bool := x.getLsbD c.bit

def ClassSet.insert (x : ClassSet) (c : AttnClass) : ClassSet := x ||| c.only

def ClassSet.erase (x : ClassSet) (c : AttnClass) : ClassSet := x &&& ~~~ c.only

/-! ### The attention record -/

/-- R196: in PULSE mode the line gives one pulse, unless a pulse is in progress. -/
def AttnRecord.pulseNow (r : AttnRecord) (now : Nat) : Option Nat :=
  match r.lineMode, r.pulse with
  | .level, p => p
  | .pulse, some t => some t
  | .pulse, none => some now

/-- R194, R196: a class becomes pending if it was not; unmasked, it acts on the line. -/
def AttnRecord.becomePending (now : Nat) (c : AttnClass) (r : AttnRecord) : AttnRecord :=
  { r with
    pending := ClassSet.insert r.pending c
    pulse := if ClassSet.has r.pending c || ClassSet.has r.mask c then r.pulse else r.pulseNow now }

/-- A class stops being pending; with SETTINGS_CHANGED the changed-by set is emptied (R199). -/
def AttnRecord.clear (c : AttnClass) (r : AttnRecord) : AttnRecord :=
  { r with
    pending := ClassSet.erase r.pending c
    changedBy := if c = .settingsChanged then .all false else r.changedBy }

/-- R197, R198: the classes of `which` that are latched, that is all but OFFER, are cleared. Naming SETTINGS_CHANGED
empties the changed-by set whether or not the class is pending (DEDUCED, log 43: R198 says that naming it "also empties
the changed-by set", and that naming a class that is not pending changes nothing "for that class"; unsafe for a
changed-by set that stands without the class). -/
def AttnRecord.clearLatched (which : ClassSet) (r : AttnRecord) : AttnRecord :=
  { r with
    pending := r.pending &&& ~~~ (ClassSet.erase which .offer)
    changedBy := if ClassSet.has which .settingsChanged then .all false else r.changedBy }

/-- R200: soft reset and port detach empty the pending classes and the changed-by set and end a pulse; mask and modes
stay. -/
def AttnRecord.quieten (r : AttnRecord) : AttnRecord :=
  { r with pending := 0#10, changedBy := .all false, pulse := none }

/-- R195, R196: a SET of the mask. A pending class that is unmasked by it acts on the line as though it had just
become pending. A pulse that is under way is not cut by masking (DESIGN CHOICE, log 15: R195 says only that a masked
class stops acting on the line; unsafe for the width of a pulse whose class is masked). -/
def AttnRecord.setMask (now : Nat) (m : ClassSet) (r : AttnRecord) : AttnRecord :=
  { r with mask := m, pulse := if r.pending &&& r.mask &&& ~~~ m = 0#10 then r.pulse else r.pulseNow now }

/-- R196: a switch of the line mode, either way, ends a pulse; writing the mode that stands is no switch (log 27). -/
def AttnRecord.setLineMode (m : LineMode) (r : AttnRecord) : AttnRecord :=
  { r with lineMode := m, pulse := if m = r.lineMode then r.pulse else none }

/-- The classes that act on the line and on the summary (R195). -/
def AttnRecord.unmasked (r : AttnRecord) : ClassSet := r.pending &&& ~~~ r.mask

/-- R196: whether the port's attention line is asserted (driven high, R209). -/
def AttnRecord.line (r : AttnRecord) : Bool :=
  match r.lineMode with
  | .level => decide (r.unmasked ≠ 0#10)
  | .pulse => r.pulse.isSome

/-- R199: a shared write adds the commanding port to the changed-by set of a port. -/
def AttnRecord.addChangedBy (p : Port) (r : AttnRecord) : AttnRecord :=
  { r with changedBy := r.changedBy.set p true }

/-! ### Raising and clearing in the state -/

/-- A class is raised at one port (R194). -/
def State.raise (s : State) (p : Port) (c : AttnClass) : State :=
  { s with attention := s.attention.set p ((s.attention.get p).becomePending s.time.localTime c) }

/-- A class is raised at both ports. -/
def State.raiseBoth (s : State) (c : AttnClass) : State :=
  { s with attention := s.attention.map (AttnRecord.becomePending s.time.localTime c) }

/-- R199: the write of a shared setting by port `p`: the port joins both changed-by sets, and SETTINGS_CHANGED is raised
at the other port. -/
def settingsNews (now : Nat) (p : Port) (r : PerPort AttnRecord) : PerPort AttnRecord :=
  (r.map (AttnRecord.addChangedBy p)).set p.other
    (AttnRecord.becomePending now .settingsChanged ((r.get p.other).addChangedBy p))

def State.settingsChanged (s : State) (p : Port) : State :=
  { s with attention := settingsNews s.time.localTime p s.attention }

/-- The attention line of a port (R196). -/
def State.attentionLine (s : State) (p : Port) : Bool := (s.attention.get p).line

/-! ### Intake fault flags -/

def IntakeFlags.has (f : IntakeFlags) : IntakeFlag → Bool
  | .parity => f.parity
  | .sequence => f.sequence
  | .gap => f.gap

def IntakeFlags.insert (f : IntakeFlags) : IntakeFlag → IntakeFlags
  | .parity => { f with parity := true }
  | .sequence => { f with sequence := true }
  | .gap => { f with gap := true }

/-- R13, R14: all three flags cleared. -/
def IntakeFlags.none : IntakeFlags := ⟨false, false, false⟩

/-- R12: a flag of a sensor is set; INTAKE_FAULT is raised at both ports when it goes from clear to set. -/
def State.setIntakeFlag (s : State) (sen : Sensor) (f : IntakeFlag) : State :=
  { s with
    intake := s.intake.set sen { s.intake.get sen with flags := (s.intake.get sen).flags.insert f }
    attention := if (s.intake.get sen).flags.has f then s.attention
      else s.attention.map (AttnRecord.becomePending s.time.localTime .intakeFault) }

/-! ### The status byte -/

/-- R149: a port is ATTACHED exactly while its mode in force is present. -/
def State.attached (s : State) (p : Port) : Bool := (s.offers.get p).mode.isSome

/-- The code of the slot state (Table 11-3). -/
def Slot.code : Slot → Nat
  | .idle => 0
  | .busy _ => 1
  | .done _ => 2

/-- R187, Table 11-3: slot state in bits 1:0, reject mark 2, attention summary 3, attachment 4. -/
def State.statusByte (s : State) (p : Port) : Byte :=
  BitVec.ofNat 8 ((s.ports.get p).slot.code + 4 * (s.ports.get p).reject.toNat
    + 8 * (decide ((s.attention.get p).unmasked ≠ 0#10)).toNat + 16 * (s.attached p).toNat)

end Sys2Proof.Machine
end

