-- ==== Sys2Proof/Machine/Ops.lean ====
section
/-! DEFINITION. The named operations over the state: one update for each kind of record, the passing of local time, and
the performance of the command that a slot holds (R189, R190). The AP-43 has no exception entry; what other machines
take as an exception is here a flag, an attention class or a result code. -/

namespace Sys2Proof.Machine

/-- R21: local time rises by one for each µs. -/
def State.elapse (s : State) (dt : Nat) : State :=
  { s with time := { s.time with localTime := s.time.localTime + dt } }

/-- The local time now. -/
def State.now (s : State) : Nat := s.time.localTime

def State.modIntake (s : State) (sen : Sensor) (f : IntakeRecord → IntakeRecord) : State :=
  { s with intake := s.intake.set sen (f (s.intake.get sen)) }

def State.modRing (s : State) (sen : Sensor) (f : RingRecord → RingRecord) : State :=
  { s with ring := s.ring.set sen (f (s.ring.get sen)) }

def State.modDetector (s : State) (sen : Sensor) (f : DetectorRecord → DetectorRecord) : State :=
  { s with detector := s.detector.set sen (f (s.detector.get sen)) }

def State.modChain (s : State) (p : Port) (f : Chain → Chain) : State :=
  { s with chains := s.chains.set p (f (s.chains.get p)) }

def State.modPort (s : State) (p : Port) (f : PortRecord → PortRecord) : State :=
  { s with ports := s.ports.set p (f (s.ports.get p)) }

def State.modAttention (s : State) (p : Port) (f : AttnRecord → AttnRecord) : State :=
  { s with attention := s.attention.set p (f (s.attention.get p)) }

def State.modOffers (s : State) (p : Port) (f : OfferRecord → OfferRecord) : State :=
  { s with offers := s.offers.set p (f (s.offers.get p)) }

def State.modQueue (s : State) (sen : Sensor) (f : List RefineRequest → List RefineRequest) : State :=
  { s with refiner := { s.refiner with queues := s.refiner.queues.set sen (f (s.refiner.queues.get sen)) } }

/-- The correction settings that a sensor's frames use. -/
def State.activeCorrection (s : State) (sen : Sensor) : CorrectionGroup := (s.intake.get sen).correction.active

/-- A sensor's active sample rate. -/
def State.rate (s : State) (sen : Sensor) : Rate := (s.activeCorrection sen).rate

/-- The refinement settings in use for a sensor. -/
def State.activeRefinement (s : State) (sen : Sensor) : RefinementGroup := (s.refiner.groups.get sen).active

/-! ### Performing the command in a slot -/

/-- R189: the response of a command is placed in its slot, which becomes DONE. -/
def State.respond (s : State) (p : Port) (code : Byte) (result : Result) (data : List Byte) : State :=
  s.modPort p fun r => { r with slot := .done { code := code, result := result, data := data } }

/-- What an owning block's rule gives for a command: the state it leaves, the result code and the data. -/
structure Answer where
  state : State
  result : Result
  data : List Byte

/-- R189, step 3: the owning block performs the command that port `p`'s slot holds in BUSY, and the response makes the
slot DONE. The step cannot come when the slot does not hold the command; the state then stays as it is (DESIGN CHOICE,
log 2; safe: nothing is added to what the part does but a step that changes nothing). -/
def State.perform (s : State) (p : Port) (command : Request) (owner : State → Answer) : State :=
  if (s.ports.get p).slot = .busy command then
    (owner s).state.respond p command.code (owner s).result (owner s).data
  else s

end Sys2Proof.Machine
end

