-- ==== Sys2Proof/Machine/Timebase.lean ====
section
/-! DEFINITION. The Timebase (chapter 2): absolute time, marks, Time Link messages, page stamps, and the rows
TIME_LINK_MESSAGE, PENDING_MESSAGE_EXPIRY, SECOND_MARK and MARK_LOSS. -/

namespace Sys2Proof.Machine

/-! ### Absolute time -/

/-- An absolute time as µs. -/
def AbsTime.total (t : AbsTime) : Nat := t.seconds * Config.microsPerSecond + t.micros

/-- Where absolute time comes round to 0 (R28). -/
def absModulus : Nat := Config.secondsModulus * Config.microsPerSecond

/-- R28: µs carry into and borrow from the seconds, which are taken modulo 4,294,967,296. -/
def AbsTime.ofTotal (x : Int) : AbsTime :=
  let n := (x % (absModulus : Int)).toNat
  { seconds := n / Config.microsPerSecond, micros := n % Config.microsPerSecond }

/-- R28: absolute time at a local time, counted from an anchor. -/
def Anchor.absAt (a : Anchor) (t : Nat) : AbsTime :=
  .ofTotal ((a.absTime.total : Int) + (t : Int) - (a.localTime : Int))

/-- R32: an absolute time some µs later. -/
def AbsTime.later (t : AbsTime) (dt : Nat) : AbsTime := .ofTotal ((t.total : Int) + (dt : Int))

/-- R26: the distance of two absolute times in µs, the shorter way round. -/
def AbsTime.distance (x y : AbsTime) : Nat :=
  let d := (((x.total : Int) - (y.total : Int)) % (absModulus : Int)).toNat
  min d (absModulus - d)

/-- R28, R30: absolute time now, absent in NO_TIME. -/
def Timebase.absNow (t : Timebase) : Option AbsTime :=
  match t.state with
  | .noTime => none
  | _ => t.anchor.map (·.absAt t.localTime)

/-- R31: the time quality of a stamp. -/
def TimeState.quality : TimeState → TimeQuality
  | .noTime => .none
  | .locked => .locked
  | .holdover => .holdover

/-- R29: TIME_FAULT with cause LOST. -/
def State.timeLost (s : State) : State :=
  let s1 := { s with time := { s.time with state := .holdover, lastFault := .lost } }
  s1.raiseBoth .timeFault

/-! ### The Time Link -/

/-- R22: a good message's seconds count and reference-locked flag. -/
def parseTimeMessage (chars : List LineChar) : Option (Nat × Bool) :=
  let bytes := chars.map (·.byte)
  match bytes with
  | [b0, b1, b2, b3, b4, b5, b6] =>
    if chars.all (fun c => !c.framingError) = true ∧ b0 = Config.leadByte ∧ b6 = b0 ^^^ b1 ^^^ b2 ^^^ b3 ^^^ b4 ^^^ b5
    then some ((b1 ++ b2 ++ b3 ++ b4).toNat, b5.getLsbD 0)
    else none
  | _ => none

/-- R22, R27: a message has arrived. -/
def State.timeMessage (s : State) (chars : List LineChar) (arrival : Nat) : State :=
  match parseTimeMessage chars with
  | none => { s with time := { s.time with pendingMessage := none, badMessages := bump s.time.badMessages } }
  | some (seconds, locked) =>
    let s1 := { s with time := { s.time with
      pendingMessage := some { seconds := seconds, locked := locked, arrival := arrival } } }
    if locked = false ∧ s.time.state = .locked then s1.timeLost else s1

/-- R22: whether the Time Link has been idle for 5,000 µs at local time `t`. -/
def Timebase.idleAt (x : Timebase) (t : Nat) : Bool := decide (x.idleSince + Config.messageIdle ≤ t)

/-- R22: the message that the line is carrying, if it is carrying one, ends, and arrives after 5,000 µs of idle time. -/
def State.endMessage (s : State) : State :=
  match s.time.line with
  | none => s
  | some chars =>
    State.timeMessage { s with time := { s.time with line := none } } chars (s.time.idleSince + Config.messageIdle)

/-- R22: a character of the Time Link. After 5,000 µs of idle time it begins a message; else it belongs to the one that
the line is carrying, or to none when none has begun. -/
def State.lineChar (s : State) (c : TimedChar) : State :=
  let now := s.time.localTime
  let s1 := if s.time.idleAt (now - c.began) then
      { s.endMessage with time := { s.endMessage.time with line := some [] } }
    else s
  { s1 with time := { s1.time with line := s1.time.line.map (· ++ [c.char]), idleSince := now - c.ended } }

/-- R22: the line's characters are taken, and a message that idle time has ended arrives. -/
def State.timeLink (s : State) (chars : List TimedChar) : State :=
  let s1 := chars.foldl State.lineChar s
  if s1.time.idleAt s1.time.localTime then s1.endMessage else s1

/-- TIME_LINK_MESSAGE (R22). -/
def execTimeLinkMessage (dt : Nat) (chars : List TimedChar) (s : State) : Host.Outcome State Fault Refusal :=
  .next ((s.elapse dt).timeLink chars)

/-- R23: whether the pending message's 1,000,000 µs have passed. -/
def Timebase.messageOverdue (t : Timebase) : Bool :=
  match t.pendingMessage with
  | none => false
  | some m => decide (m.arrival + Config.messageLife ≤ t.localTime)

def State.messageExpiry (s : State) : State :=
  if s.time.messageOverdue then { s with time := { s.time with pendingMessage := none } } else s

/-- PENDING_MESSAGE_EXPIRY (R23). -/
def execPendingMessageExpiry (dt : Nat) (s : State) : Host.Outcome State Fault Refusal :=
  .next (s.elapse dt).messageExpiry

/-! ### Second-marks -/

/-- R26, steps 1 and 2: the difference that the step test finds, absent where no time is held (R25). -/
def Timebase.markDifference (t : Timebase) (markTime : AbsTime) : Option Nat :=
  match t.state with
  | .noTime => none
  | _ => t.anchor.map fun a => AbsTime.distance (a.absAt t.localTime) markTime

/-- R25, R26, step 3: the anchor is renewed and the Timebase is LOCKED. -/
def Timebase.renew (t : Timebase) (markTime : AbsTime) : Timebase :=
  { t with
    state := .locked
    anchor := some { localTime := t.localTime, absTime := markTime }
    lastValidMark := some t.localTime
    pendingMessage := none }

/-- R25, R26: a valid mark. -/
def State.validMark (s : State) (seconds : Nat) : State :=
  let markTime : AbsTime := { seconds := seconds, micros := 0 }
  let renewed := { s with time := s.time.renew markTime }
  match s.time.markDifference markTime with
  | none => renewed
  | some d =>
    if Config.stepTolerance < d then
      let s1 := { s with time := { s.time.renew markTime with
        lastFault := .step, stepSize := min d 4294967295 } }
      s1.raiseBoth .timeFault
    else renewed

/-- R24: an ignored mark. -/
def State.ignoredMark (s : State) : State :=
  { s with time := { s.time with pendingMessage := none, missedMarks := bump s.time.missedMarks } }

/-- R24: a mark is judged by the pending message it finds, and takes it. -/
def State.mark (s : State) : State :=
  match s.time.pendingMessage with
  | some m => if m.locked then s.validMark m.seconds else s.ignoredMark
  | none => s.ignoredMark

/-- SECOND_MARK (R24). -/
def execSecondMark (dt : Nat) (s : State) : Host.Outcome State Fault Refusal :=
  .next (s.elapse dt).mark

/-- R27: whether the mark-loss count has run out; it acts in LOCKED alone. -/
def Timebase.markOverdue (t : Timebase) : Bool :=
  match t.state, t.lastValidMark with
  | .locked, some m => decide (m + Config.markLossLimit ≤ t.localTime)
  | _, _ => false

def State.markLoss (s : State) : State := if s.time.markOverdue then s.timeLost else s

/-- MARK_LOSS (R27). -/
def execMarkLoss (dt : Nat) (s : State) : Host.Outcome State Fault Refusal :=
  .next (s.elapse dt).markLoss

/-! ### Page stamps -/

/-- R31: the local start time of a page whose first set arrived at `arrival`. -/
def State.stampLocal (s : State) (sen : Sensor) (arrival : Nat) : Nat := arrival - (s.activeCorrection sen).delay

/-- R31: the absolute start time of the stamp, absent in NO_TIME. -/
def State.stampAbs (s : State) (localStart : Nat) : Option AbsTime :=
  match s.time.state with
  | .noTime => none
  | _ => s.time.anchor.map (·.absAt localStart)

end Sys2Proof.Machine
end

