-- ==== Sys2Proof/Machine/Ring.lean ====
section
/-! DEFINITION. The Waveform Ring and its page time map (chapter 3): reads, the placing and storing of sets, page
openings and closings, map reads with their test, times of samples and translation of times. -/

namespace Sys2Proof.Machine

/-! ### Reading -/

/-- The answers to a read by sample number (R35). -/
inductive RingAnswer where
  | notYet
  | absent
  | void
  | found (x : SampleSet)
  deriving DecidableEq, Repr

/-- Whether a sample number is below the oldest valid one. -/
def RingRecord.below (r : RingRecord) (n : Nat) : Bool :=
  match r.oldest with
  | none => false
  | some o => decide (n < o)

/-- Whether a sample number is above the newest one, or the ring is empty. -/
def RingRecord.beyond (r : RingRecord) (n : Nat) : Bool :=
  match r.newest with
  | none => true
  | some m => decide (m < n)

/-- R35. -/
def RingRecord.answer (r : RingRecord) (n : Nat) : RingAnswer :=
  if r.beyond n then .notYet
  else if r.below n then .absent
  else match Store.read r.slots (n % Config.ringSlots) with
    | none => .void
    | some x => .found x

/-! ### The page time map -/

/-- R34: the map index of a page number. -/
def PageSize.mapIndex (p : PageSize) (page : Nat) : Nat := page % p.pages

/-- The code of a time quality (R207: in the order of Table 3-3). -/
def TimeQuality.code : TimeQuality → Nat
  | .locked => 0
  | .holdover => 1
  | .none => 2

/-- The time quality of an entry. -/
def MapEntry.timeQuality (e : MapEntry) : TimeQuality :=
  if e.quality = 0#2 then .locked else if e.quality = 1#2 then .holdover else .none

/-- An entry's absolute start time, present in LOCKED and HOLDOVER. -/
def MapEntry.absStart (e : MapEntry) : Option AbsTime :=
  match e.timeQuality with
  | .none => none
  | _ => some { seconds := e.absSeconds.toNat, micros := e.absMicros.toNat }

/-- R41: a read of the map entry of a page of a sensor, with its test. -/
def State.readEntry (s : State) (sen : Sensor) (page : Nat) : State × Option MapEntry :=
  let index := s.pageSize.active.mapIndex page
  match Store.read (s.ring.get sen).pageMap index with
  | none => (s, none)
  | some e =>
    match mapTest e with
    | .clean => (s, some e)
    | .corrected e' =>
      (s.modRing sen fun r =>
        { r with pageMap := Store.write r.pageMap index e', mapCorrected := bump r.mapCorrected }, some e')
    | .faulty =>
      ((s.modRing sen fun r =>
        { r with pageMap := Store.erase r.pageMap index, mapFaults := bump r.mapFaults }).raiseBoth .mapFault, none)

/-- What R43 gives for a sample. -/
structure SetTime where
  localTime : Option Nat
  absTime : Option AbsTime
  quality : TimeQuality
  deriving DecidableEq, Repr

/-- R32, R43: the time of sample `n` by an entry; `stored` is whether the sample is a set and not VOID. -/
def setTimeBy (entry : Option MapEntry) (stored : Bool) (n : Nat) : SetTime :=
  match entry, stored with
  | some e, true =>
    let offset := (n - e.startSample.toNat) * e.period.toNat
    { localTime := some (e.localStart.toNat + offset)
      absTime := e.absStart.map (·.later offset)
      quality := e.timeQuality }
  | _, _ => { localTime := none, absTime := none, quality := .none }

/-- R43: the time of sample `n` of a sensor, by its page's map entry, read and tested. Where the sample's page has been
retired, that page's entry has gone with it (R37): no entry is read, and the sample has no time (DEDUCED, log 37). -/
def State.timeOf (s : State) (sen : Sensor) (n : Nat) : State × SetTime :=
  let entry := s.readEntry sen (n / s.pageSize.active.sets)
  match (s.ring.get sen).answer n with
  | .found _ => (entry.1, setTimeBy entry.2 true n)
  | .void => (entry.1, setTimeBy none false n)
  | _ => (s, setTimeBy none false n)

/-! ### Storing sets -/

/-- R31, R37: the map entry that a page opening writes. -/
def State.newEntry (s : State) (sen : Sensor) (n arrival : Nat) : MapEntry :=
  let localStart := s.stampLocal sen arrival
  let abs := s.stampAbs localStart
  MapEntry.withCheck
    { startSample := BitVec.ofNat 48 n
      localStart := BitVec.ofNat 64 localStart
      absSeconds := BitVec.ofNat 32 ((abs.map (·.seconds)).getD 0)
      absMicros := BitVec.ofNat 20 ((abs.map (·.micros)).getD 0)
      quality := BitVec.ofNat 2 (match abs with
        | some _ => s.time.state.quality.code
        | none => TimeQuality.none.code)
      fill := 1#10
      period := BitVec.ofNat 15 (s.rate sen).period
      check := 0#9 }

/-- R37, step 1: the oldest valid sample number after the opening of page `k` at sample number `n`. -/
def RingRecord.oldestAfterOpening (r : RingRecord) (p : PageSize) (n : Nat) : Option Nat :=
  match r.newest with
  | none => some n
  | some _ =>
    let k := n / p.sets
    if p.pages ≤ k then some (max (r.oldest.getD 0) ((k - p.pages + 1) * p.sets)) else r.oldest

/-- R37: a set opens the page that begins at sample number `n`. -/
def State.openPage (s : State) (sen : Sensor) (set : SampleSet) (n arrival : Nat) : State :=
  let p := s.pageSize.active
  s.modRing sen fun r =>
    { r with
      oldest := r.oldestAfterOpening p n
      pageMap := Store.write r.pageMap (p.mapIndex (n / p.sets)) (s.newEntry sen n arrival)
      slots := Store.write r.slots (n % Config.ringSlots) set
      newest := some n
      page := some .opened
      setsInPage := some 1 }

/-- R42: the fill count of a page's entry is raised by one. -/
def State.raiseFill (s : State) (sen : Sensor) (page : Nat) : State :=
  match s.readEntry sen page with
  | (s1, none) => s1
  | (s1, some e) =>
    let raised : MapEntry := { e with fill := e.fill + 1#10 }
    s1.modRing sen fun r =>
      { r with pageMap := Store.write r.pageMap (s1.pageSize.active.mapIndex page) raised.withCheck }

/-- R36: a set is stored at `n` in the page in use. -/
def State.appendSet (s : State) (sen : Sensor) (set : SampleSet) (n : Nat) : State :=
  let p := s.pageSize.active
  let s1 := s.modRing sen fun r =>
    let sets := r.setsInPage.getD 0 + 1
    { r with
      slots := Store.write r.slots (n % Config.ringSlots) set
      newest := some n
      setsInPage := some sets
      page := some (if sets = p.sets then .closed else .opened) }
  s1.raiseFill sen (n / p.sets)

/-- R39: the rest of the page in use is marked VOID and the page is closed. -/
def RingRecord.closeShort (p : PageSize) (r : RingRecord) : RingRecord :=
  match r.page, r.newest with
  | some .opened, some newest =>
    { r with
      slots := Store.eraseRange r.slots ((newest + 1) % Config.ringSlots) (p.sets - r.setsInPage.getD 0)
      page := some .closed }
  | _, _ => r

/-- R39: the GAP announcement at the ring. -/
def State.closePageShort (s : State) (sen : Sensor) : State :=
  s.modRing sen (RingRecord.closeShort s.pageSize.active)

/-- R38: the start sample number of the page after the page in use; 0 in an empty ring. -/
def RingRecord.nextPageStart (p : PageSize) (r : RingRecord) : Nat :=
  match r.newest with
  | none => 0
  | some newest => (newest / p.sets + 1) * p.sets

/-- R36, R38: the set is placed and stored. -/
def State.placeSet (s : State) (sen : Sensor) (set : SampleSet) (streamStart : Bool) (arrival : Nat) : State :=
  let p := s.pageSize.active
  let r := s.ring.get sen
  match streamStart, r.page, r.newest with
  | true, some .opened, some _ =>
    (s.closePageShort sen).openPage sen set (r.nextPageStart p) arrival
  | false, some .opened, some newest =>
    if (newest + 1) % p.sets = 0 then s.openPage sen set (newest + 1) arrival
    else s.appendSet sen set (newest + 1)
  | _, _, _ => s.openPage sen set (r.nextPageStart p) arrival

/-- R40: the newest local time after the store of sample `n`, which arrived at `arrival`. -/
def State.updateNewestLocal (s : State) (sen : Sensor) (n arrival : Nat) : State :=
  let t := s.timeOf sen n
  t.1.modRing sen fun r =>
    { r with newestLocal := some (t.2.localTime.getD (s.stampLocal sen arrival)) }

/-- R36 to R40: the ring takes a set. -/
def State.storeSet (s : State) (sen : Sensor) (set : SampleSet) (streamStart : Bool) (arrival : Nat) : State :=
  let s1 := s.placeSet sen set streamStart arrival
  s1.updateNewestLocal sen ((s1.ring.get sen).newest.getD 0) arrival

/-! ### Translating a time to a sample number (R44 to R46) -/

/-- The pages of a ring from the newest sample's back to the oldest valid sample's (R44). -/
def RingRecord.pagesBack (p : PageSize) (r : RingRecord) : List Nat :=
  match r.newest with
  | none => []
  | some newest =>
    let last := newest / p.sets
    let first := r.oldest.getD 0 / p.sets
    (List.range (last + 1 - first)).map fun i => last - i

/-- A time in µs on the scale of a translation. -/
def StartTime.micros : StartTime → Nat
  | .localTime t => t
  | .absolute t => t.total

/-- An entry's start on the scale of a translation; absent where the entry does not take part (R44). Spans and set
times of a translation are plain sums (DEDUCED, log 19; unsafe in the second in which absolute time comes round). -/
def MapEntry.startOn (e : MapEntry) : StartTime → Option Nat
  | .localTime _ => some e.localStart.toNat
  | .absolute _ => e.absStart.map (·.total)

/-- What the search has met so far: whether an eligible page, the latest-found smallest start later than t with its
sample number, the eligible pages, and whether some start is not later than t. -/
structure Search where
  met : Bool
  best : Option (Nat × Nat)
  eligible : List Nat
  early : Bool
  deriving DecidableEq, Repr

def Search.start : Search := { met := false, best := none, eligible := [], early := false }

/-- R46: whether GAP_SKIPPED goes with an answer between pages. The answer 0, which has no sample before it, has the
note (DESIGN CHOICE, log 44: R46 speaks of the sample just before alone; unsafe for that note). -/
def RingRecord.gapBefore (r : RingRecord) (p : PageSize) (eligible : List Nat) (n : Nat) : Bool :=
  decide (n = 0) || r.below (n - 1) || (Store.read r.slots ((n - 1) % Config.ringSlots)).isNone
    || !(eligible.contains ((n - 1) / p.sets))

/-- R46: the answer when no eligible page contains t; `none` is not yet (R44). -/
def Search.finish (f : Search) (p : PageSize) (r : RingRecord) : Option (Nat × StartNote) :=
  if f.met = false then none
  else if f.early = false then some (r.oldest.getD 0, .clippedStart)
  else f.best.map fun b => (b.2, if r.gapBefore p f.eligible b.2 then .gapSkipped else .none)

/-- R45: the answer in a page whose span contains t. -/
def MapEntry.answerAt (e : MapEntry) (p : PageSize) (start t : Nat) : Nat × StartNote :=
  let j := ceilDiv (t - start) e.period.toNat
  if j < e.fill.toNat then (e.startSample.toNat + j, .none)
  else (e.startSample.toNat + p.sets, if e.fill.toNat < p.sets then .gapSkipped else .none)

/-- The search goes on past an eligible page that does not contain t. -/
def Search.pass (f : Search) (page : Nat) (e : MapEntry) (start t : Nat) : Search :=
  { met := true
    best := if t < start then
        (match f.best with
        | none => some (start, e.startSample.toNat)
        | some b => if start < b.1 then some (start, e.startSample.toNat) else some b)
      else f.best
    eligible := page :: f.eligible
    early := f.early || decide (start ≤ t) }

/-- R44, R45: the search over the pages that are left, each entry read and tested as it is reached. -/
def searchPages (sen : Sensor) (t : StartTime) : List Nat → Search → State → State × Option (Nat × StartNote)
  | [], f, s => (s, f.finish s.pageSize.active (s.ring.get sen))
  | page :: rest, f, s =>
    let read := s.readEntry sen page
    match read.2 with
    | none => searchPages sen t rest f read.1
    | some e =>
      match e.startOn t with
      | none => searchPages sen t rest f read.1
      | some start =>
        if f.met = false ∧ start + (e.fill.toNat - 1) * e.period.toNat < t.micros then (read.1, none)
        else if start ≤ t.micros ∧ t.micros < start + e.fill.toNat * e.period.toNat then
          (read.1, some (e.answerAt s.pageSize.active start t.micros))
        else searchPages sen t rest (f.pass page e start t.micros) read.1

/-- R44 to R46: the first set of a sensor at or after a time; `none` is not yet. -/
def State.translate (s : State) (sen : Sensor) (t : StartTime) : State × Option (Nat × StartNote) :=
  searchPages sen t ((s.ring.get sen).pagesBack s.pageSize.active) .start s

end Sys2Proof.Machine
end

