-- ==== Sys2Proof/Machine/Offers.lean ====
section
/-! DEFINITION. The Offer Lists (chapter 8): notices, what an attached port is offered, and the merges of R154. -/

namespace Sys2Proof.Machine

/-! ### Notices and lists -/

/-- Whether a notice names a pick. -/
def Notice.namesPick (id : Nat) : Notice → Bool
  | .pickNew i => i == id
  | .pickFinal i => i == id
  | .pickRetracted i _ => i == id
  | .groupDeclared _ => false
  | .groupClosed _ => false

/-- Whether a notice names a group. -/
def Notice.namesGroup (id : Nat) : Notice → Bool
  | .groupDeclared g => g == id
  | .groupClosed g => g == id
  | _ => false

/-- R150: what the Attention Unit hears when a list changes from `old` to `new`. -/
def offerNews (now : Nat) (old new : List Notice) (r : AttnRecord) : AttnRecord :=
  match old, new with
  | [], _ :: _ => r.becomePending now .offer
  | _ :: _, [] => r.clear .offer
  | _, _ => r

/-- The notices of a port's list. -/
def State.notices (s : State) (p : Port) : List Notice := (s.offers.get p).notices

/-- A port's list becomes `l`, and the Attention Unit is told (R150). -/
def State.setNotices (s : State) (p : Port) (l : List Notice) : State :=
  { s with
    offers := s.offers.set p { s.offers.get p with notices := l }
    attention := s.attention.set p (offerNews s.time.localTime (s.offers.get p).notices l (s.attention.get p)) }

/-- R148: a new notice stands at the tail. -/
def State.appendNotice (s : State) (p : Port) (n : Notice) : State := s.setNotices p (s.notices p ++ [n])

/-- The notice in a port's list that names a pick. -/
def State.pickNotice (s : State) (p : Port) (id : Nat) : Option Notice :=
  (s.notices p).find? (Notice.namesPick id)

/-- The notice in a port's list that names a group. -/
def State.groupNotice (s : State) (p : Port) (id : Nat) : Option Notice :=
  (s.notices p).find? (Notice.namesGroup id)

/-! ### Records and delivery fields -/

/-- The live record that holds an id. -/
def State.findPick (s : State) (id : Nat) : Option PickRecord := s.table.records.find? fun r => r.id == id

/-- The record that holds an id, changed. -/
def State.modPick (s : State) (id : Nat) (f : PickRecord → PickRecord) : State :=
  { s with table := { s.table with records := s.table.records.map fun r => if r.id = id then f r else r } }

/-- A port's delivery field of a record. -/
def State.delivery (s : State) (p : Port) (id : Nat) : Delivery :=
  match s.findPick id with
  | none => .none
  | some r => r.delivery.get p

/-- R121: a port's delivery field of a record becomes `d`. -/
def State.setDelivery (s : State) (p : Port) (id : Nat) (d : Delivery) : State :=
  s.modPick id fun r => { r with delivery := r.delivery.set p d }

/-! ### Offering -/

/-- R151, R121: PICK_NEW naming the record is appended to a port's list, and its delivery field becomes WAITING. -/
def State.offerPick (s : State) (p : Port) (id : Nat) : State :=
  (s.appendNotice p (.pickNew id)).setDelivery p id .waiting

/-- R151: whether a port in a mode is offered a record of a grouping. -/
def OfferMode.offers : OfferMode → Grouping → Bool
  | _, .pending _ => false
  | _, .grouped _ => true
  | .all, .single => true
  | .grouped, .single => false

/-- Do `f` for each port that is ATTACHED, with its mode in force (R149: other ports are passed over). -/
def State.eachAttached (s : State) (f : State → Port → OfferMode → State) : State :=
  let one (t : State) (p : Port) : State :=
    match (t.offers.get p).mode with
    | none => t
    | some m => f t p m
  one (one s .a) .b

/-- R151: a new record is offered by each port's mode in force. -/
def State.offerNew (s : State) (id : Nat) : State :=
  match s.findPick id with
  | none => s
  | some r => s.eachAttached fun t p m => if m.offers r.grouping then t.offerPick p id else t

/-- R152: a declaration is reported: PICK_NEW for each named member in order, then GROUP_DECLARED, in both modes. -/
def State.offerDeclaration (s : State) (members : List Nat) (group : Nat) : State :=
  s.eachAttached fun t p _ =>
    (members.foldl (fun u id => u.offerPick p id) t).appendNotice p (.groupDeclared group)

/-- R153: a member that expiry made SINGLE is offered to ports in ALL mode. -/
def State.offerExpired (s : State) (id : Nat) : State :=
  s.eachAttached fun t p m => if m = .all then t.offerPick p id else t

/-! ### Merges (R154) -/

/-- A record became FINAL. -/
def State.mergeFinal (s : State) (id : Nat) : State :=
  s.eachAttached fun t p _ =>
    match t.pickNotice p id with
    | some _ => t
    | none => if t.delivery p id = .takenProvisional then t.appendNotice p (.pickFinal id) else t

/-- The list without the notices that name a pick. -/
def dropPick (id : Nat) (l : List Notice) : List Notice := l.filter fun n => !n.namesPick id

/-- R154: a PICK_FINAL of the pick is changed in place to PICK_RETRACTED. -/
def retractInPlace (id : Nat) (by_ : Port) (l : List Notice) : List Notice :=
  l.map fun n => if n = .pickFinal id then .pickRetracted id by_ else n

/-- R154: the merge of a retraction by port `by_` into one port's list. -/
def State.mergeRetractionAt (s : State) (id : Nat) (by_ p : Port) : State :=
  match s.pickNotice p id with
  | some (.pickNew _) =>
    let t := s.setNotices p (dropPick id (s.notices p))
    if s.delivery p id = .waiting then t.setDelivery p id .none else t
  | some (.pickFinal _) =>
    if p = by_ then s.setNotices p (dropPick id (s.notices p))
    else s.setNotices p (retractInPlace id by_ (s.notices p))
  | some _ => s
  | none =>
    if p ≠ by_ ∧ (s.delivery p id = .takenProvisional ∨ s.delivery p id = .takenFinal) then
      s.appendNotice p (.pickRetracted id by_)
    else s

/-- R154: a record became RETRACTED by port `by_`. -/
def State.mergeRetraction (s : State) (id : Nat) (by_ : Port) : State :=
  s.eachAttached fun t p _ => t.mergeRetractionAt id by_ p

/-- R154: a GROUP_DECLARED of the group is changed in place to GROUP_CLOSED. -/
def closeInPlace (group : Nat) (l : List Notice) : List Notice :=
  l.map fun n => if n = .groupDeclared group then .groupClosed group else n

/-- R154: a group closed. -/
def State.mergeClosing (s : State) (group : Nat) : State :=
  s.eachAttached fun t p _ =>
    match t.groupNotice p group with
    | some _ => t.setNotices p (closeInPlace group (t.notices p))
    | none => t.appendNotice p (.groupClosed group)

end Sys2Proof.Machine
end

