-- ==== Sys2Proof/Machine/Table.lean ====
section
/-! DEFINITION. The Arrival Table (chapter 6): ids, finalization and release. -/

namespace Sys2Proof.Machine

/-! ### Ids (R109, R128) -/

/-- The id after an id: 1 after 65,535. -/
def idAfter (id : Nat) : Nat := if Config.idMax ≤ id then 1 else id + 1

/-- The first candidate, counting from `id`, that is not held; `fuel` candidates are looked at. -/
def firstFree (held : List Nat) : Nat → Nat → Nat
  | 0, id => id
  | fuel + 1, id => if held.contains id then firstFree held fuel (idAfter id) else id

/-! ### Release (R123, R124) -/

/-- R123, condition 4: a group that is OPEN or DECLARED lists the pick. -/
def State.listedLive (s : State) (id : Nat) : Bool :=
  s.grouper.groups.any fun g => decide (g.state ≠ .closed) && g.members.any fun m => m.pick == id

/-- R123: conditions 2 and 3 at one port; a detached port takes no part in them. -/
def State.portNeeds (s : State) (p : Port) (r : PickRecord) : Bool :=
  s.attached p && ((s.notices p).any (Notice.namesPick r.id)
    || !(decide (r.state = .retracted) || decide (r.delivery.get p = .none) || decide (r.delivery.get p = .takenFinal)))

/-- Whether a grouping is PENDING. -/
def Grouping.isPending : Grouping → Bool
  | .pending _ => true
  | _ => false

/-- R123: all four conditions hold for a live record. -/
def State.releasable (s : State) (r : PickRecord) : Bool :=
  decide (r.state ≠ .provisional) && !s.portNeeds .a r && !s.portNeeds .b r && !r.grouping.isPending
    && !s.listedLive r.id

/-- The table without the record that holds an id (R110, R124). -/
def ArrivalTable.free (t : ArrivalTable) (id : Nat) : ArrivalTable :=
  { t with records := t.records.filter fun r => r.id != id }

/-- R124: the release test of a record; when it passes, the record is freed. -/
def State.releaseTest (s : State) (id : Nat) : State :=
  match s.findPick id with
  | none => s
  | some r => if s.releasable r then { s with table := s.table.free id } else s

/-- The release test for each of a list of ids, in order. -/
def State.releaseTests (s : State) (ids : List Nat) : State := ids.foldl State.releaseTest s

/-! ### Finishing a record (R107, R114) -/

/-- R107: the duration, 0 when the onset is later than the end. -/
def durationOf (endSample onset : Nat) : Nat := endSample - onset

/-- R107: a record with the end of its episode. -/
def PickRecord.finish (r : PickRecord) (info : EndInfo) : PickRecord :=
  { r with
    state := .final
    peak := info.peak
    ending := some { endSample := info.endSample, duration := durationOf info.endSample r.onset, cause := info.cause } }

/-- The live record of an episode (R114). -/
def State.findEpisode (s : State) (sen : Sensor) (ch : Channel) (trigger : Nat) : Option PickRecord :=
  s.table.records.find? fun r => decide (r.sensor = sen) && decide (r.channel = ch) && r.trigger == trigger

/-- R114: detrigger information reaches the Arrival Table. -/
def State.finalize (s : State) (sen : Sensor) (ch : Channel) (trigger : Nat) (info : EndInfo) : State :=
  match s.findEpisode sen ch trigger with
  | none => s
  | some r =>
    if r.state = .provisional then
      (((s.modPick r.id fun x => x.finish info).mergeFinal r.id).releaseTest r.id)
    else s

end Sys2Proof.Machine
end

