-- ==== Sys2Proof/Machine/Grouper.lean ====
section
/-! DEFINITION. The Coincidence Grouper (chapter 7): window completeness, joining, declaration, expiry, closing,
freeing and retraction of members. -/

namespace Sys2Proof.Machine

/-! ### Completeness (R137) -/

/-- R82: the earliest onset time of a request, which may lie below 0. -/
def State.earliestOnset (s : State) (sen : Sensor) (q : RefineRequest) : Int :=
  let pre := match q.state, s.refiner.work with
    | .inProgress, some w => w.group.pre
    | _, _ => (s.activeRefinement sen).pre
  let period := if s.rate sen = .off then q.period else (s.rate sen).period
  (q.triggerLocal : Int) - ((pre * period : Nat) : Int)

/-- Both channels of a sensor are BLIND (they enter and leave BLIND together, 4.1). -/
def DetectorRecord.blind (d : DetectorRecord) : Bool :=
  decide (d.channels.p.state = .blind) && decide (d.channels.s.state = .blind)

/-- R137, condition 1, for one sensor and a window that ends at `w`. -/
def State.trailing (s : State) (w : Nat) (sen : Sensor) : Bool :=
  decide (s.rate sen = .off) || (s.detector.get sen).blind
    || (match (s.ring.get sen).newestLocal with
      | none => false
      | some t => decide (w + (s.activeRefinement sen).pre * (s.rate sen).period < t))

/-- R137, condition 2, for one sensor's queue. -/
def State.noReach (s : State) (w : Nat) (sen : Sensor) : Bool :=
  (s.refiner.queues.get sen).all fun q => decide ((w : Int) < s.earliestOnset sen q)

/-- R137: a window that ends at `w` is complete. -/
def State.windowComplete (s : State) (w : Nat) : Bool :=
  Sensor.list.all (s.trailing w) && Sensor.list.all (s.noReach w)

/-! ### Group records -/

def State.findGroup (s : State) (id : Nat) : Option GroupRecord := s.grouper.groups.find? fun g => g.id == id

def State.modGroup (s : State) (id : Nat) (f : GroupRecord → GroupRecord) : State :=
  { s with grouper := { s.grouper with groups := s.grouper.groups.map fun g => if g.id = id then f g else g } }

/-- R128: a group record becomes free. -/
def State.freeGroup (s : State) (id : Nat) : State :=
  { s with grouper := { s.grouper with groups := s.grouper.groups.filter fun g => g.id != id } }

/-- R138: the P window end. -/
def GroupRecord.pEnd (g : GroupRecord) : Nat := g.firstLocal + g.pWindow * 1000

/-- R138: the close end. -/
def GroupRecord.closeEnd (g : GroupRecord) : Nat := g.firstLocal + max g.pWindow g.sWindow * 1000

/-- R142: some attached port's list names the group. -/
def State.groupNamed (s : State) (id : Nat) : Bool :=
  (s.attached .a && (s.notices .a).any (Notice.namesGroup id))
    || (s.attached .b && (s.notices .b).any (Notice.namesGroup id))

/-- R142: the freeing test of a group; a CLOSED group that no attached list names is freed. -/
def State.groupFreeTest (s : State) (id : Nat) : State :=
  match s.findGroup id with
  | none => s
  | some g => if g.state = .closed ∧ s.groupNamed id = false then s.freeGroup id else s

/-- The freeing test for every group (R160, step 4; a group that is not CLOSED is left). -/
def State.groupFreeTests (s : State) : State :=
  (s.grouper.groups.map (·.id)).foldl State.groupFreeTest s

/-- A pick's grouping changed. -/
def State.setGrouping (s : State) (id : Nat) (g : Grouping) : State :=
  s.modPick id fun r => { r with grouping := g }

/-! ### Expiry and closing (R140, R141) -/

/-- The picks of a group without the pick that is being handed to the grouper. -/
def GroupRecord.others (g : GroupRecord) (handling : Option Nat) : List Nat :=
  (g.members.map (·.pick)).filter fun id => handling ≠ some id

/-- R140: an OPEN group expires. `handling` is the pick being handed to the grouper, which is not told to the Offer
Lists here. The release tests are made once the group is freed, since an OPEN group that lists a record holds it, and
the pick being handled is tested at R112, step 3 (DEDUCED, log 9 and 10; unsafe for the moment of the tests). -/
def State.expireGroup (s : State) (g : GroupRecord) (handling : Option Nat) : State :=
  let s1 := (g.members.map (·.pick)).foldl (fun t id => t.setGrouping id .single) s
  let s2 := (g.others handling).foldl State.offerExpired s1
  let s3 := s2.freeGroup g.id
  let s4 := { s3 with grouper := { s3.grouper with expired := bump s3.grouper.expired } }
  s4.releaseTests (g.others handling)

/-- R141: a DECLARED group closes. -/
def State.closeGroup (s : State) (g : GroupRecord) (handling : Option Nat) : State :=
  let s1 := s.modGroup g.id fun x => { x with state := .closed }
  let s2 := s1.mergeClosing g.id
  let s3 := s2.releaseTests (g.others handling)
  s3.groupFreeTest g.id

/-- R138: the completeness test of one group. -/
def State.testGroup (s : State) (handling : Option Nat) (id : Nat) : State :=
  match s.findGroup id with
  | none => s
  | some g =>
    match g.state with
    | .opened => if s.windowComplete g.pEnd then s.expireGroup g handling else s
    | .declared => if s.windowComplete g.closeEnd then s.closeGroup g handling else s
    | .closed => s

/-- R138, R139: every OPEN and DECLARED group is tested, oldest first. -/
def State.testGroups (s : State) : State :=
  (s.grouper.groups.map (·.id)).foldl (fun t id => t.testGroup none id) s

/-! ### Declaration (R135, R136) -/

/-- The onset local time by which the report orders its members. -/
def State.onsetTime (s : State) (id : Nat) : Nat :=
  match s.findPick id with
  | none => 0
  | some r => r.onsetLocal.getD 0

/-- A pick in its place among picks ordered by onset, after those of equal onset. -/
def State.insertByOnset (s : State) (id : Nat) : List Nat → List Nat
  | [] => [id]
  | x :: rest => if s.onsetTime id < s.onsetTime x then id :: x :: rest else x :: s.insertByOnset id rest

/-- R136: members in order of onset local time, those of equal onset in join order. -/
def State.byOnset (s : State) (ids : List Nat) : List Nat :=
  ids.foldl (fun acc id => s.insertByOnset id acc) []

/-- Whether a pick's grouping is PENDING. -/
def State.isPending (s : State) (id : Nat) : Bool :=
  match s.findPick id with
  | none => false
  | some r => r.grouping.isPending

/-- R135: an OPEN group is declared while pick `handling` is handed to the grouper. -/
def State.declareGroup (s : State) (g : GroupRecord) (handling : Nat) : State :=
  let changed := (g.members.map (·.pick)).filter s.isPending
  let s1 := s.modGroup g.id fun x => { x with state := .declared, declareTime := some s.time.localTime }
  let s2 := changed.foldl (fun t id => t.setGrouping id (.grouped g.id)) s1
  let s3 := s2.offerDeclaration (s.byOnset changed) g.id
  let s4 := s3.releaseTests (changed.filter fun id => id ≠ handling)
  s4.testGroup (some handling) g.id

/-- R135: a group is declared when it is OPEN and its P count has reached its captured M. -/
def State.declareIfReached (s : State) (groupId handling : Nat) : State × Bool :=
  match s.findGroup groupId with
  | none => (s, false)
  | some g => if g.state = .opened ∧ g.count ≤ g.pCount then (s.declareGroup g handling, true) else (s, false)

/-! ### Joining (R130 to R134) -/

/-- Whether a group lists an entry of a sensor and a phase. -/
def GroupRecord.has (g : GroupRecord) (sen : Sensor) (ph : MemberPhase) : Bool :=
  g.members.any fun m => decide (m.sensor = sen) && decide (m.phase = ph)

/-- R131: a P pick with onset `t` may join the group. -/
def GroupRecord.admitsP (g : GroupRecord) (sen : Sensor) (t : Nat) : Bool :=
  decide (g.state ≠ .closed) && !g.has sen .p && decide (t ≤ g.firstLocal + g.pWindow * 1000)
    && decide (g.firstLocal ≤ t)

/-- R133: an S pick with onset `t` may join the group. -/
def GroupRecord.admitsS (g : GroupRecord) (sen : Sensor) (t : Nat) : Bool :=
  decide (g.state ≠ .closed) && !g.has sen .s && decide (g.firstLocal ≤ t)
    && decide (t - g.firstLocal ≤ g.sWindow * 1000)

/-- R133: of two groups, the later first-P onset, and among equal ones the later in the opening order. -/
def latestGroup : Option GroupRecord → List GroupRecord → Option GroupRecord
  | best, [] => best
  | none, g :: rest => latestGroup (some g) rest
  | some b, g :: rest => latestGroup (some (if b.firstLocal ≤ g.firstLocal then g else b)) rest

/-- An entry is appended to a group's member list, with its count. -/
def GroupRecord.join (g : GroupRecord) (m : Member) : GroupRecord :=
  { g with
    members := g.members ++ [m]
    pCount := if m.phase = .p then g.pCount + 1 else g.pCount
    sCount := if m.phase = .s then g.sCount + 1 else g.sCount }

/-- The grouping that a join gives: PENDING in an OPEN group, GROUPED in a DECLARED one. -/
def GroupRecord.groupingOf (g : GroupRecord) : Grouping :=
  if g.state = .opened then .pending g.id else .grouped g.id

/-- R131, R133: a pick joins a group. -/
def State.joinGroup (s : State) (r : PickRecord) (g : GroupRecord) (ph : MemberPhase) : State :=
  (s.modGroup g.id fun x => x.join { pick := r.id, sensor := r.sensor, phase := ph }).setGrouping r.id g.groupingOf

/-- R128, R132: the record of a group that a P pick opens. -/
def State.newGroup (s : State) (r : PickRecord) (t : Nat) : GroupRecord :=
  { id := firstFree (s.grouper.groups.map (·.id)) (Config.groupCapacity + 1) s.grouper.nextId
    state := .opened
    firstLocal := t
    firstAbs := r.onsetAbs
    count := s.grouper.settings.active.count
    pWindow := s.grouper.settings.active.pWindow
    sWindow := s.grouper.settings.active.sWindow
    members := [{ pick := r.id, sensor := r.sensor, phase := .p }]
    pCount := 1
    sCount := 0
    declareTime := none }

/-- R132: a P pick that joins no group opens one, or becomes SINGLE with GROUP_FULL. -/
def State.openGroup (s : State) (r : PickRecord) (t : Nat) : State :=
  if s.grouper.groups.length < Config.groupCapacity then
    let g := s.newGroup r t
    let s1 := { s with grouper := { s.grouper with
      groups := s.grouper.groups ++ [g], nextId := idAfter g.id } }
    s1.setGrouping r.id (.pending g.id)
  else
    let s1 := { s with grouper := { s.grouper with fullCount := bump s.grouper.fullCount } }
    s1.modPick r.id fun x => { x with grouping := .single, flags := { x.flags with groupFull := true } }

/-- R134: after a pick's join or opening: declaration, then the completeness test of the group. Answers whether the
pick was named in a declaration report. -/
def State.afterJoin (s : State) (pick groupId : Nat) : State × Bool :=
  let d := s.declareIfReached groupId pick
  (d.1.testGroup (some pick) groupId, d.2)

/-- R131, R132: a P pick is placed. -/
def State.placeP (s : State) (r : PickRecord) (t : Nat) : State × Bool :=
  match s.grouper.groups.find? fun g => g.admitsP r.sensor t with
  | some g => (s.joinGroup r g .p).afterJoin r.id g.id
  | none =>
    if s.grouper.groups.length < Config.groupCapacity then
      (s.openGroup r t).afterJoin r.id (s.newGroup r t).id
    else (s.openGroup r t, false)

/-- R133: an S pick is placed. -/
def State.placeS (s : State) (r : PickRecord) (t : Nat) : State × Bool :=
  match latestGroup none (s.grouper.groups.filter fun g => g.admitsS r.sensor t) with
  | some g =>
    let s1 := s.joinGroup r g .s
    (s1.testGroup (some r.id) g.id, false)
  | none => (s.setGrouping r.id .single, false)

/-- R130: a new record is handed to the grouper. Answers whether a declaration report named it. -/
def State.groupPick (s : State) (id : Nat) : State × Bool :=
  match s.findPick id with
  | none => (s, false)
  | some r =>
    match r.onsetLocal with
    | none => (s.setGrouping id .single, false)
    | some t =>
      if s.grouper.settings.active.qmax < r.qualityClass then (s.setGrouping id .single, false)
      else match r.phase with
        | .u => (s.setGrouping id .single, false)
        | .p => s.placeP r t
        | .s => s.placeS r t

/-! ### Retraction of members (R143) -/

/-- An entry leaves a group's member list, with its count. -/
def GroupRecord.leave (g : GroupRecord) (pick : Nat) : GroupRecord :=
  match g.members.find? fun m => m.pick == pick with
  | none => g
  | some m =>
    { g with
      members := g.members.filter fun x => x.pick != pick
      pCount := if m.phase = .p then g.pCount - 1 else g.pCount
      sCount := if m.phase = .s then g.sCount - 1 else g.sCount }

/-- R143: a retracted member leaves its OPEN or DECLARED group; an OPEN group that it leaves empty is freed. -/
def State.leaveGroup (s : State) (pick groupId : Nat) : State :=
  match s.findGroup groupId with
  | none => s
  | some g =>
    if g.state = .closed then s
    else
      let g' := g.leave pick
      if g.state = .opened ∧ g'.members = [] then s.freeGroup groupId
      else s.modGroup groupId fun _ => g'

/-- R117, step 1, R143: a record that has just become RETRACTED is handed to the grouper. -/
def State.groupRetract (s : State) (r : PickRecord) : State :=
  match r.grouping with
  | .single => s
  | .pending g | .grouped g => (s.leaveGroup r.id g).setGrouping r.id .single

end Sys2Proof.Machine
end

