-- ==== Sys2Proof/Machine/Signal.lean ====
section
/-! DEFINITION. The signal arithmetic: differences, energies, averages and ratio (4.2, 4.3) and the arithmetic of a
pick (5.5). All products and sums are exact. -/

namespace Sys2Proof.Machine

/-! ### Differences and energies -/

/-- A difference of two sets on Z, N and E. -/
abbrev Diff := Int × Int × Int

/-- R55, R94: the difference to the set before, 0 where there is none. -/
def diffOf (prev : Option SampleSet) (x : SampleSet) : Diff :=
  match prev with
  | none => (0, 0, 0)
  | some y => (x.z - y.z, x.n - y.n, x.e - y.e)

/-- R56, R57: the energy of a difference on a channel. -/
def energyOf : Channel → Diff → Nat
  | .p, (dz, _, _) => (dz * dz).toNat / Config.energyScale
  | .s, (_, dn, de) => (dn * dn + de * de).toNat / (2 * Config.energyScale)

/-! ### Averages and ratio -/

/-- R58, R59: one step of an average with shift `k`: the average plus floor((energy − average) / 2^k). -/
def average (k avg energy : Nat) : Nat := ((avg : Int) + ((energy : Int) - (avg : Int)) / ((2 ^ k : Nat) : Int)).toNat

/-- R60: floor(256 × STA / max(LTA, LTA_floor)), saturated at 65,535. -/
def ratioOf (sta lta floor : Nat) : Nat := min (256 * sta / max lta floor) 65535

/-! ### The window of a request (R92) -/

/-- What the arithmetic works on: the sets from the window start to the effective end, the set before them where it is
present, how many of them the window holds, and whether VOID sets cut the window. -/
structure Window where
  start : Nat
  prev : Option SampleSet
  sets : List SampleSet
  size : Nat
  cut : Bool
  deriving DecidableEq, Repr

/-- The sample numbers from `lo` on that were read as VOID. -/
def voidsFrom (lo : Nat) (read : List (Nat × Option SampleSet)) : List Nat :=
  read.filterMap fun x => if lo ≤ x.1 ∧ x.2 = none then some x.1 else none

/-- The set that was read at a sample number. -/
def readAt (read : List (Nat × Option SampleSet)) (n : Nat) : Option SampleSet :=
  (read.find? fun x => x.1 == n).bind (·.2)

/-- R92: the window start is moved past the highest VOID set below the trigger, and the effective end is the set
before the lowest VOID set above it. -/
def windowOf (w : Work) (trigger : Nat) : Window :=
  let voids := voidsFrom w.windowStart w.read
  let below := voids.filter fun n => n < trigger
  let above := voids.filter fun n => trigger < n
  let start := below.foldl (fun acc n => max acc (n + 1)) w.windowStart
  let effectiveEnd := above.foldl (fun acc n => min acc (n - 1)) w.readEnd
  { start := start
    prev := if start = 0 then none else readAt w.read (start - 1)
    sets := w.read.filterMap fun x => if start ≤ x.1 ∧ x.1 ≤ effectiveEnd then x.2 else none
    size := min w.windowEnd effectiveEnd + 1 - start
    cut := !voids.isEmpty }

/-- R94: the differences of a run of sets. -/
def diffsOf : Option SampleSet → List SampleSet → List Diff
  | _, [] => []
  | prev, x :: rest => diffOf prev x :: diffsOf (some x) rest

/-! ### Onset and sharpness (R95, R96) -/

/-- R95: the position of the smallest running sum, the first of equal ones. `j` sums are done, with value `sum`. -/
def lowestSum (mean : Nat) : List Nat → Nat → Int → Int → Nat → Nat
  | [], _, _, _, bestAt => bestAt
  | e :: rest, j, sum, best, bestAt =>
    let next := sum + ((e : Int) - (mean : Int))
    if next < best then lowestSum mean rest (j + 1) next next (j + 1)
    else lowestSum mean rest (j + 1) next best bestAt

/-- R95: the onset position of a window's energies. -/
def onsetPosition (energies : List Nat) : Nat := lowestSum (sumNat energies / energies.length) energies 0 0 0 0

/-- R96: the sharpness at onset position `j`. -/
def sharpnessOf (energies : List Nat) (j : Nat) : Nat :=
  let l := min 16 (min j (energies.length - j))
  if l = 0 then 0
  else
    let before := sumNat ((energies.drop (j - l)).take l)
    let after := sumNat ((energies.drop j).take l)
    min (256 * after / max before 1) 65535

/-- R96: the quality class; EDGE is class 3. -/
def qualityOf (g : RefinementGroup) (edge : Bool) (q : Nat) : Nat :=
  if edge then 3 else if g.q0 ≤ q then 0 else if g.q1 ≤ q then 1 else if g.q2 ≤ q then 2 else 3

/-! ### Polarization, polarity, amplitude, sector (R97 to R100) -/

/-- R97: the sum of the products of two components over the polarization window. -/
def productSum (f g : Diff → Int) (ds : List Diff) : Int := sumInt (ds.map fun d => f d * g d)

def dzOf (d : Diff) : Int := d.1
def dnOf (d : Diff) : Int := d.2.1
def deOf (d : Diff) : Int := d.2.2

/-- R97: the vertical fraction in 256ths, 0 where nothing moves. -/
def verticalOf (ds : List Diff) : Nat :=
  let szz := productSum dzOf dzOf ds
  let total := szz + productSum dnOf dnOf ds + productSum deOf deOf ds
  if total = 0 then 0 else (256 * szz / total).toNat

/-- R97: the phase by the request's channel. -/
def phaseOf (g : RefinementGroup) (ch : Channel) (vertical : Nat) : Phase :=
  match ch with
  | .p => if g.pFrac ≤ vertical then .p else .u
  | .s => if vertical ≤ g.sFrac then .s else .u

/-- R98: the polarity of a first motion. -/
def polarityOf (g : RefinementGroup) (value : Int) : Polarity :=
  if (g.polThr : Int) ≤ value then .up else if value ≤ -(g.polThr : Int) then .down else .none

/-- R99: the largest magnitude of Z less the reference over the polarization window. -/
def amplitudeOf (zRef : Int) (sets : List SampleSet) : Nat :=
  sets.foldl (fun acc x => max acc (x.z - zRef).natAbs) 0

/-- R100, step 2: the in-quadrant index. -/
def quadrantIndex (a b : Nat) : Nat :=
  if 256 * a < 51 * b then 0
  else if 256 * a < 171 * b then 1
  else if 256 * a < 383 * b then 2
  else if 256 * a < 1287 * b then 3
  else 4

/-- R100, steps 1 and 3: the sector of a direction. -/
def sectorOf (east north : Int) : Nat :=
  let q := quadrantIndex east.natAbs north.natAbs
  if 0 ≤ east then (if 0 ≤ north then q else 8 - q)
  else (if north < 0 then 8 + q else (16 - q) % 16)

/-- R100: the sector, absent when the horizontal motion is too weak. -/
def sectorFrom (g : RefinementGroup) (ds : List Diff) : Option Nat :=
  let szn := productSum dzOf dnOf ds
  let sze := productSum dzOf deOf ds
  if sze.natAbs < g.sectorFloor ∧ szn.natAbs < g.sectorFloor then none
  else some (sectorOf (-sze) (-szn))

/-! ### The whole pick -/

/-- What 5.5 computes from a window. -/
structure PickMath where
  onset : Nat
  edge : Bool
  sharpness : Nat
  qualityClass : Nat
  vertical : Nat
  phase : Phase
  polarity : Option Polarity
  amplitude : Nat
  sector : Option Nat
  held : Bool
  clip : Bool
  cal : Bool
  deriving DecidableEq, Repr

/-- R93 to R100: the computation of a pick on a channel. -/
def pickMath (g : RefinementGroup) (ch : Channel) (w : Window) : PickMath :=
  let ds := diffsOf w.prev w.sets
  let energies := (ds.take w.size).map (energyOf ch)
  let j := onsetPosition energies
  let k := if j < w.size then j else w.size - 1
  let edge := decide (j = 0) || decide (j = w.size)
  let q := sharpnessOf energies j
  let polSets := (w.sets.drop k).take g.pol
  let polDiffs := (ds.drop k).take g.pol
  let v := verticalOf polDiffs
  let phase := phaseOf g ch v
  let zHere := ((w.sets[k]?).map (·.z)).getD 0
  let zRef := if 0 < k then ((w.sets[k - 1]?).map (·.z)).getD 0 else (w.prev.map (·.z)).getD zHere
  let zThird := (((polSets[3]?).or polSets.getLast?).map (·.z)).getD zHere
  { onset := w.start + k
    edge := edge
    sharpness := q
    qualityClass := qualityOf g edge q
    vertical := v
    phase := phase
    polarity := if phase = .p then some (polarityOf g (zThird - zRef)) else none
    amplitude := amplitudeOf zRef polSets
    sector := if phase = .p then sectorFrom g polDiffs else none
    held := (w.sets.take w.size).any (·.held)
    clip := polSets.any (·.clip)
    cal := (w.sets.take w.size).any (·.cal) || polSets.any (·.cal) }

end Sys2Proof.Machine
end

