-- ==== Sys2Proof/Machine/Refiner.lean ====
section
/-! DEFINITION. The Onset Refiner (chapter 5): requests and their readiness, grant decisions, block reads, and the row
PICK_WRITE. -/

namespace Sys2Proof.Machine

/-! ### Readiness (R77 to R79) -/

/-- R78: every set the refinement may need has been written. -/
def State.dataReady (s : State) (sen : Sensor) (q : RefineRequest) : Bool :=
  match (s.ring.get sen).newest with
  | none => false
  | some newest => decide (q.trigger + (s.activeRefinement sen).post + (s.activeRefinement sen).pol ≤ newest)

/-- R78: a request in PENDING_DATA becomes READY. -/
def State.readyIf (s : State) (sen : Sensor) (q : RefineRequest) : RefineRequest :=
  if q.state = .pendingData ∧ s.dataReady sen q then { q with state := .ready } else q

/-- R79: a request made READY by a GAP, with the gap cut. -/
def RefineRequest.cutAt (q : RefineRequest) (cut : Nat) : RefineRequest :=
  { q with state := .ready, cut := some cut, flags := { q.flags with gapNear := true } }

/-- R79: the GAP announcement at the refiner. -/
def State.refinerGap (s : State) (sen : Sensor) : State :=
  let cut := (s.ring.get sen).newest.getD 0
  let s1 := s.modQueue sen fun l => l.map fun q => if q.state = .pendingData then q.cutAt cut else q
  { s1 with refiner := { s1.refiner with gapCut := s1.refiner.gapCut.set sen (some cut) } }

/-- R79: the gap mark is cleared when the newest sample number is above the gap cut. -/
def State.clearGapMark (s : State) (sen : Sensor) : State :=
  match s.refiner.gapCut.get sen, (s.ring.get sen).newest with
  | some cut, some newest =>
    if cut < newest then { s with refiner := { s.refiner with gapCut := s.refiner.gapCut.set sen none } } else s
  | _, _ => s

/-- R77: the state in which a posted request stands after its first test. -/
def State.testPosted (s : State) (sen : Sensor) (q : RefineRequest) : RefineRequest :=
  match s.refiner.gapCut.get sen with
  | none => s.readyIf sen q
  | some cut => if q.trigger ≤ cut then q.cutAt cut else s.readyIf sen q

/-- R77: a request as a channel posts it. -/
def State.newRequest (s : State) (sen : Sensor) (ch : Channel) (trigger triggerLocal : Nat) : RefineRequest :=
  { channel := ch, trigger := trigger, triggerLocal := triggerLocal, period := (s.rate sen).period,
    state := .pendingData, cut := none, info := none, flags := .empty, passOver := 0 }

/-! ### Losing requests (R80) -/

/-- R80: a request of a sensor is lost: the refine-lost count rises by one, and PICK_LOST is raised. -/
def State.loseRequest (s : State) (sen : Sensor) : State :=
  let s1 := { s with refiner := { s.refiner with lost := s.refiner.lost.set sen (bump (s.refiner.lost.get sen)) } }
  s1.raiseBoth .pickLost

/-- R80, R82: a request that has left its queue by `leave` is lost, and the grouper is told. -/
def State.discardBy (s : State) (sen : Sensor) (leave : List RefineRequest → List RefineRequest) : State :=
  ((s.modQueue sen leave).loseRequest sen).testGroups

/-- R80: whether a waiting request has lost its trigger sample. -/
def State.overwritten (s : State) (sen : Sensor) (q : RefineRequest) : Bool :=
  decide (q.state ≠ .inProgress) && (s.ring.get sen).below q.trigger

/-- R80, R82: the requests whose trigger sample has gone are discarded one by one, and the grouper is told of each. They
leave from the head of the queue to its tail (DESIGN CHOICE, log 39: R80 gives no order; unsafe for the order of the
notices that the group tests between two of them bring). -/
def State.discardOverwritten (s : State) (sen : Sensor) : State :=
  ((s.refiner.queues.get sen).filter (s.overwritten sen)).foldl (fun t q => t.discardBy sen (·.erase q)) s

/-! ### Grant decisions (R86 to R90) -/

/-- The head of a sensor's queue, when it is READY. -/
def State.readyHead (s : State) (sen : Sensor) : Option RefineRequest :=
  match s.refiner.queues.get sen with
  | q :: _ => if q.state = .ready then some q else none
  | [] => none

/-- R86: the sensors whose heads are candidates. -/
def State.candidates (s : State) : List Sensor := Sensor.list.filter fun sen => (s.readyHead sen).isSome

/-- R87: the sensors in turn, from the one after the last granted. -/
def turnAfter (last : Sensor) : List Sensor := [last.succ, last.succ.succ, last.succ.succ.succ, last]

/-- R88: a head is promoted when the aging limit is not 0 and its pass-over count has reached it. -/
def State.promoted (s : State) (sen : Sensor) : Bool :=
  match s.readyHead sen with
  | none => false
  | some q => decide (s.refiner.aging ≠ 0) && decide (s.refiner.aging ≤ q.passOver)

/-- R87, R88: the sensor whose head is chosen. -/
def State.chosen (s : State) : Option Sensor :=
  match s.refiner.mode with
  | .rotating => (turnAfter s.refiner.lastGranted).find? fun sen => (s.readyHead sen).isSome
  | .fixed =>
    match s.candidates.find? s.promoted with
    | some sen => some sen
    | none => s.candidates.head?

/-- R86: one more pass-over for the head of a queue, up to 15. -/
def passOverHead : List RefineRequest → List RefineRequest
  | [] => []
  | q :: rest => { q with passOver := min (q.passOver + 1) Config.passOverMax } :: rest

/-- R86: every candidate but the chosen one is passed over. -/
def State.passOthers (s : State) (sen : Sensor) : State :=
  { s with refiner := { s.refiner with
    queues := s.refiner.queues.map fun i l => if i ≠ sen ∧ (s.readyHead i).isSome then passOverHead l else l } }

/-- The head of a sensor's queue, changed. -/
def modHead (f : RefineRequest → RefineRequest) : List RefineRequest → List RefineRequest
  | [] => []
  | q :: rest => f q :: rest

/-- R90, steps 2 to 4: what the refinement of a granted request works with. -/
def State.newWork (s : State) (sen : Sensor) (q : RefineRequest) : Work :=
  let g := s.activeRefinement sen
  let oldest := (s.ring.get sen).oldest.getD 0
  let start := max oldest (q.trigger - g.pre)
  let full := q.trigger + g.post + g.pol - 1
  { sensor := sen
    group := g
    windowStart := start
    windowEnd := q.trigger + g.post
    readEnd := match q.flags.gapNear, q.cut with
      | true, some cut => min cut full
      | _, _ => full
    next := if oldest < start then start - 1 else start
    read := [] }

/-- R90, step 3: the start of the window has gone, or would lie below 0. -/
def State.startGone (s : State) (sen : Sensor) (q : RefineRequest) : Bool :=
  decide ((q.trigger : Int) - ((s.activeRefinement sen).pre : Int) < (((s.ring.get sen).oldest.getD 0 : Nat) : Int))

/-- R90: the chosen request becomes IN_PROGRESS. -/
def State.beginWork (s : State) (sen : Sensor) (q : RefineRequest) : State :=
  let w := s.newWork sen q
  let trunc := s.startGone sen q
  let s1 := s.modQueue sen (modHead fun x =>
    { x with state := .inProgress, flags := { x.flags with truncated := x.flags.truncated || trunc } })
  { s1 with refiner := { s1.refiner with work := some w, stalled := false } }

/-- R80, R90, R91: the head of a sensor's queue is discarded, and the grouper is told (R82). -/
def State.discardHead (s : State) (sen : Sensor) : State :=
  s.discardBy sen List.tail

/-- R89: the refiner becomes STALLED; TABLE_FULL is raised on entry. -/
def State.stall (s : State) : State :=
  if s.refiner.stalled then s
  else { s with refiner := { s.refiner with stalled := true } }.raiseBoth .tableFull

/-- R86: a grant decision of a refiner that is not BUSY. Each round but the last discards a request (R90, step 1), of
which there are at most 16. -/
def State.grantDecision : Nat → State → State
  | 0, s => s
  | fuel + 1, s =>
    match s.chosen with
    | none => { s with refiner := { s.refiner with stalled := false } }
    | some sen =>
      if Config.tableCapacity ≤ s.table.records.length then s.stall
      else
        match s.readyHead sen with
        | none => s
        | some q =>
          let s1 := s.passOthers sen
          let s2 := { s1 with refiner := { s1.refiner with lastGranted := sen } }
          if (s2.ring.get sen).below q.trigger then State.grantDecision fuel (s2.discardHead sen)
          else s2.beginWork sen q

/-- The rounds that a grant decision may need. -/
def decisionFuel : Nat := 17

/-- R86: a grant decision is made when a head has become READY or a record has been freed since `before`, unless the
refiner is BUSY. R89: a STALLED refiner with no READY head returns to IDLE. The decision stands at the end of the
operation that gives the occasion (DEDUCED, log 26; safe: nothing between the occasion and the end of the operation
changes what is granted). -/
def State.settle (before s : State) : State :=
  if s.refiner.work.isSome then s
  else if Sensor.list.any (fun sen =>
      match s.readyHead sen, before.readyHead sen with
      | some q, some q' => decide (q.channel ≠ q'.channel) || decide (q.trigger ≠ q'.trigger)
      | some _, none => true
      | none, _ => false)
    || before.table.records.any (fun r => (s.findPick r.id).isNone) then s.grantDecision decisionFuel
  else if s.refiner.stalled ∧ s.candidates = [] then { s with refiner := { s.refiner with stalled := false } }
  else s

/-- R139: the grouper tests its groups; a record that its reports free occasions a grant decision. -/
def State.retest (s : State) : State := State.settle s s.testGroups

/-! ### Reports and detrigger information (R40, R63, R81) -/

/-- R78 to R80: the ring reports a sensor's newest sample number, and a new oldest valid one when `raised`. -/
def State.refinerReport (s : State) (sen : Sensor) (raised : Bool) : State :=
  let s1 := s.clearGapMark sen
  let s2 := s1.modQueue sen fun l => l.map (s1.readyIf sen)
  let s3 := if raised then s2.discardOverwritten sen else s2
  State.settle s s3

/-- R63, R77: a channel posts a request; answers whether the queue took it. -/
def State.postRequest (s : State) (sen : Sensor) (ch : Channel) (trigger triggerLocal : Nat) : State × Bool :=
  if (s.refiner.queues.get sen).length < Config.queueCapacity then
    let s1 := s.modQueue sen fun l => l ++ [s.testPosted sen (s.newRequest sen ch trigger triggerLocal)]
    (State.settle s s1, true)
  else (s.raiseBoth .pickLost, false)

/-- Whether a request is that of an episode. -/
def RefineRequest.isOf (ch : Channel) (trigger : Nat) (q : RefineRequest) : Bool :=
  decide (q.channel = ch) && q.trigger == trigger

/-- R81: detrigger information reaches the refiner. -/
def State.detriggerInfo (s : State) (sen : Sensor) (ch : Channel) (trigger : Nat) (info : EndInfo) : State :=
  if (s.refiner.queues.get sen).any (RefineRequest.isOf ch trigger) then
    s.modQueue sen fun l => l.map fun q => if q.isOf ch trigger then { q with info := some info } else q
  else State.settle s (s.finalize sen ch trigger info)

/-! ### Block reads (R91) -/

/-- R91: the refiner holds a block request standing. -/
def State.refinerRequests (s : State) : Bool :=
  match s.refiner.work with
  | none => false
  | some w => decide (w.next ≤ w.readEnd)

/-- R91: one sample number of a block; `none` when the trigger sample is lost. The flag says that the window was
truncated. An answer Not yet written, which no granted window meets, is kept as VOID (log 20). -/
def Work.readOne (r : RingRecord) (trigger n : Nat) (w : Work × Bool) : Option (Work × Bool) :=
  match r.answer n with
  | .found x => some ({ w.1 with next := n + 1, read := w.1.read ++ [(n, some x)] }, w.2)
  | .absent =>
    if n + 1 = w.1.windowStart then some ({ w.1 with next := n + 1 }, w.2)
    else if n < trigger then
      some ({ w.1 with next := n + 1, windowStart := n + 1, read := w.1.read.filter fun x => n < x.1 }, true)
    else none
  | _ =>
    if n + 1 = w.1.windowStart then some ({ w.1 with next := n + 1 }, w.2)
    else some ({ w.1 with next := n + 1, read := w.1.read ++ [(n, none)] }, w.2)

/-- R91: the sets of a block, from the lowest upward. -/
def Work.readBlock (r : RingRecord) (trigger : Nat) : List Nat → Work × Bool → Option (Work × Bool)
  | [], w => some w
  | n :: rest, w =>
    match Work.readOne r trigger n w with
    | none => none
    | some w' => Work.readBlock r trigger rest w'

/-- R91: the sample numbers of the next block. -/
def Work.nextBlock (w : Work) : List Nat :=
  (List.range (min Config.blockMax (w.readEnd + 1 - w.next))).map fun i => w.next + i

/-- R91: the block that the arbiter granted to the refiner is read. -/
def State.refinerBlock (s : State) : State :=
  match s.refiner.work with
  | none => s
  | some w =>
    match s.refiner.queues.get w.sensor with
    | [] => s
    | q :: _ =>
      match Work.readBlock (s.ring.get w.sensor) q.trigger w.nextBlock (w, false) with
      | some (w', trunc) =>
        let s1 := s.modQueue w.sensor (modHead fun x =>
          { x with flags := { x.flags with truncated := x.flags.truncated || trunc } })
        { s1 with refiner := { s1.refiner with work := some w' } }
      | none =>
        let s1 := { s with refiner := { s.refiner with work := none } }
        (s1.discardHead w.sensor).grantDecision decisionFuel

/-! ### Writing the pick (R102, R111, R112) -/

/-- R102: the peak ratio of a record created PROVISIONAL: the channel's peak so far while its episode still stands. -/
def State.peakSoFar (s : State) (sen : Sensor) (q : RefineRequest) : Nat :=
  match ((s.detector.get sen).channels.get q.channel).episode with
  | some e => if e.posted ∧ e.trigger = q.trigger then e.peak else 0
  | none => 0

/-- R102, R111: the record of a request, PROVISIONAL and without a grouping yet. -/
def State.newRecord (s : State) (w : Work) (q : RefineRequest) (win : Window) (m : PickMath) (t : SetTime) : PickRecord :=
  { id := firstFree (s.table.records.map (·.id)) (Config.tableCapacity + 1) s.table.nextId
    sensor := w.sensor
    channel := q.channel
    phase := m.phase
    state := .provisional
    retractedBy := none
    trigger := q.trigger
    onset := m.onset
    onsetLocal := t.localTime
    onsetAbs := t.absTime
    quality := t.quality
    qualityClass := m.qualityClass
    sharpness := m.sharpness
    vertical := m.vertical
    polarity := m.polarity
    sector := m.sector
    amplitude := m.amplitude
    peak := s.peakSoFar w.sensor q
    ending := none
    flags := { q.flags with
      gapNear := q.flags.gapNear || win.cut, edge := m.edge, held := m.held, clip := m.clip, cal := m.cal }
    grouping := .single
    delivery := .all .none }

/-- R111: created FINAL when the request holds detrigger information. -/
def PickRecord.withInfo (r : PickRecord) : Option EndInfo → PickRecord
  | none => r
  | some info => r.finish info

/-- R109 to R111: the record enters the table. -/
def State.addRecord (s : State) (r : PickRecord) : State :=
  { s with table := { records := s.table.records ++ [r], nextId := idAfter r.id } }

/-- R112: a new record is handed to the grouper, to the Offer Lists unless a declaration has offered it (R151), and to
the release test. -/
def State.handOnRecord (s : State) (id : Nat) : State :=
  let g := s.groupPick id
  let s1 := if g.2 then g.1 else g.1.offerNew id
  s1.releaseTest id

/-- R102: the refinement in progress is computed and written; its request leaves the queue, the grouper is told, and
the refiner leaves BUSY with a grant decision. -/
def State.writePick (s : State) (w : Work) (q : RefineRequest) : State :=
  let win := windowOf w q.trigger
  let m := pickMath w.group q.channel win
  let t := s.timeOf w.sensor m.onset
  let r := (t.1.newRecord w q win m t.2).withInfo q.info
  let s1 := (t.1.addRecord r).handOnRecord r.id
  let s2 := s1.modQueue w.sensor List.tail
  let s3 := { s2 with refiner := { s2.refiner with work := none } }
  s3.testGroups.grantDecision decisionFuel

/-- PICK_WRITE: the step comes when the read end has been read (R102). -/
def State.pickWrite (s : State) : State :=
  match s.refiner.work with
  | none => s
  | some w =>
    if w.next ≤ w.readEnd then s
    else
      match s.refiner.queues.get w.sensor with
      | [] => s
      | q :: _ => s.writePick w q

/-- PICK_WRITE (R102). -/
def execPickWrite (dt : Nat) (s : State) : Host.Outcome State Fault Refusal :=
  .next (s.elapse dt).pickWrite

end Sys2Proof.Machine
end

