-- ==== Sys2Proof/Machine/Excerpt.lean ====
section
/-! DEFINITION. The Excerpt Engine (9.1 to 9.5) without its commands: reader positions and their pressure, the
beginning, reading and ending of elements, waits and termination, and the rows START_WAIT_TIMEOUT and
DATA_WAIT_TIMEOUT. -/

namespace Sys2Proof.Machine

/-- A port's chain. -/
def State.chain (s : State) (p : Port) : Chain := s.chains.get p

/-! ### Requests, termination (R172, R179) -/

/-- R172: whether a chain holds a block request standing. -/
def State.chainRequests (s : State) (p : Port) : Bool :=
  match (s.chain p).state, (s.chain p).plan, (s.chain p).run with
  | .running, some plan, some run =>
    decide (run.progress < plan.length) && decide ((s.chain p).buffer.length < Config.bufferCapacity)
      && !(s.ring.get plan.sensor).beyond run.next
  | _, _, _ => false

/-- The run without its reader position. -/
def ElementRun.withdraw (run : ElementRun) : ElementRun := { run with level := none }

/-- R179: what termination with a status leaves of a chain. -/
def Chain.terminated (status : ChainStatus) (c : Chain) : Chain :=
  { c with
    state := .faulted, lastStatus := status, run := c.run.map .withdraw, pendingStart := none, wait := none,
    pausePoint := none }

/-- R179: a chain is terminated with a status; EXCERPT_FAULT is raised at its own port. One that is FAULTED already is
not terminated again. -/
def State.terminate (s : State) (p : Port) (status : ChainStatus) : State :=
  if (s.chain p).state = .faulted then s
  else (s.modChain p (Chain.terminated status)).raise p .excerptFault

/-! ### Pressure (R48, R49) -/

/-- R48: the level of a reader position at sample number `u`. -/
def RingRecord.pressure (p : PageSize) (r : RingRecord) (u : Nat) : Pressure :=
  match r.newest with
  | none => .none
  | some newest =>
    let free : Int := (Config.ringSlots : Int) - ((newest : Int) - (u : Int) + 1)
    if 2 * (p.sets : Int) < free then .none
    else if (p.sets : Int) < free then .near
    else .close

/-- The order of the levels. -/
def Pressure.rank : Pressure → Nat
  | .none => 0
  | .near => 1
  | .close => 2

/-- R48: a chain's reader position is evaluated; a rise raises RING_PRESSURE at its own port. -/
def State.evaluateLevel (s : State) (p : Port) : State :=
  match (s.chain p).plan, (s.chain p).run with
  | some plan, some run =>
    match run.level with
    | none => s
    | some old =>
      let new := (s.ring.get plan.sensor).pressure s.pageSize.active run.next
      let s1 := s.modChain p fun c => { c with run := some { run with level := some new } }
      if old.rank < new.rank then s1.raise p .ringPressure else s1
  | _, _ => s

/-- R49: a chain's reader position lies below the oldest valid sample number. -/
def State.collides (s : State) (p : Port) : Bool :=
  match (s.chain p).plan, (s.chain p).run with
  | some plan, some run => run.level.isSome && (s.ring.get plan.sensor).below run.next
  | _, _ => false

/-- R48, R49: a reader position is evaluated when it is set, and when a set is written to its sensor. A position in
COLLIDE is reported, and not evaluated for pressure (DESIGN CHOICE, log 18; unsafe for a RING_PRESSURE raised together
with the COLLIDE). -/
def State.evalReader (s : State) (p : Port) : State :=
  if s.collides p then s.terminate p .overrun else s.evaluateLevel p

/-! ### The beginning of an element (R167 to R171) -/

/-- How an element's start is to be found. -/
inductive StartPoint where
  | sample (n : Nat)
  | time (t : StartTime)
  deriving DecidableEq, Repr

/-- R170: the sets of a lead on a sensor, 0 at a rate of OFF. -/
def leadSets (rate : Rate) (lead : Nat) : Nat :=
  match rate with
  | .off => 0
  | _ => ceilDiv (lead * 1000) rate.period

/-- R168 to R170: an element's sensor, length and mask, and how its start is found; `none` when a BY_PICK element's
pick is not live. -/
def State.elementStart (s : State) : ElementKind → Option (ElementPlan × StartPoint)
  | .bySample sen start length mask => some ({ sensor := sen, length := length, mask := mask }, .sample start)
  | .byLocal sen start length mask =>
    some ({ sensor := sen, length := length, mask := mask }, .time (.localTime start))
  | .byAbs sen start length mask => some ({ sensor := sen, length := length, mask := mask }, .time (.absolute start))
  | .byPick pick preset =>
    match s.findPick pick with
    | none => none
    | some r =>
      let x := s.presets.active.get preset
      some ({ sensor := r.sensor, length := x.length, mask := x.mask },
        match r.onsetLocal with
        | some t => .time (.localTime (t - x.lead * 1000))
        | none => .sample (r.onset - leadSets (s.rate r.sensor) x.lead))

/-- R168: the resolution of a start sample number. -/
def RingRecord.resolveSample (r : RingRecord) (n : Nat) : Nat × StartNote :=
  if r.below n then (r.oldest.getD 0, .clippedStart) else (n, .none)

/-- R167: a start is resolved to a sample number with its notes, or is not yet. -/
def State.resolve (s : State) (sen : Sensor) : StartPoint → State × Option (Nat × StartNote)
  | .sample n => (s, some ((s.ring.get sen).resolveSample n))
  | .time t => s.translate sen t

/-- R174: the chain waits for data when its ring is empty or its next sample has not been written. -/
def State.waitIfBeyond (s : State) (p : Port) : State :=
  match (s.chain p).state, (s.chain p).plan, (s.chain p).run with
  | .running, some plan, some run =>
    if (s.ring.get plan.sensor).beyond run.next then
      s.modChain p fun c => { c with state := .waiting, wait := some (.data, s.time.localTime) }
    else s
  | _, _, _ => s

/-- R175: the end of an element. The flag says that the chain begins the next element. -/
def State.endElement (s : State) (p : Port) : State × Bool :=
  let c := s.chain p
  match c.current with
  | none => (s, false)
  | some i =>
    match c.elements[i]? with
    | none => (s, false)
    | some el =>
      let s1 := if el.notify then s.raise p .excerptEnd else s
      let s2 := s1.modChain p fun x =>
        { x with plan := none, run := none, pendingStart := none, wait := none, pausePoint := none }
      if el.pauseAfter then
        (s2.modChain p fun x => { x with state := .paused, pausePoint := some .between }, false)
      else if el.goOn ∧ i + 1 < c.elements.length then (s2, true)
      else (s2.modChain p fun x => { x with state := .done, lastStatus := .complete }, false)

/-- R167: an element whose start is resolved: it ends at once when its length is 0; otherwise its reader position is
set, at the level `level`, and the chain is RUNNING or goes on to wait for data. The flag says that the chain begins
the next element. -/
def State.placeStart (s : State) (p : Port) (plan : ElementPlan) (n : Nat) (note : StartNote) (level : Pressure) :
    State × Bool :=
  if plan.length = 0 then s.endElement p
  else
    let s1 := s.modChain p fun c =>
      { c with
        state := .running, pendingStart := none, wait := none, pausePoint := none
        run := some { first := n, note := note, next := n, progress := 0, level := some level } }
    ((s1.evalReader p).waitIfBeyond p, false)

/-- R171: the chain waits for its start. -/
def State.waitStart (s : State) (p : Port) (t : StartTime) : State :=
  s.modChain p fun c =>
    { c with
      state := .waiting, pendingStart := some t, wait := some (.start, s.time.localTime), pausePoint := none }

/-- R167: element `i` begins; `carried` is the reader position that the chain brings from the element before, by its
sensor and level. Each round but the last ends an element of length 0 (no more than 8). -/
def State.beginElement : Nat → State → Port → Nat → Option (Sensor × Pressure) → State
  | 0, s, _, _, _ => s
  | fuel + 1, s, p, i, carried =>
    match (s.chain p).elements[i]? with
    | none => s
    | some el =>
      let s1 := s.modChain p fun c =>
        { c with current := some i, plan := none, run := none, pendingStart := none, wait := none, pausePoint := none }
      match s1.elementStart el.kind with
      | none => s1.terminate p .noSuchPick
      | some (plan, start) =>
        let s2 := s1.modChain p fun c => { c with plan := some plan }
        let found := s2.resolve plan.sensor start
        match found.2, start with
        | some (n, note), _ =>
          let level := match carried with
            | some (sen, l) => if sen = plan.sensor then l else .none
            | none => .none
          let placed := found.1.placeStart p plan n note level
          if placed.2 then State.beginElement fuel placed.1 p (i + 1) none else placed.1
        | none, .time t => found.1.waitStart p t
        | none, .sample _ => found.1

/-- The rounds that the beginning of an element may need. -/
def elementFuel : Nat := 9

/-- R175: an element ends, and the chain begins the next one where the rule says so. -/
def State.finishElement (s : State) (p : Port) (carried : Option (Sensor × Pressure)) : State :=
  let ended := s.endElement p
  if ended.2 then ended.1.beginElement elementFuel p (((s.chain p).current.getD 0) + 1) carried else ended.1

/-- R171, R177: the pending start time is translated again; `again` is what not yet leads to. -/
def State.retryStart (s : State) (p : Port) (again : State → StartTime → State) : State :=
  match (s.chain p).plan, (s.chain p).pendingStart with
  | some plan, some t =>
    let found := s.translate plan.sensor t
    match found.2 with
    | none => again found.1 t
    | some (n, note) =>
      let placed := found.1.placeStart p plan n note .none
      if placed.2 then placed.1.beginElement elementFuel p (((s.chain p).current.getD 0) + 1) none else placed.1
  | _, _ => s

/-! ### The ring's report (R40, R171, R174) -/

/-- The sensor of the element a chain is at. -/
def Chain.sensor (c : Chain) : Option Sensor := c.plan.map (·.sensor)

/-- R171, R174: what the report of a new newest sample number does to a wait of a chain. -/
def State.reportToWait (s : State) (p : Port) : State :=
  match (s.chain p).state, (s.chain p).wait with
  | .waiting, some (.start, _) => s.retryStart p fun t _ => t
  | .waiting, some (.data, _) =>
    match (s.chain p).plan, (s.chain p).run with
    | some plan, some run =>
      if (s.ring.get plan.sensor).beyond run.next then s
      else s.modChain p fun c => { c with state := .running, wait := none }
    | _, _ => s
  | _, _ => s

/-- R40, R48, R49: the ring's report of a stored set of a sensor, at one chain. -/
def State.chainReport (s : State) (sen : Sensor) (p : Port) : State :=
  if (s.chain p).sensor = some sen then
    let s1 := s.reportToWait p
    if (s1.chain p).sensor = some sen then s1.evalReader p else s1
  else s

/-- R40: the ring's report of a stored set of a sensor at the Excerpt Engine. -/
def State.excerptReport (s : State) (sen : Sensor) : State := (s.chainReport sen .a).chainReport sen .b

/-! ### Block reads (R172, R173) -/

/-- R172: how many sets the next block of a chain takes from `u` on. -/
def blockSize (p : PageSize) (r : RingRecord) (left room u : Nat) : Nat :=
  min (min Config.blockMax left) (min room (min (r.newest.getD 0 + 1 - u) (p.sets - u % p.sets)))

/-- R173: one set of a block as it is placed in the buffer. -/
def bufferedSet (r : RingRecord) (element : Nat) (plan : ElementPlan) (run : ElementRun) (page : Option MapEntry)
    (n : Nat) : BufferedSet :=
  { element := element
    sensor := plan.sensor
    sample := n
    mask := plan.mask
    content := match r.answer n with
      | .found x => some x
      | _ => none
    page := page
    firstNote := if n = run.first then run.note else .none
    lastOfElement := decide (n + 1 = run.first + plan.length) }

/-- R173: the block is placed in the buffer, and the reader position is moved past it. -/
def State.takeBlock (s : State) (p : Port) (plan : ElementPlan) (run : ElementRun) : State :=
  let r := s.ring.get plan.sensor
  let size := blockSize s.pageSize.active r (plan.length - run.progress)
    (Config.bufferCapacity - (s.chain p).buffer.length) run.next
  let entry := s.readEntry plan.sensor (run.next / s.pageSize.active.sets)
  let sets := (List.range size).map fun i =>
    bufferedSet r ((s.chain p).current.getD 0) plan run entry.2 (run.next + i)
  let s1 := entry.1.modChain p fun c =>
    { c with
      buffer := c.buffer ++ sets
      run := some { run with next := run.next + size, progress := run.progress + size } }
  s1.evaluateLevel p

/-- R173: what follows a block: the element ends, or the chain waits for data, or it stays RUNNING. -/
def State.afterBlock (s : State) (p : Port) : State :=
  match (s.chain p).plan, (s.chain p).run with
  | some plan, some run =>
    if plan.length ≤ run.progress then s.finishElement p (run.level.map fun l => (plan.sensor, l))
    else s.waitIfBeyond p
  | _, _ => s

/-- R173: the block that the arbiter granted to a chain is read. -/
def State.chainBlock (s : State) (p : Port) : State :=
  match (s.chain p).plan, (s.chain p).run with
  | some plan, some run => (s.takeBlock p plan run).afterBlock p
  | _, _ => s

/-! ### The ends of waits (R171, R174) -/

/-- Whether a chain's wait of a kind has lasted its 60 s. -/
def State.waitOverdue (s : State) (p : Port) (kind : WaitKind) : Bool :=
  match (s.chain p).state, (s.chain p).wait with
  | .waiting, some (k, start) => decide (k = kind) && decide (start + Config.chainWaitLimit ≤ s.time.localTime)
  | _, _ => false

/-- R171, R174: the expiry of a wait. -/
def State.waitTimeout (s : State) (p : Port) (kind : WaitKind) : State :=
  if s.waitOverdue p kind then s.terminate p .timeout else s

/-- START_WAIT_TIMEOUT (R171). -/
def execStartWaitTimeout (dt : Nat) (p : Port) (s : State) : Host.Outcome State Fault Refusal :=
  .next ((s.elapse dt).waitTimeout p .start)

/-- DATA_WAIT_TIMEOUT (R174). -/
def execDataWaitTimeout (dt : Nat) (p : Port) (s : State) : Host.Outcome State Fault Refusal :=
  .next ((s.elapse dt).waitTimeout p .data)

end Sys2Proof.Machine
end

