-- ==== Sys2Proof/Machine/ReadArbiter.lean ====
section
/-! DEFINITION. The Ring Read Arbiter (9.7): which reader is granted, and the row RING_READ_GRANT. -/

namespace Sys2Proof.Machine

/-- Whether a reader's block request stands. -/
def State.requests (s : State) : Reader → Bool
  | .refiner => s.refinerRequests
  | .chain p => s.chainRequests p

/-- R184, EQUAL: the readers in the cyclic order REFINER, A, B from the one after the last grant. -/
def readersAfter : Reader → List Reader
  | .refiner => [.chain .a, .chain .b, .refiner]
  | .chain .a => [.chain .b, .refiner, .chain .a]
  | .chain .b => [.refiner, .chain .a, .chain .b]

/-- R184: the order in which the readers are looked at: under REFINER_FIRST the refiner, then the chain other than the
last chain granted, then that one. -/
def ReadArbiter.order (a : ReadArbiter) : List Reader :=
  match a.policy with
  | .refinerFirst => [.refiner, .chain a.lastChain.other, .chain a.lastChain]
  | .equal => readersAfter a.lastGrant

/-- R184: the reader that a grant decision grants. -/
def State.grantee (s : State) : Option Reader := s.arbiter.order.find? s.requests

/-- R183: what the arbiter records of a grant. -/
def ReadArbiter.record (a : ReadArbiter) (r : Reader) : ReadArbiter :=
  { a with
    lastGrant := r
    lastChain := match r with
      | .refiner => a.lastChain
      | .chain p => p }

/-- R183: the granted reader's block is read. -/
def State.readBlock (s : State) : Reader → State
  | .refiner => s.refinerBlock
  | .chain p => s.chainBlock p

/-- R183: a grant, when the path is FREE and a request stands. The path is BUSY while the block is read, which is
within this step, and FREE after it (log 28). -/
def State.grant (s : State) : State :=
  match s.arbiter.path, s.grantee with
  | .free, some r => { s with arbiter := s.arbiter.record r }.readBlock r
  | _, _ => s

/-- RING_READ_GRANT (R183). -/
def execRingReadGrant (dt : Nat) (s : State) : Host.Outcome State Fault Refusal :=
  .next (s.elapse dt).grant

end Sys2Proof.Machine
end

