-- ==== Sys2Proof/Machine/Operands.lean ====
section
/-! DEFINITION. The operand forms of commands: the values of SET with their ranges (R201, R208 and the tables of the
owning chapters), component masks, class sets, and the elements of LOAD_CHAIN (R164, 11.2). `none` is a value that
does not fit. -/

namespace Sys2Proof.Machine

/-! ### Enumerated values: a value at or beyond the number of members does not fit (R208) -/

def Rate.ofNum : Nat → Option Rate
  | 0 => some .off
  | 1 => some .r50
  | 2 => some .r100
  | 3 => some .r200
  | _ => none

def ArbiterMode.ofNum : Nat → Option ArbiterMode
  | 0 => some .rotating
  | 1 => some .fixed
  | _ => none

def ReadPolicy.ofNum : Nat → Option ReadPolicy
  | 0 => some .refinerFirst
  | 1 => some .equal
  | _ => none

/-- Intake auto-clear: DISABLED 0, ENABLED 1. -/
def autoClearOfNum : Nat → Option Bool
  | 0 => some false
  | 1 => some true
  | _ => none

def LineMode.ofNum : Nat → Option LineMode
  | 0 => some .level
  | 1 => some .pulse
  | _ => none

def ClearMode.ofNum : Nat → Option ClearMode
  | 0 => some .explicit
  | 1 => some .onRead
  | _ => none

def OfferMode.ofNum : Nat → Option OfferMode
  | 0 => some .all
  | 1 => some .grouped
  | _ => none

/-! ### Sets of bits -/

/-- A component mask's low three bits: bit 0 Z, 1 N, 2 E (11.2). -/
def CompMask.ofNum (n : Nat) : CompMask := { z := n.testBit 0, n := n.testBit 1, e := n.testBit 2 }

/-- R164: a mask of at least one component. -/
def CompMask.nonEmpty (m : CompMask) : Bool := m.z || m.n || m.e

/-- R165, R208: a preset mask; a higher bit does not fit, and 0 is stored as Z, N and E. -/
def presetMaskOf (value : Nat) : Option CompMask :=
  if 8 ≤ value then none else if value = 0 then some ⟨true, true, true⟩ else some (.ofNum value)

/-- 11.2, R208: a class set; a bit above 9 does not fit. -/
def classSetOf (value : Nat) : Option ClassSet := if 1024 ≤ value then none else some (BitVec.ofNat 10 value)

/-! ### Numeric ranges: any value fits and is clamped (R201, R208) -/

/-- Table 4-4, the ranges at SET. -/
def channelRange : ChannelItem → Nat × Nat
  | .staShift => (1, 8)
  | .ltaShift => (3, 14)
  | .onThreshold => (256, 65535)
  | .offThreshold => (128, 65535)
  | .holdOff => (0, 65535)
  | .maxTrigger => (100, 65535)
  | .ltaFloor => (1, 4294967295)

/-- Table 7-2. -/
def groupingRange : GroupingItem → Nat × Nat
  | .qmax => (0, 3)
  | .count => (1, 4)
  | .pWindow => (10, 2000)
  | .sWindow => (500, 60000)

/-- A value clamped to a range. -/
def clampTo (r : Nat × Nat) (x : Nat) : Nat := clampNat r.1 r.2 x

/-- R83: what is stored of a value written to a quality threshold, by the staged values of its neighbours. -/
def RefinementGroup.clampThreshold (g : RefinementGroup) (which : Threshold) (x : Nat) : Nat :=
  match which with
  | .q0 => min (max x (g.q1 + 1)) 65535
  | .q1 => clampNat (g.q2 + 1) (g.q0 - 1) x
  | .q2 => min x (g.q1 - 1)

/-- R51: a written page size is stored as the next larger size, 512 at most. -/
def PageSize.ofValue (x : Nat) : PageSize := if x ≤ 128 then .p128 else if x ≤ 256 then .p256 else .p512

/-! ### Writing one item of a group: the group, and the value as stored -/

/-- Table 1-3: offsets and rotation are signed. -/
def CorrectionGroup.write (g : CorrectionGroup) (item : CorrectionItem) (v : BitVec 32) :
    Option (CorrectionGroup × BitVec 32) :=
  let offset := saturate (-1048576) 1048575 v.toInt
  let turn := saturate (-16384) 16384 v.toInt
  let word := clampNat 0 65535 v.toNat
  match item with
  | .rate => (Rate.ofNum v.toNat).map fun r => ({ g with rate := r }, v)
  | .offsetZ => some ({ g with offsetZ := offset }, BitVec.ofInt 32 offset)
  | .offsetH1 => some ({ g with offsetH1 := offset }, BitVec.ofInt 32 offset)
  | .offsetH2 => some ({ g with offsetH2 := offset }, BitVec.ofInt 32 offset)
  | .gainZ => some ({ g with gainZ := word }, BitVec.ofNat 32 word)
  | .gainH1 => some ({ g with gainH1 := word }, BitVec.ofNat 32 word)
  | .gainH2 => some ({ g with gainH2 := word }, BitVec.ofNat 32 word)
  | .cosine => some ({ g with cosine := turn }, BitVec.ofInt 32 turn)
  | .sine => some ({ g with sine := turn }, BitVec.ofInt 32 turn)
  | .delay => some ({ g with delay := word }, BitVec.ofNat 32 word)

def ChannelSettings.write (c : ChannelSettings) (item : ChannelItem) (x : Nat) : ChannelSettings :=
  match item with
  | .staShift => { c with staShift := x }
  | .ltaShift => { c with ltaShift := x }
  | .onThreshold => { c with onThreshold := x }
  | .offThreshold => { c with offThreshold := x }
  | .holdOff => { c with holdOff := x }
  | .maxTrigger => { c with maxTrigger := x }
  | .ltaFloor => { c with ltaFloor := x }

/-- R83, Table 5-3: the value as stored. -/
def RefinementGroup.clamp (g : RefinementGroup) (item : RefinementItem) (x : Nat) : Nat :=
  match item with
  | .pre => clampNat 64 1024 x
  | .post => clampNat 16 256 x
  | .pol => clampNat 16 128 x
  | .threshold which => g.clampThreshold which x
  | .pFrac => clampNat 0 256 x
  | .sFrac => clampNat 0 256 x
  | .polThr => clampNat 0 1048575 x
  | .sectorFloor => clampNat 0 4294967295 x

def RefinementGroup.write (g : RefinementGroup) (item : RefinementItem) (x : Nat) : RefinementGroup :=
  match item with
  | .pre => { g with pre := x }
  | .post => { g with post := x }
  | .pol => { g with pol := x }
  | .threshold .q0 => { g with q0 := x }
  | .threshold .q1 => { g with q1 := x }
  | .threshold .q2 => { g with q2 := x }
  | .pFrac => { g with pFrac := x }
  | .sFrac => { g with sFrac := x }
  | .polThr => { g with polThr := x }
  | .sectorFloor => { g with sectorFloor := x }

def GroupingGroup.write (g : GroupingGroup) (item : GroupingItem) (x : Nat) : GroupingGroup :=
  match item with
  | .qmax => { g with qmax := x }
  | .count => { g with count := x }
  | .pWindow => { g with pWindow := x }
  | .sWindow => { g with sWindow := x }

/-- The low bits of a component mask (11.2). -/
def CompMask.bits (m : CompMask) : Nat := m.z.toNat + 2 * m.n.toNat + 4 * m.e.toNat

/-- R165. -/
def Preset.write (x : Preset) (item : PresetItem) (v : Nat) : Option (Preset × Nat) :=
  match item with
  | .lead => some ({ x with lead := clampNat 0 60000 v }, clampNat 0 60000 v)
  | .length => some ({ x with length := clampNat 0 4096 v }, clampNat 0 4096 v)
  | .mask => (presetMaskOf v).map fun m => ({ x with mask := m }, m.bits)

/-! ### The elements of LOAD_CHAIN (R164, 11.2) -/

/-- The largest length of an element. -/
def maxLength : Nat := 4096

/-- R164: the kind of an element with its fields, `none` where a field is malformed. Length and mask are no fields of
a BY_PICK element (Table 9-1); bits of the mask byte above the third are unused and are dropped (R207). -/
def kindOfWords (w : ElementWords) : Option ElementKind :=
  let mask := CompMask.ofNum w.mask.toNat
  let plain (make : Sensor → ElementKind) : Option ElementKind :=
    if maxLength < w.length.toNat ∨ mask.nonEmpty = false then none
    else (Sensor.ofNum w.selector.toNat).map make
  match w.kind.toNat with
  | 0 => plain fun sen => .bySample sen (w.start.extractLsb' 0 48).toNat w.length.toNat mask
  | 1 => plain fun sen => .byLocal sen w.start.toNat w.length.toNat mask
  | 2 =>
    let micros := (w.start.extractLsb' 0 32).toNat
    if 999999 < micros then none
    else plain fun sen =>
      .byAbs sen { seconds := (w.start.extractLsb' 32 32).toNat, micros := micros } w.length.toNat mask
  | 3 =>
    let pick := (w.start.extractLsb' 48 16).toNat
    if pick = 0 then none
    else if h : w.selector.toNat < 8 then some (.byPick pick ⟨w.selector.toNat, h⟩)
    else none
  | _ => none

/-- An element with its flags: bit 0 CONTINUE, 1 PAUSE_AFTER, 2 NOTIFY. -/
def elementOfWords (w : ElementWords) : Option Element :=
  (kindOfWords w).map fun k =>
    { kind := k, goOn := w.flags.getLsbD 0, pauseAfter := w.flags.getLsbD 1, notify := w.flags.getLsbD 2 }

/-- All elements of a list, or `none` when one is malformed. -/
def elementsOf : List ElementWords → Option (List Element)
  | [] => some []
  | w :: rest =>
    match elementOfWords w, elementsOf rest with
    | some e, some es => some (e :: es)
    | _, _ => none

/-- R164: the elements of a well-formed load. -/
def loadedElements (count : Byte) (words : List ElementWords) : Option (List Element) :=
  if 1 ≤ count.toNat ∧ count.toNat ≤ 8 ∧ words.length = count.toNat then elementsOf words else none

end Sys2Proof.Machine
end

