-- ==== Sys2Proof/Machine/Encode.lean ====
section
/-! DEFINITION. The coding of fields in responses (R207), the pick and group snapshots (Tables 11-5 and 11-6), and the
response message (11.2). An enumerated field is coded in the order of the table that lists its values. -/

namespace Sys2Proof.Machine

/-! ### Numbers -/

def u8 (n : Nat) : List Byte := bytesBE 1 n
def u16 (n : Nat) : List Byte := bytesBE 2 n
def u24 (n : Nat) : List Byte := bytesBE 3 n
def u32 (n : Nat) : List Byte := bytesBE 4 n
def u40 (n : Nat) : List Byte := bytesBE 5 n

/-- A sample number: 6 bytes. -/
def u48 (n : Nat) : List Byte := bytesBE 6 n

/-- A local time: 8 bytes. -/
def u64 (n : Nat) : List Byte := bytesBE 8 n

/-- A signed number of `n` bytes, two's complement. -/
def signed (n : Nat) (x : Int) : List Byte := bytesBE n (BitVec.ofInt (8 * n) x).toNat

/-- An absolute time: 4 bytes of seconds and 4 bytes of µs. -/
def absBytes (t : AbsTime) : List Byte := u32 t.seconds ++ u32 t.micros

/-- A single mark. -/
def flagByte (b : Bool) : List Byte := u8 b.toNat

/-- A field that may be absent: all zeros when it is. -/
def field {α : Type} (size : Nat) (code : α → List Byte) : Option α → List Byte
  | none => bytesBE size 0
  | some x => code x

/-- Bits as a byte, the first as bit 0. -/
def bitsByte (l : List Bool) : Byte := BitVec.ofNat 8 (l.foldr (fun b acc => b.toNat + 2 * acc) 0)

/-- The presence bits of a status record, in the smallest whole number of bytes. -/
def presence (l : List Bool) : List Byte :=
  (List.range ((l.length + 7) / 8)).map fun i => bitsByte ((l.drop (8 * i)).take 8)

/-! ### Enumerated fields -/

def portNum : Port → Nat
  | .a => 0
  | .b => 1

def channelNum : Channel → Nat
  | .p => 0
  | .s => 1

def TimeState.num : TimeState → Nat
  | .noTime => 0
  | .locked => 1
  | .holdover => 2

def FaultCause.num : FaultCause → Nat
  | .none => 0
  | .step => 1
  | .lost => 2

def IntakeState.num : IntakeState → Nat
  | .off => 0
  | .starting => 1
  | .running => 2
  | .gap => 3

def Rate.num : Rate → Nat
  | .off => 0
  | .r50 => 1
  | .r100 => 2
  | .r200 => 3

def PageState.num : PageState → Nat
  | .opened => 0
  | .closed => 1

def Pressure.num : Pressure → Nat
  | .none => 0
  | .near => 1
  | .close => 2

def TriggerState.num : TriggerState → Nat
  | .warmup => 0
  | .quiet => 1
  | .triggered => 2
  | .holdoff => 3
  | .blind => 4

def RequestState.num : RequestState → Nat
  | .pendingData => 0
  | .ready => 1
  | .inProgress => 2

def ArbiterMode.num : ArbiterMode → Nat
  | .rotating => 0
  | .fixed => 1

def ReadPolicy.num : ReadPolicy → Nat
  | .refinerFirst => 0
  | .equal => 1

def LineMode.num : LineMode → Nat
  | .level => 0
  | .pulse => 1

def ClearMode.num : ClearMode → Nat
  | .explicit => 0
  | .onRead => 1

def OfferMode.num : OfferMode → Nat
  | .all => 0
  | .grouped => 1

def Phase.num : Phase → Nat
  | .p => 0
  | .s => 1
  | .u => 2

def MemberPhase.num : MemberPhase → Nat
  | .p => 0
  | .s => 1

def PickState.num : PickState → Nat
  | .provisional => 0
  | .final => 1
  | .retracted => 2

def Polarity.num : Polarity → Nat
  | .up => 0
  | .down => 1
  | .none => 2

def EndCause.num : EndCause → Nat
  | .detrigger => 0
  | .long => 1
  | .blind => 2

def Grouping.num : Grouping → Nat
  | .pending _ => 0
  | .grouped _ => 1
  | .single => 2

def Grouping.group : Grouping → Option Nat
  | .pending g => some g
  | .grouped g => some g
  | .single => none

def Delivery.num : Delivery → Nat
  | .none => 0
  | .waiting => 1
  | .takenProvisional => 2
  | .takenFinal => 3

def GroupState.num : GroupState → Nat
  | .opened => 0
  | .declared => 1
  | .closed => 2

/-- 11.2. -/
def Notice.kindNum : Notice → Nat
  | .pickNew _ => 0
  | .pickFinal _ => 1
  | .pickRetracted _ _ => 2
  | .groupDeclared _ => 3
  | .groupClosed _ => 4

def Notice.subject : Notice → Nat
  | .pickNew i => i
  | .pickFinal i => i
  | .pickRetracted i _ => i
  | .groupDeclared g => g
  | .groupClosed g => g

/-- 11.2: 0 for A, 1 for B, and 0 for the other kinds. -/
def Notice.retractingPort : Notice → Nat
  | .pickRetracted _ p => portNum p
  | _ => 0

def ChainState.num : ChainState → Nat
  | .empty => 0
  | .loaded => 1
  | .running => 2
  | .waiting => 3
  | .paused => 4
  | .done => 5
  | .faulted => 6

def WaitKind.num : WaitKind → Nat
  | .start => 0
  | .data => 1

def PausePoint.num : PausePoint → Nat
  | .startWait => 0
  | .inElement => 1
  | .between => 2

def ChainStatus.num : ChainStatus → Nat
  | .none => 0
  | .complete => 1
  | .overrun => 2
  | .timeout => 3
  | .noSuchPick => 4

/-- Start notes as bits 0 and 1 (Table 11-7). -/
def StartNote.bits : StartNote → Nat
  | .none => 0
  | .clippedStart => 1
  | .gapSkipped => 2

/-- 11.2. -/
def Result.num : Result → Nat
  | .ok => 0
  | .notAttached => 1
  | .badArg => 2
  | .frozen => 3
  | .noSuchPick => 4
  | .noSuchGroup => 5
  | .chainBusy => 6
  | .empty => 7
  | .already => 8
  | .aborted => 9

/-- Table 11-5, offset 61: bit 0 EDGE, 1 TRUNCATED, 2 GAP_NEAR, 3 HELD, 4 CLIP, 5 CAL, 6 GROUP_FULL. -/
def PickFlags.byte (f : PickFlags) : List Byte :=
  [bitsByte [f.edge, f.truncated, f.gapNear, f.held, f.clip, f.cal, f.groupFull]]

/-! ### Snapshots -/

/-- Table 11-5. -/
def PickRecord.snapshot (r : PickRecord) : List Byte :=
  u16 r.id ++ u8 r.sensor.num ++ u8 (channelNum r.channel) ++ u8 r.phase.num ++ u8 r.state.num
    ++ field 1 (fun p => u8 (portNum p)) r.retractedBy
    ++ [bitsByte [r.retractedBy.isSome, r.onsetLocal.isSome, r.onsetAbs.isSome, r.polarity.isSome, r.sector.isSome,
      r.ending.isSome, r.grouping.group.isSome]]
    ++ u48 r.trigger ++ u48 r.onset ++ field 8 u64 r.onsetLocal ++ field 8 absBytes r.onsetAbs
    ++ u8 r.quality.code ++ u8 r.qualityClass ++ u16 r.sharpness ++ u16 r.vertical
    ++ field 1 (fun x => u8 (Polarity.num x)) r.polarity ++ field 1 u8 r.sector
    ++ u32 r.amplitude ++ u16 r.peak
    ++ field 6 (fun e => u48 e.endSample) r.ending ++ field 4 (fun e => u32 e.duration) r.ending
    ++ field 1 (fun e => u8 e.cause.num) r.ending
    ++ r.flags.byte ++ u8 r.grouping.num ++ u8 (r.delivery.a.num + 4 * r.delivery.b.num)
    ++ field 2 u16 r.grouping.group

/-- Table 11-6: one member. -/
def Member.bytes (m : Member) : List Byte := u16 m.pick ++ u8 m.sensor.num ++ u8 m.phase.num

/-- Table 11-6. -/
def GroupRecord.snapshot (g : GroupRecord) : List Byte :=
  u16 g.id ++ u8 g.state.num ++ [bitsByte [g.firstAbs.isSome, g.declareTime.isSome]]
    ++ u64 g.firstLocal ++ field 8 absBytes g.firstAbs
    ++ u8 g.count ++ u8 g.pCount ++ u8 g.sCount ++ u8 g.members.length
    ++ u16 g.pWindow ++ u16 g.sWindow ++ field 8 u64 g.declareTime
    ++ g.members.flatMap Member.bytes

/-! ### The response message -/

/-- 11.2: code, result, length of the data, data. -/
def Response.message (r : Response) : List Byte := r.code :: u8 r.result.num ++ u16 r.data.length ++ r.data

end Sys2Proof.Machine
end

