-- ==== Sys2Proof/Machine/Detector.lean ====
section
/-! DEFINITION. The Detector (chapter 4): the handling of a set, trigger states, episodes, the GAP announcement and the
application of the detector group. -/

namespace Sys2Proof.Machine

/-! ### Channels -/

/-- One channel's record of a sensor. -/
def State.channel (s : State) (sen : Sensor) (ch : Channel) : ChannelRecord := (s.detector.get sen).channels.get ch

/-- One channel's record of a sensor, changed. -/
def State.modChannel (s : State) (sen : Sensor) (ch : Channel) (f : ChannelRecord → ChannelRecord) : State :=
  s.modDetector sen fun d => { d with channels := d.channels.set ch (f (d.channels.get ch)) }

/-- The active settings of a channel. -/
def State.channelSettings (s : State) (sen : Sensor) (ch : Channel) : ChannelSettings :=
  (s.detector.get sen).group.active.get ch

/-- R61: entry to WARMUP. -/
def ChannelRecord.enterWarmup (c : ChannelRecord) : ChannelRecord :=
  { c with state := .warmup, sta := 0, lta := 0, prev := none, count := 0, episode := none }

/-- R67: entry to BLIND. The state count keeps its value (DEDUCED, log 14). -/
def ChannelRecord.enterBlind (c : ChannelRecord) : ChannelRecord := { c with state := .blind, episode := none }

/-! ### Handing on detrigger information (R65) -/

/-- R65: the information of an episode that was POSTED is handed on. -/
def State.handOnEpisode (s : State) (sen : Sensor) (ch : Channel) (e : Episode) (endSample : Nat) (cause : EndCause) :
    State :=
  if e.posted then s.detriggerInfo sen ch e.trigger { endSample := endSample, peak := e.peak, cause := cause } else s

/-- R67: what a channel hands on when it is made BLIND: an episode in progress ends with its last set. -/
def State.handOnBlind (s : State) (sen : Sensor) (ch : Channel) (c : ChannelRecord) : State :=
  match c.state, c.episode with
  | .triggered, some e => s.handOnEpisode sen ch e e.last .blind
  | _, _ => s

/-- R67, R68: both channels leave what they were in by `f`, and each that was TRIGGERED hands on its information, the
P-channel first (DESIGN CHOICE, log 41: R54 orders the channels' requests alone; unsafe for the order of the two
PICK_FINAL notices). -/
def State.endEpisodes (s : State) (sen : Sensor) (f : ChannelRecord → ChannelRecord) : State :=
  let old := (s.detector.get sen).channels
  let s1 := s.modDetector sen fun d => { d with channels := d.channels.map fun _ c => f c }
  (s1.handOnBlind sen .p old.p).handOnBlind sen .s old.s

/-- R67, R139: the GAP announcement at the Detector. Both channels hand on their information, and then the grouper is
told that they are BLIND (DESIGN CHOICE, log 41: no rule orders the two; unsafe for the order of PICK_FINAL and
GROUP_CLOSED notices). -/
def State.detectorGap (s : State) (sen : Sensor) : State :=
  if (s.detector.get sen).blind then s else (s.endEpisodes sen .enterBlind).retest

/-- R54, step 1, R68: the start. -/
def State.detectorStart (s : State) (sen : Sensor) (streamStart : Bool) : State :=
  if streamStart || (s.detector.get sen).blind then s.endEpisodes sen .enterWarmup else s

/-! ### The application of the group (R72, R73) -/

/-- R72: the cross-field ranges of one channel. -/
def ChannelSettings.resolved (c : ChannelSettings) : ChannelSettings :=
  { c with ltaShift := max c.ltaShift (c.staShift + 2), offThreshold := min c.offThreshold c.onThreshold }

/-- R72: the whole group as it becomes active. -/
def DetectorGroup.resolved (g : DetectorGroup) : DetectorGroup := PerChannel.map (fun _ c => c.resolved) g

/-- R73: whether s or l of either channel differ. -/
def DetectorGroup.shiftsDiffer (x y : DetectorGroup) : Bool :=
  decide (x.p.staShift ≠ y.p.staShift) || decide (x.p.ltaShift ≠ y.p.ltaShift)
    || decide (x.s.staShift ≠ y.s.staShift) || decide (x.s.ltaShift ≠ y.s.ltaShift)

/-- R72, R73: the staged group becomes active, and the channels may enter WARMUP. -/
def DetectorRecord.apply (d : DetectorRecord) : DetectorRecord :=
  let active := DetectorGroup.resolved d.group.staged
  { channels := if d.blind = false ∧ DetectorGroup.shiftsDiffer d.group.active active
      then d.channels.map fun _ c => c.enterWarmup else d.channels
    group := { d.group with active := active }
    applyPending := false }

/-- R54, step 2: whether a set is a set of application. -/
def DetectorRecord.appliesNow (d : DetectorRecord) : Bool :=
  d.applyPending && decide (d.channels.p.state ≠ .triggered) && decide (d.channels.s.state ≠ .triggered)

/-! ### Signal (R55 to R60) -/

/-- R55: the difference of a set from a channel's previous components. -/
def ChannelRecord.difference (c : ChannelRecord) (x : SampleSet) : Diff :=
  match c.prev with
  | none => (0, 0, 0)
  | some (z, n, e) => (x.z - z, x.n - n, x.e - e)

/-- R55 to R60: a channel takes the signal of a set. -/
def ChannelRecord.signal (g : ChannelSettings) (ch : Channel) (x : SampleSet) (c : ChannelRecord) : ChannelRecord :=
  let energy := energyOf ch (c.difference x)
  let sta := average g.staShift c.sta energy
  let lta := if c.state = .triggered then c.lta else average g.ltaShift c.lta energy
  { c with prev := some (x.z, x.n, x.e), sta := sta, lta := lta, ratio := ratioOf sta lta g.ltaFloor }

/-! ### Evaluation (R61 to R66) -/

/-- R62, R63: a channel triggers on a set and posts its request. -/
def State.trigger (s : State) (sen : Sensor) (ch : Channel) (n localTime : Nat) : State :=
  let posted := s.postRequest sen ch n localTime
  posted.1.modChannel sen ch fun c =>
    { c with
      state := .triggered
      count := 0
      lostTriggers := if posted.2 then c.lostTriggers else bump c.lostTriggers
      episode := some { trigger := n, triggerLocal := localTime, peak := c.ratio, posted := posted.2, last := n } }

/-- R64: the cause by which an episode ends on a set, if it does. -/
def endCauseOf (g : ChannelSettings) (ratio count : Nat) : Option EndCause :=
  if ratio < g.offThreshold then some .detrigger
  else if g.maxTrigger ≤ count then some .long
  else none

/-- R64: a channel in TRIGGERED takes a set. -/
def State.episodeSet (s : State) (sen : Sensor) (ch : Channel) (n : Nat) (e : Episode) : State :=
  let g := s.channelSettings sen ch
  let c := s.channel sen ch
  let e' : Episode := { e with peak := max e.peak c.ratio, last := n }
  match endCauseOf g c.ratio (c.count + 1) with
  | none => s.modChannel sen ch fun x => { x with count := x.count + 1, episode := some e' }
  | some cause =>
    let s1 := s.handOnEpisode sen ch e' n cause
    s1.modChannel sen ch fun x =>
      { x with state := if g.holdOff = 0 then .quiet else .holdoff, count := 0, episode := none }

/-- R61, R66: a channel counts a set in WARMUP or HOLDOFF, and enters QUIET when the count reaches `limit`. The count
keeps its value in QUIET (DEDUCED, log 14). -/
def ChannelRecord.countTo (limit : Nat) (c : ChannelRecord) : ChannelRecord :=
  { c with count := c.count + 1, state := if limit ≤ c.count + 1 then .quiet else c.state }

/-- R54, step 4: a channel takes the step of its trigger state. -/
def State.evaluate (s : State) (sen : Sensor) (ch : Channel) (suspended : Bool) (n localTime : Nat) : State :=
  let c := s.channel sen ch
  let g := s.channelSettings sen ch
  match c.state with
  | .warmup => s.modChannel sen ch (ChannelRecord.countTo (2 ^ g.ltaShift))
  | .quiet => if g.onThreshold ≤ c.ratio ∧ suspended = false then s.trigger sen ch n localTime else s
  | .triggered =>
    match c.episode with
    | some e => s.episodeSet sen ch n e
    | none => s
  | .holdoff => s.modChannel sen ch (ChannelRecord.countTo g.holdOff)
  | .blind => s

/-- R54: the Detector handles a set that the ring has stored, the P-channel before the S-channel (DESIGN CHOICE where
both episodes end on one set, log 41: R54 orders the posts of requests alone; unsafe for the order of two PICK_FINAL
notices). -/
def State.detectorSet (s : State) (sen : Sensor) (x : SampleSet) (streamStart : Bool) : State :=
  let n := (s.ring.get sen).newest.getD 0
  let localTime := (s.ring.get sen).newestLocal.getD 0
  let s1 := s.detectorStart sen streamStart
  let applied := (s1.detector.get sen).appliesNow
  let s2 := if applied then s1.modDetector sen DetectorRecord.apply else s1
  let suspended := applied || (s2.detector.get sen).applyPending
  let s3 := s2.modDetector sen fun d =>
    { d with channels := d.channels.map fun ch c => c.signal (d.group.active.get ch) ch x }
  (s3.evaluate sen .p suspended n localTime).evaluate sen .s suspended n localTime

end Sys2Proof.Machine
end

