-- ==== Sys2Proof/Machine/Reports.lean ====
section
/-! DEFINITION. The hand-off of a set (R4): the ring stores it and reports it (R40), and the Detector takes it. -/

namespace Sys2Proof.Machine

/-- R37, step 1: whether the oldest valid sample number was raised from one value to a larger one. -/
def oldestRaised (before after : Option Nat) : Bool :=
  match before, after with
  | some a, some b => decide (a < b)
  | _, _ => false

/-- R40: the reports of a stored set, in the order refiner, grouper, Excerpt Engine (DESIGN CHOICE, log 8; unsafe
where two of them act on the same list in one step). -/
def State.ringReport (s : State) (sen : Sensor) (raised : Bool) : State :=
  ((s.refinerReport sen raised).retest).excerptReport sen

/-- R4: a set is handed on: the ring stores it and reports it, and then the Detector processes it. -/
def State.handOn (s : State) (sen : Sensor) (set : SampleSet) (streamStart : Bool) (arrival : Nat) : State :=
  let s1 := s.storeSet sen set streamStart arrival
  let s2 := s1.ringReport sen (oldestRaised (s.ring.get sen).oldest (s1.ring.get sen).oldest)
  s2.detectorSet sen set streamStart

end Sys2Proof.Machine
end

