-- ==== Sys2Proof/Machine/Intake.lean ====
section
/-! DEFINITION. Sample Intake (chapter 1): frames, correction, streams and their breaks, the copy of the correction
group, and the rows SAMPLE_LINK_FRAME and FRAME_SILENCE_EXPIRY. -/

namespace Sys2Proof.Machine

/-! ### Frames (R1, R3, Table 11-1) -/

/-- The fields of a frame, and whether its check byte holds. -/
structure Frame where
  sensor : Sensor
  sequence : BitVec 8
  z : Int
  h1 : Int
  h2 : Int
  clip : Bool
  cal : Bool
  good : Bool
  deriving DecidableEq, Repr

/-- The sensor that the two lowest bits of a byte name. -/
def sensorOfBits (b : BitVec 2) : Sensor :=
  if b = 0#2 then .s0 else if b = 1#2 then .s1 else if b = 2#2 then .s2 else .s3

/-- R1, Table 11-1: a frame of 12 bytes; `none` for any other number. -/
def parseFrame : List Byte → Option Frame
  | [b0, b1, b2, b3, b4, b5, b6, b7, b8, b9, b10, b11] =>
    some {
      sensor := sensorOfBits (b0.extractLsb' 0 2)
      sequence := b1
      z := (b2 ++ b3 ++ b4).toInt
      h1 := (b5 ++ b6 ++ b7).toInt
      h2 := (b8 ++ b9 ++ b10).toInt
      clip := b0.getLsbD 7
      cal := b0.getLsbD 6
      good := decide (b11 = b0 ^^^ b1 ^^^ b2 ^^^ b3 ^^^ b4 ^^^ b5 ^^^ b6 ^^^ b7 ^^^ b8 ^^^ b9 ^^^ b10) }
  | _ => none

/-! ### Correction (R15, R16) -/

/-- The saturation of R15 and R16. -/
def saturateSample (x : Int) : Int := saturate (-Config.sampleMax) Config.sampleMax x

/-- R15: a component before saturation. -/
def gained (raw offset : Int) (gain : Nat) : Int := roundDiv ((raw - offset) * (gain : Int)) 16384

/-- R16: a rotated component before saturation. -/
def rotated (x : Int) : Int := roundDiv x 16384

/-- R15, R16: the corrected set of a good frame. -/
def correct (g : CorrectionGroup) (f : Frame) : SampleSet :=
  let z := gained f.z g.offsetZ g.gainZ
  let h1 := gained f.h1 g.offsetH1 g.gainH1
  let h2 := gained f.h2 g.offsetH2 g.gainH2
  let n := rotated (g.cosine * saturateSample h1 - g.sine * saturateSample h2)
  let e := rotated (g.sine * saturateSample h1 + g.cosine * saturateSample h2)
  { z := saturateSample z
    n := saturateSample n
    e := saturateSample e
    held := false
    clip := f.clip || [z, h1, h2, n, e].any fun x => decide (saturateSample x ≠ x)
    cal := f.cal }

/-- R4: the held set of a sensor whose last good set is given. -/
def heldSet : Option SampleSet → SampleSet
  | none => { z := 0, n := 0, e := 0, held := true, clip := false, cal := false }
  | some x => { x with held := true, clip := false }

/-! ### GAP (R11) -/

/-- R11: what a GAP declaration leaves of an intake record. -/
def IntakeRecord.enterGap (r : IntakeRecord) : IntakeRecord :=
  { r with state := .gap, expected := none, consecutiveBad := 0, consecutiveGood := 0, silenceTimer := none }

/-- R11: a GAP declaration, with its announcements in the order of the rule (DESIGN CHOICE, log 8; R67 and R79 say how
a request fares in either order). `flag` is false for the rate-change declaration of R18. -/
def State.declareGap (s : State) (sen : Sensor) (flag : Bool) : State :=
  let s1 := (s.closePageShort sen).detectorGap sen
  let s2 := State.settle s1 (s1.refinerGap sen)
  let s3 := if flag then s2.setIntakeFlag sen .gap else s2
  s3.modIntake sen .enterGap

/-- Whether a sensor's frame silence timer has run its four sample periods. -/
def State.silenceOverdue (s : State) (sen : Sensor) : Bool :=
  match (s.intake.get sen).state, (s.intake.get sen).silenceTimer with
  | .running, some t => decide (t + 4 * (s.rate sen).period ≤ s.time.localTime)
  | _, _ => false

def State.frameSilence (s : State) (sen : Sensor) : State :=
  if s.silenceOverdue sen then s.declareGap sen true else s

/-- FRAME_SILENCE_EXPIRY (R11). -/
def execFrameSilenceExpiry (dt : Nat) (sen : Sensor) (s : State) : Host.Outcome State Fault Refusal :=
  .next ((s.elapse dt).frameSilence sen)

/-! ### The copy of the correction group (R17, R18) -/

/-- R17: the staged group becomes active, and the mark is cleared. -/
def IntakeRecord.copyGroup (r : IntakeRecord) : IntakeRecord :=
  { r with correction := .both r.correction.staged, applyPending := false }

/-- R18: a sensor enters OFF, which is reported to the grouper. -/
def State.enterOff (s : State) (sen : Sensor) : State :=
  (s.modIntake sen fun r => { r with state := .off }).retest

/-- R18: a sensor whose rate is enabled enters STARTING. -/
def IntakeRecord.enterStarting (r : IntakeRecord) : IntakeRecord :=
  { r with state := .starting, consecutiveBad := 0, consecutiveGood := 0, silenceTimer := none }

/-- R17, R18: a copy of the correction group, with what a change of rate brings. -/
def State.copyCorrection (s : State) (sen : Sensor) : State :=
  let r := s.intake.get sen
  let new := r.correction.staged.rate
  let s1 := s.modIntake sen .copyGroup
  if new = r.correction.active.rate then s1
  else match r.state, new with
    | .running, .off => (s1.declareGap sen false).enterOff sen
    | .running, _ => s1.declareGap sen false
    | .gap, .off => s1.enterOff sen
    | .starting, .off => s1.enterOff sen
    | .off, .off => s1.enterOff sen
    | .off, _ => s1.modIntake sen .enterStarting
    | _, _ => s1

/-! ### Streams (R5 to R10) -/

/-- The fields that R5 and R10 set after a stream's first set. -/
def IntakeRecord.started (set : SampleSet) (sequence : BitVec 8) (now : Nat) (r : IntakeRecord) : IntakeRecord :=
  { r with
    state := .running, lastGood := some set, expected := some (sequence + 1#8), consecutiveBad := 0,
    consecutiveGood := 1, silenceTimer := some now }

/-- R5, R10: a good frame starts or restarts a stream. -/
def State.startStream (s : State) (f : Frame) : State :=
  let set := correct (s.activeCorrection f.sensor) f
  (s.handOn f.sensor set true s.time.localTime).modIntake f.sensor
    (IntakeRecord.started set f.sequence s.time.localTime)

/-- R6, R13: the fields that a good frame in its turn sets; auto-clear acts when the count reaches 64. -/
def IntakeRecord.took (set : SampleSet) (now : Nat) (autoClear : Bool) (r : IntakeRecord) : IntakeRecord :=
  { r with
    lastGood := some set
    expected := r.expected.map (· + 1#8)
    consecutiveBad := 0
    consecutiveGood := min (r.consecutiveGood + 1) Config.goodLimit
    flags := if autoClear = true ∧ r.consecutiveGood + 1 = Config.goodLimit then .none else r.flags
    silenceTimer := some now }

/-- R6: a good frame with d = 0. -/
def State.takeFrame (s : State) (f : Frame) : State :=
  let set := correct (s.activeCorrection f.sensor) f
  (s.handOn f.sensor set false s.time.localTime).modIntake f.sensor
    (IntakeRecord.took set s.time.localTime s.autoClear)

/-- R7, R31: `d` held sets of one frame, each moved back by a period for each set that follows it. -/
def State.fill (s : State) (sen : Sensor) (held : SampleSet) (d : Nat) : State :=
  (List.range d).foldl
    (fun t i => t.handOn sen held false (s.time.localTime - (d - i) * (s.rate sen).period)) s

/-- R7: the fields that a short jump sets. -/
def IntakeRecord.jumped (set : SampleSet) (sequence : BitVec 8) (now : Nat) (r : IntakeRecord) : IntakeRecord :=
  { r with
    lastGood := some set, expected := some (sequence + 1#8), consecutiveBad := 0, consecutiveGood := 0,
    silenceTimer := some now }

/-- R7: a short jump. -/
def State.shortJump (s : State) (f : Frame) (d : Nat) : State :=
  let set := correct (s.activeCorrection f.sensor) f
  let s1 := s.setIntakeFlag f.sensor .sequence
  let s2 := s1.fill f.sensor (heldSet (s.intake.get f.sensor).lastGood) d
  (s2.handOn f.sensor set false s.time.localTime).modIntake f.sensor
    (IntakeRecord.jumped set f.sequence s.time.localTime)

/-- R8: a long jump. -/
def State.longJump (s : State) (f : Frame) : State :=
  ((s.setIntakeFlag f.sensor .sequence).declareGap f.sensor true).startStream f

/-- R6: the sequence distance of a frame. -/
def IntakeRecord.distance (r : IntakeRecord) (sequence : BitVec 8) : Nat :=
  (sequence - r.expected.getD sequence).toNat

/-- R6 to R8: a good frame in RUNNING. -/
def State.goodRunning (s : State) (f : Frame) : State :=
  let d := (s.intake.get f.sensor).distance f.sequence
  if d = 0 then s.takeFrame f
  else if d ≤ 15 then s.shortJump f d
  else s.longJump f

/-- R9: a bad frame in RUNNING. -/
def State.badRunning (s : State) (sen : Sensor) : State :=
  let r := s.intake.get sen
  let s1 := (s.modIntake sen fun x =>
    { x with
      consecutiveBad := x.consecutiveBad + 1, consecutiveGood := 0, silenceTimer := some s.time.localTime }).setIntakeFlag
    sen .parity
  if r.consecutiveBad + 1 < Config.badLimit then
    (s1.handOn sen (heldSet r.lastGood) false s.time.localTime).modIntake sen fun x =>
      { x with expected := x.expected.map (· + 1#8) }
  else s1.declareGap sen true

/-- R2, R5 to R10: a frame is handled by the intake state it finds. -/
def State.handleFrame (s : State) (f : Frame) : State :=
  match (s.intake.get f.sensor).state, f.good with
  | .off, _ => s.modIntake f.sensor fun r => { r with offFrames := bump r.offFrames }
  | .starting, true => s.startStream f
  | .gap, true => s.startStream f
  | .running, true => s.goodRunning f
  | .running, false => s.badRunning f.sensor
  | _, false => s.setIntakeFlag f.sensor .parity

/-- R17: a pending copy is made at the sensor's next frame, before the frame is handled. A mark that stands in GAP, as
after a silence expiry, is served in the same way (DEDUCED, log 35, from the Caution of R18; unsafe for that frame). -/
def State.copyAtFrame (s : State) (sen : Sensor) : State :=
  if (s.intake.get sen).applyPending then s.copyCorrection sen else s

/-- R1: a frame arrives. -/
def State.frame (s : State) (bytes : List Byte) : State :=
  match parseFrame bytes with
  | none => { s with malformedFrames := bump s.malformedFrames }
  | some f => (s.copyAtFrame f.sensor).handleFrame f

/-- SAMPLE_LINK_FRAME (R1). -/
def execSampleLinkFrame (dt : Nat) (bytes : List Byte) (s : State) : Host.Outcome State Fault Refusal :=
  .next ((s.elapse dt).frame bytes)

end Sys2Proof.Machine
end

