-- ==== Sys2Proof/Machine/Settings.lean ====
section
/-! DEFINITION. The Settings Window (10.4): the SET rows with the stores of every index, the APPLY rows, and FREEZE. -/

namespace Sys2Proof.Machine

/-! ### Classes of index (Table 10-6) -/

/-- Whether a write of the index is closed by FREEZE. -/
def frozenIndex : SettingIndex → Bool
  | .correction _ _ | .detector _ _ _ | .refinement _ _ | .grouping _ | .preset _ _ => true
  | .pageSize | .arbiterMode | .agingLimit | .ringReadPolicy => true
  | .intakeAutoClear => false
  | .mask | .lineMode | .clearMode | .silenceTimeout | .offerMode => false
  | .intakeStatus _ | .ringStatus _ | .detectorStatus _ => false
  | .timeStatus | .refinerStatus | .tableStatus | .groupingStatus | .offerStatus | .chainStatus => false

/-- Whether the index is port-local. -/
def portLocal : SettingIndex → Bool
  | .mask | .lineMode | .clearMode | .silenceTimeout | .offerMode => true
  | _ => false

/-! ### The stores: the state with the value stored, and the value as stored; `none` where the value does not fit -/

/-- A store: the new state and the stored value. -/
abbrev Stored := Option (State × BitVec 32)

def State.storeCorrection (s : State) (sen : Sensor) (item : CorrectionItem) (v : BitVec 32) : Stored :=
  ((s.intake.get sen).correction.staged.write item v).map fun g =>
    (s.modIntake sen fun r => { r with correction := { r.correction with staged := g.1 } }, g.2)

/-- R69. -/
def State.storeDetector (s : State) (sen : Sensor) (ch : Channel) (item : ChannelItem) (v : BitVec 32) : Stored :=
  let x := clampTo (channelRange item) v.toNat
  some (s.modDetector sen fun d =>
    { d with group := { d.group with
      staged := d.group.staged.set ch ((d.group.staged.get ch).write item x) } }, BitVec.ofNat 32 x)

/-- R83. -/
def State.storeRefinement (s : State) (sen : Sensor) (item : RefinementItem) (v : BitVec 32) : Stored :=
  let g := s.refiner.groups.get sen
  let x := g.staged.clamp item v.toNat
  some ({ s with refiner := { s.refiner with
    groups := s.refiner.groups.set sen { g with staged := g.staged.write item x } } }, BitVec.ofNat 32 x)

/-- R129. -/
def State.storeGrouping (s : State) (item : GroupingItem) (v : BitVec 32) : Stored :=
  let x := clampTo (groupingRange item) v.toNat
  some ({ s with grouper := { s.grouper with
    settings := { s.grouper.settings with staged := s.grouper.settings.staged.write item x } } }, BitVec.ofNat 32 x)

/-- R165. -/
def State.storePreset (s : State) (k : Fin 8) (item : PresetItem) (v : BitVec 32) : Stored :=
  ((s.presets.staged.get k).write item v.toNat).map fun x =>
    ({ s with presets := { s.presets with staged := s.presets.staged.set k x.1 } }, BitVec.ofNat 32 x.2)

/-- R51. -/
def State.storePageSize (s : State) (v : BitVec 32) : Stored :=
  let p := PageSize.ofValue v.toNat
  some ({ s with pageSize := { s.pageSize with staged := p } }, BitVec.ofNat 32 p.sets)

/-- R85. -/
def State.storeArbiterMode (s : State) (v : BitVec 32) : Stored :=
  (ArbiterMode.ofNum v.toNat).map fun m => ({ s with refiner := { s.refiner with mode := m } }, v)

/-- R85. -/
def State.storeAgingLimit (s : State) (v : BitVec 32) : Stored :=
  let x := clampNat 0 15 v.toNat
  some ({ s with refiner := { s.refiner with aging := x } }, BitVec.ofNat 32 x)

/-- R183. -/
def State.storeRingReadPolicy (s : State) (v : BitVec 32) : Stored :=
  (ReadPolicy.ofNum v.toNat).map fun m => ({ s with arbiter := { s.arbiter with policy := m } }, v)

/-- R13. -/
def State.storeIntakeAutoClear (s : State) (v : BitVec 32) : Stored :=
  (autoClearOfNum v.toNat).map fun b => ({ s with autoClear := b }, v)

/-- R195. -/
def State.storeMask (s : State) (p : Port) (v : BitVec 32) : Stored :=
  (classSetOf v.toNat).map fun m => (s.modAttention p (AttnRecord.setMask s.time.localTime m), v)

/-- R196. -/
def State.storeLineMode (s : State) (p : Port) (v : BitVec 32) : Stored :=
  (LineMode.ofNum v.toNat).map fun m => (s.modAttention p (AttnRecord.setLineMode m), v)

/-- R197. -/
def State.storeClearMode (s : State) (p : Port) (v : BitVec 32) : Stored :=
  (ClearMode.ofNum v.toNat).map fun m => (s.modAttention p fun r => { r with clearMode := m }, v)

/-- R191. -/
def State.storeSilenceTimeout (s : State) (p : Port) (v : BitVec 32) : Stored :=
  let x := clampNat 0 255 v.toNat
  some (s.modPort p fun r =>
    { r with
      timeout := x
      timer := if x ≠ 0 ∧ s.attached p = true then some s.time.localTime else none }, BitVec.ofNat 32 x)

/-- R149. -/
def State.storeOfferMode (s : State) (p : Port) (v : BitVec 32) : Stored :=
  (OfferMode.ofNum v.toNat).map fun m => (s.modOffers p fun r => { r with setting := m }, v)

/-- R201, R208: the store of an index; `none` for a status index or a value that does not fit. -/
def State.storeSetting (s : State) (p : Port) (i : SettingIndex) (v : BitVec 32) : Stored :=
  match i with
  | .correction sen item => s.storeCorrection sen item v
  | .detector sen ch item => s.storeDetector sen ch item v
  | .refinement sen item => s.storeRefinement sen item v
  | .grouping item => s.storeGrouping item v
  | .preset k item => s.storePreset k item v
  | .pageSize => s.storePageSize v
  | .arbiterMode => s.storeArbiterMode v
  | .agingLimit => s.storeAgingLimit v
  | .ringReadPolicy => s.storeRingReadPolicy v
  | .intakeAutoClear => s.storeIntakeAutoClear v
  | .mask => s.storeMask p v
  | .lineMode => s.storeLineMode p v
  | .clearMode => s.storeClearMode p v
  | .silenceTimeout => s.storeSilenceTimeout p v
  | .offerMode => s.storeOfferMode p v
  | .intakeStatus _ | .ringStatus _ | .detectorStatus _ => none
  | .timeStatus | .refinerStatus | .tableStatus | .groupingStatus | .offerStatus | .chainStatus => none

/-! ### SET (R201) -/

/-- A refusal: nothing is stored and no data goes with it. -/
def State.refuse (s : State) (result : Result) : Answer := { state := s, result := result, data := [] }

/-- R201, R199: the answer to a SET of an index whose store is `out`: BAD_ARG where nothing was stored, then FROZEN,
then OK with the index and the value as stored. -/
def State.answerSet (s : State) (p : Port) (i : SettingIndex) (out : Stored) : Answer :=
  match out with
  | none => s.refuse .badArg
  | some (s', v) =>
    if s.frozen ∧ frozenIndex i then s.refuse .frozen
    else
      { state := if portLocal i then s' else s'.settingsChanged p
        result := .ok
        data := u16 (encodeIndex i).toNat ++ u32 v.toNat }

/-- SET (R201). -/
def execSet (dt : Nat) (p : Port) (index : BitVec 16) (value : BitVec 32) (s : State) :
    Host.Outcome State Fault Refusal :=
  .next ((s.elapse dt).perform p (.set index value) fun t =>
    match decodeIndex index with
    | none => t.refuse .badArg
    | some i => t.answerSet p i (t.storeSetting p i value))

/-- SET_QUALITY_THRESHOLD (R83). -/
def execSetQualityThreshold (dt : Nat) (p : Port) (sen : Sensor) (which : Threshold) (value : BitVec 32) (s : State) :
    Host.Outcome State Fault Refusal :=
  .next ((s.elapse dt).perform p (.set (encodeIndex (.refinement sen (.threshold which))) value) fun t =>
    t.answerSet p (.refinement sen (.threshold which)) (t.storeRefinement sen (.threshold which) value))

/-- SET_PAGE_SIZE (R51). -/
def execSetPageSize (dt : Nat) (p : Port) (value : BitVec 32) (s : State) : Host.Outcome State Fault Refusal :=
  .next ((s.elapse dt).perform p (.set (encodeIndex .pageSize) value) fun t =>
    t.answerSet p .pageSize (t.storePageSize value))

/-- SET_ARBITER_MODE (R85). -/
def execSetArbiterMode (dt : Nat) (p : Port) (value : BitVec 32) (s : State) : Host.Outcome State Fault Refusal :=
  .next ((s.elapse dt).perform p (.set (encodeIndex .arbiterMode) value) fun t =>
    t.answerSet p .arbiterMode (t.storeArbiterMode value))

/-- SET_AGING_LIMIT (R85). -/
def execSetAgingLimit (dt : Nat) (p : Port) (value : BitVec 32) (s : State) : Host.Outcome State Fault Refusal :=
  .next ((s.elapse dt).perform p (.set (encodeIndex .agingLimit) value) fun t =>
    t.answerSet p .agingLimit (t.storeAgingLimit value))

/-- SET_RING_READ_POLICY (R183). -/
def execSetRingReadPolicy (dt : Nat) (p : Port) (value : BitVec 32) (s : State) : Host.Outcome State Fault Refusal :=
  .next ((s.elapse dt).perform p (.set (encodeIndex .ringReadPolicy) value) fun t =>
    t.answerSet p .ringReadPolicy (t.storeRingReadPolicy value))

/-- SET_INTAKE_AUTO_CLEAR (R13). -/
def execSetIntakeAutoClear (dt : Nat) (p : Port) (value : BitVec 32) (s : State) : Host.Outcome State Fault Refusal :=
  .next ((s.elapse dt).perform p (.set (encodeIndex .intakeAutoClear) value) fun t =>
    t.answerSet p .intakeAutoClear (t.storeIntakeAutoClear value))

/-- SET_MASK (R195). -/
def execSetMask (dt : Nat) (p : Port) (value : BitVec 32) (s : State) : Host.Outcome State Fault Refusal :=
  .next ((s.elapse dt).perform p (.set (encodeIndex .mask) value) fun t =>
    t.answerSet p .mask (t.storeMask p value))

/-- SET_LINE_MODE (R196). -/
def execSetLineMode (dt : Nat) (p : Port) (value : BitVec 32) (s : State) : Host.Outcome State Fault Refusal :=
  .next ((s.elapse dt).perform p (.set (encodeIndex .lineMode) value) fun t =>
    t.answerSet p .lineMode (t.storeLineMode p value))

/-- SET_CLEAR_MODE (R197). -/
def execSetClearMode (dt : Nat) (p : Port) (value : BitVec 32) (s : State) : Host.Outcome State Fault Refusal :=
  .next ((s.elapse dt).perform p (.set (encodeIndex .clearMode) value) fun t =>
    t.answerSet p .clearMode (t.storeClearMode p value))

/-- SET_SILENCE_TIMEOUT (R191). -/
def execSetSilenceTimeout (dt : Nat) (p : Port) (value : BitVec 32) (s : State) : Host.Outcome State Fault Refusal :=
  .next ((s.elapse dt).perform p (.set (encodeIndex .silenceTimeout) value) fun t =>
    t.answerSet p .silenceTimeout (t.storeSilenceTimeout p value))

/-- SET_OFFER_MODE (R149). -/
def execSetOfferMode (dt : Nat) (p : Port) (value : BitVec 32) (s : State) : Host.Outcome State Fault Refusal :=
  .next ((s.elapse dt).perform p (.set (encodeIndex .offerMode) value) fun t =>
    t.answerSet p .offerMode (t.storeOfferMode p value))

/-! ### APPLY (R204) -/

/-- What the owning block did with an APPLY. -/
inductive Applied where
  | applied
  | pending
  deriving DecidableEq, Repr

/-- Table 11-4: 0 APPLIED, 1 PENDING. -/
def Applied.num : Applied → Nat
  | .applied => 0
  | .pending => 1

/-- R204, R199: the answer to an APPLY. `same` says that the staged copy equals the active copy. -/
def State.answerApply (s : State) (p : Port) (same : Bool) (owner : State → State × Applied) : Answer :=
  if s.frozen then s.refuse .frozen
  else
    { state := if same then (owner s).1 else (owner s).1.settingsChanged p
      result := .ok
      data := u8 (owner s).2.num }

/-- R17: an APPLY at Sample Intake. -/
def State.applyCorrection (s : State) (sen : Sensor) : State × Applied :=
  if (s.intake.get sen).state = .running then (s.modIntake sen fun r => { r with applyPending := true }, .pending)
  else (s.copyCorrection sen, .applied)

/-- APPLY_CORRECTION (R17). -/
def execApplyCorrection (dt : Nat) (p : Port) (sen : Sensor) (s : State) : Host.Outcome State Fault Refusal :=
  .next ((s.elapse dt).perform p (.apply (GroupName.area (.correction sen))) fun t =>
    t.answerApply p (decide ((t.intake.get sen).correction.staged = (t.intake.get sen).correction.active))
      fun u => u.applyCorrection sen)

/-- R70: an APPLY at the Detector. -/
def State.applyDetector (s : State) (sen : Sensor) : State × Applied :=
  if (s.detector.get sen).blind then (s.modDetector sen DetectorRecord.apply, .applied)
  else (s.modDetector sen fun d => { d with applyPending := true }, .pending)

/-- APPLY_DETECTOR (R70). -/
def execApplyDetector (dt : Nat) (p : Port) (sen : Sensor) (s : State) : Host.Outcome State Fault Refusal :=
  .next ((s.elapse dt).perform p (.apply (GroupName.area (.detector sen))) fun t =>
    t.answerApply p (decide ((t.detector.get sen).group.staged = (t.detector.get sen).group.active))
      fun u => u.applyDetector sen)

/-- R84: a request's test after the copy. -/
def State.retestRequest (s : State) (sen : Sensor) (q : RefineRequest) : RefineRequest :=
  match q.state with
  | .pendingData => s.readyIf sen q
  | .ready =>
    if q.flags.gapNear = true ∨ s.dataReady sen q = true then q
    else match s.refiner.gapCut.get sen with
      | some cut => q.cutAt cut
      | none => { q with state := .pendingData }
  | .inProgress => q

/-- R84, R139: an APPLY at the refiner. The requests are retested, with the grant decision that a new READY head
occasions, and then the grouper is told of a changed pre (DESIGN CHOICE, log 42: no rule orders the two; unsafe for a
TABLE_FULL that a record freed by the group tests would have spared). -/
def State.applyRefinement (s : State) (sen : Sensor) : State × Applied :=
  let g := s.refiner.groups.get sen
  let s1 := { s with refiner := { s.refiner with groups := s.refiner.groups.set sen (.both g.staged) } }
  let s2 := State.settle s (s1.modQueue sen fun l => l.map (s1.retestRequest sen))
  (if g.staged.pre = g.active.pre then s2 else s2.retest, .applied)

/-- APPLY_REFINEMENT (R84). -/
def execApplyRefinement (dt : Nat) (p : Port) (sen : Sensor) (s : State) : Host.Outcome State Fault Refusal :=
  .next ((s.elapse dt).perform p (.apply (GroupName.area (.refinement sen))) fun t =>
    t.answerApply p (decide ((t.refiner.groups.get sen).staged = (t.refiner.groups.get sen).active))
      fun u => u.applyRefinement sen)

/-- R129: an APPLY at the grouper. -/
def State.applyGrouping (s : State) : State × Applied :=
  ({ s with grouper := { s.grouper with settings := .both s.grouper.settings.staged } }, .applied)

/-- APPLY_GROUPING (R129). -/
def execApplyGrouping (dt : Nat) (p : Port) (s : State) : Host.Outcome State Fault Refusal :=
  .next ((s.elapse dt).perform p (.apply (GroupName.area .grouping)) fun t =>
    t.answerApply p (decide (t.grouper.settings.staged = t.grouper.settings.active)) State.applyGrouping)

/-- R165: an APPLY at the Excerpt Engine. -/
def State.applyPresets (s : State) : State × Applied := ({ s with presets := .both s.presets.staged }, .applied)

/-- APPLY_PRESETS (R165). -/
def execApplyPresets (dt : Nat) (p : Port) (s : State) : Host.Outcome State Fault Refusal :=
  .next ((s.elapse dt).perform p (.apply (GroupName.area .presets)) fun t =>
    t.answerApply p (decide (t.presets.staged = t.presets.active)) State.applyPresets)

/-! ### FREEZE (R205) -/

/-- R205. -/
def State.answerFreeze (s : State) : Answer :=
  if s.frozen then s.refuse .already else { state := { s with frozen := true }, result := .ok, data := [] }

/-- FREEZE (R205). -/
def execFreeze (dt : Nat) (p : Port) (s : State) : Host.Outcome State Fault Refusal :=
  .next ((s.elapse dt).perform p .freeze State.answerFreeze)

end Sys2Proof.Machine
end

