-- ==== Sys2Proof/Machine/Catalogue.lean ====
section
/-! DEFINITION. The commands of the Offer Lists, the Arrival Table and the grouper: ATTACH, DETACH, TAKE, READ_PICK,
READ_GROUP and RETRACT, and the detach that SILENCE_TIMEOUT shares (R160). -/

namespace Sys2Proof.Machine

/-! ### ATTACH (R159) -/

/-- R159, step 1, R191: the port becomes ATTACHED, and its silence timer starts unless the timeout is 0. -/
def State.becomeAttached (s : State) (p : Port) : State :=
  (s.modOffers p fun o => { o with mode := some o.setting }).modPort p fun r =>
    { r with timer := if r.timeout = 0 then none else some s.time.localTime }

/-- R159, step 2: whether a live record is offered at the attach. -/
def PickRecord.offeredAt (m : OfferMode) (r : PickRecord) : Bool :=
  decide (r.state ≠ .retracted) && m.offers r.grouping

/-- R159, steps 2 and 3: the catch-up. -/
def State.catchUp (s : State) (p : Port) : State :=
  let m := (s.offers.get p).setting
  let picks := (s.table.records.filter (PickRecord.offeredAt m)).map (·.id)
  let groups := (s.grouper.groups.filter fun g => g.state = .declared).map (·.id)
  groups.foldl (fun t g => t.appendNotice p (.groupDeclared g)) (picks.foldl (fun t id => t.offerPick p id) s)

/-- R159. -/
def State.answerAttach (s : State) (p : Port) : Answer :=
  if s.attached p then s.refuse .already
  else
    let s1 := (s.becomeAttached p).catchUp p
    { state := s1, result := .ok, data := u8 (s1.notices p).length }

/-- ATTACH (R159). -/
def execAttach (dt : Nat) (p : Port) (s : State) : Host.Outcome State Fault Refusal :=
  .next ((s.elapse dt).perform p .attach fun t => t.answerAttach p)

/-! ### DETACH (R160) -/

/-- R122: the port's delivery field becomes NONE in every live record. -/
def State.clearDeliveries (s : State) (p : Port) : State :=
  { s with table := { s.table with
    records := s.table.records.map fun r => { r with delivery := r.delivery.set p .none } } }

/-- R178: a chain is abandoned without status. -/
def State.resetChain (s : State) (p : Port) : State := s.modChain p fun _ => .reset

/-- R160, R191: the detach of a port. -/
def State.detachPort (s : State) (p : Port) : State :=
  let s1 := (s.setNotices p []).modOffers p fun o => { o with mode := none }
  let s2 := s1.resetChain p
  let s3 := s2.clearDeliveries p
  let s4 := State.settle s3 (s3.releaseTests (s3.table.records.map (·.id)))
  let s5 := s4.groupFreeTests
  let s6 := s5.modAttention p AttnRecord.quieten
  s6.modPort p fun r => { r with timer := none }

/-- R160. A port that has become DETACHED after the attachment test is refused as R160 says (DEDUCED, log 30; unsafe
for the result code of that case). -/
def State.answerDetach (s : State) (p : Port) : Answer :=
  if s.attached p then { state := s.detachPort p, result := .ok, data := [] } else s.refuse .notAttached

/-- DETACH (R160). -/
def execDetach (dt : Nat) (p : Port) (s : State) : Host.Outcome State Fault Refusal :=
  .next ((s.elapse dt).perform p .detach fun t => t.answerDetach p)

/-! ### TAKE (R156) -/

/-- R156: the delivery field that a take of a record in a state sets. -/
def PickState.taken : PickState → Delivery
  | .provisional => .takenProvisional
  | .final => .takenFinal
  | .retracted => .takenFinal

/-- R156: the snapshot of a notice's subject; empty in a state, which no run meets, whose subject is not live. -/
def State.subjectSnapshot (s : State) (n : Notice) : List Byte :=
  match n with
  | .pickNew i | .pickFinal i | .pickRetracted i _ => ((s.findPick i).map PickRecord.snapshot).getD []
  | .groupDeclared g | .groupClosed g => ((s.findGroup g).map GroupRecord.snapshot).getD []

/-- R156, R124: a pick's notice has been taken. -/
def State.tookPick (s : State) (p : Port) (id : Nat) : State :=
  match s.findPick id with
  | none => s
  | some r => (s.setDelivery p id r.state.taken).releaseTest id

/-- R156: what follows the removal of a notice. -/
def State.tookNotice (s : State) (p : Port) (n : Notice) : State :=
  match n with
  | .pickNew i | .pickFinal i | .pickRetracted i _ => s.tookPick p i
  | .groupDeclared g | .groupClosed g => s.groupFreeTest g

/-- R156. -/
def State.answerTake (s : State) (p : Port) : Answer :=
  match s.notices p with
  | [] => { state := s, result := .empty, data := u8 0 }
  | n :: rest =>
    { state := State.settle s ((s.setNotices p rest).tookNotice p n)
      result := .ok
      data := u8 n.kindNum ++ u8 n.retractingPort ++ u8 rest.length ++ s.subjectSnapshot n }

/-- TAKE (R156). -/
def execTake (dt : Nat) (p : Port) (s : State) : Host.Outcome State Fault Refusal :=
  .next ((s.elapse dt).perform p .take fun t => t.answerTake p)

/-! ### READ_PICK and READ_GROUP (R119, R158) -/

/-- R119. -/
def State.answerReadPick (s : State) (id : Nat) : Answer :=
  match s.findPick id with
  | none => s.refuse .noSuchPick
  | some r => { state := s, result := .ok, data := r.snapshot }

/-- READ_PICK (R119). -/
def execReadPick (dt : Nat) (p : Port) (id : BitVec 16) (s : State) : Host.Outcome State Fault Refusal :=
  .next ((s.elapse dt).perform p (.readPick id) fun t => t.answerReadPick id.toNat)

/-- R158. -/
def State.answerReadGroup (s : State) (id : Nat) : Answer :=
  match s.findGroup id with
  | none => s.refuse .noSuchGroup
  | some g => { state := s, result := .ok, data := g.snapshot }

/-- READ_GROUP (R158). -/
def execReadGroup (dt : Nat) (p : Port) (id : BitVec 16) (s : State) : Host.Outcome State Fault Refusal :=
  .next ((s.elapse dt).perform p (.readGroup id) fun t => t.answerReadGroup id.toNat)

/-! ### RETRACT (R116, R117) -/

/-- R116: a record that port `p` retracts. -/
def PickRecord.retract (p : Port) (r : PickRecord) : PickRecord := { r with state := .retracted, retractedBy := some p }

/-- R117: a record that has just become RETRACTED is handed on. -/
def State.handOnRetraction (s : State) (p : Port) (r : PickRecord) : State :=
  let s1 := s.groupRetract r
  let s2 := s1.mergeRetraction r.id p
  s2.releaseTest r.id

/-- R116. -/
def State.answerRetract (s : State) (p : Port) (id : Nat) : Answer :=
  match s.findPick id with
  | none => s.refuse .noSuchPick
  | some r =>
    if r.state = .retracted then { state := s, result := .already, data := r.snapshot }
    else
      let s1 := s.modPick id (PickRecord.retract p)
      { state := State.settle s (s1.handOnRetraction p (r.retract p)), result := .ok, data := (r.retract p).snapshot }

/-- RETRACT (R116). -/
def execRetract (dt : Nat) (p : Port) (id : BitVec 16) (s : State) : Host.Outcome State Fault Refusal :=
  .next ((s.elapse dt).perform p (.retract id) fun t => t.answerRetract p id.toNat)

end Sys2Proof.Machine
end

