-- ==== Sys2Proof/Machine/ChainCommands.lean ====
section
/-! DEFINITION. The commands of the Excerpt Engine: LOAD_CHAIN, START_CHAIN, PAUSE_CHAIN, RESET_CHAIN and
READ_EXCERPT (R164, R166, R176 to R178, R181). -/

namespace Sys2Proof.Machine

/-! ### LOAD_CHAIN (R164) -/

/-- R164: whether a chain in a state takes a load. -/
def ChainState.loadable : ChainState → Bool
  | .empty | .done | .faulted => true
  | .loaded | .running | .waiting | .paused => false

/-- R164: a chain with new elements. -/
def Chain.loaded (elements : List Element) : Chain := { Chain.reset with state := .loaded, elements := elements }

/-- R164. -/
def State.answerLoad (s : State) (p : Port) (count : Byte) (words : List ElementWords) : Answer :=
  if s.attached p = false then s.refuse .notAttached
  else if (s.chain p).state.loadable = false then s.refuse .chainBusy
  else
    match loadedElements count words with
    | none => s.refuse .badArg
    | some elements => { state := s.modChain p fun _ => .loaded elements, result := .ok, data := [] }

/-- LOAD_CHAIN (R164). -/
def execLoadChain (dt : Nat) (p : Port) (count : Byte) (elements : List ElementWords) (s : State) :
    Host.Outcome State Fault Refusal :=
  .next ((s.elapse dt).perform p (.loadChain count elements) fun t => t.answerLoad p count elements)

/-! ### START_CHAIN (R166, R177) -/

/-- R177, BETWEEN: the chain begins the next element, or is DONE. -/
def State.resumeBetween (s : State) (p : Port) : State :=
  let c := s.chain p
  let i := c.current.getD 0
  if ((c.elements[i]?).map (·.goOn)).getD false = true ∧ i + 1 < c.elements.length then
    s.beginElement elementFuel p (i + 1) none
  else s.modChain p fun x => { x with state := .done, lastStatus := .complete, pausePoint := none }

/-- R177: a PAUSED chain resumes from its pause point. -/
def State.resume (s : State) (p : Port) : State :=
  match (s.chain p).pausePoint with
  | some .inElement => (s.modChain p fun c => { c with state := .running, pausePoint := none }).waitIfBeyond p
  | some .startWait => s.retryStart p fun t time => t.waitStart p time
  | some .between => s.resumeBetween p
  | none => s

/-- 11.2, R166: the data of every answer of the Excerpt Engine to START_CHAIN: the chain state. -/
def State.chainStateByte (s : State) (p : Port) : List Byte := u8 (s.chain p).state.num

/-- R166: the answer carries the chain state as it stands after the command. -/
def State.answerStart (s : State) (p : Port) : Answer :=
  let answer (t : State) (result : Result) : Answer := { state := t, result := result, data := t.chainStateByte p }
  match (s.chain p).state with
  | .loaded => answer (s.beginElement elementFuel p 0 none) .ok
  | .paused => answer (s.resume p) .ok
  | .running | .waiting => answer s .already
  | .empty | .done | .faulted => answer s .badArg

/-- START_CHAIN (R166). -/
def execStartChain (dt : Nat) (p : Port) (s : State) : Host.Outcome State Fault Refusal :=
  .next ((s.elapse dt).perform p .startChain fun t => t.answerStart p)

/-! ### PAUSE_CHAIN (R176) -/

/-- R176: a chain that is paused at a point. -/
def Chain.pausedAt (point : PausePoint) (c : Chain) : Chain :=
  { c with state := .paused, pausePoint := some point, wait := none }

/-- R176. -/
def State.answerPause (s : State) (p : Port) : Answer :=
  match (s.chain p).state, (s.chain p).wait with
  | .running, _ => { state := s.modChain p (Chain.pausedAt .inElement), result := .ok, data := [] }
  | .waiting, some (.start, _) => { state := s.modChain p (Chain.pausedAt .startWait), result := .ok, data := [] }
  | .waiting, _ => { state := s.modChain p (Chain.pausedAt .inElement), result := .ok, data := [] }
  | .paused, _ => s.refuse .already
  | _, _ => s.refuse .badArg

/-- PAUSE_CHAIN (R176). -/
def execPauseChain (dt : Nat) (p : Port) (s : State) : Host.Outcome State Fault Refusal :=
  .next ((s.elapse dt).perform p .pauseChain fun t => t.answerPause p)

/-! ### RESET_CHAIN (R178) -/

/-- RESET_CHAIN (R178). -/
def execResetChain (dt : Nat) (p : Port) (s : State) : Host.Outcome State Fault Refusal :=
  .next ((s.elapse dt).perform p .resetChain fun t => { state := t.resetChain p, result := .ok, data := [] })

/-! ### READ_EXCERPT (R181, Table 11-7) -/

/-- R181: the oldest sets of one element within one page. -/
def answerSets (p : PageSize) (maximum : Nat) : List BufferedSet → List BufferedSet
  | [] => []
  | x :: rest =>
    ((x :: rest).takeWhile fun y => y.element == x.element && y.sample / p.sets == x.sample / p.sets).take maximum

/-- A component of a buffered set: the no-sample marker where the set is VOID (R173). -/
def BufferedSet.component (x : BufferedSet) (f : SampleSet → Int) : List Byte :=
  signed 3 (match x.content with
    | none => Config.noSample
    | some y => f y)

/-- Table 11-7: one set: its marks (bit 0 HELD, 1 CLIP, 2 CAL, 3 VOID) and its masked components. -/
def BufferedSet.bytes (x : BufferedSet) : List Byte :=
  (match x.content with
    | none => [bitsByte [false, false, false, true]]
    | some y => [bitsByte [y.held, y.clip, y.cal, false]])
    ++ (if x.mask.z then x.component (·.z) else []) ++ (if x.mask.n then x.component (·.n) else [])
    ++ (if x.mask.e then x.component (·.e) else [])

/-- R181: the time of the first set, by the page record of its block. -/
def BufferedSet.time (x : BufferedSet) : SetTime := setTimeBy x.page x.content.isSome x.sample

/-- Table 11-7: the notes byte. -/
def notesOf (first last : BufferedSet) : Nat := first.firstNote.bits + 4 * last.lastOfElement.toNat

/-- Table 11-7: the data header of an answer whose first set is `x` and last set is `last`. -/
def BufferedSet.header (x last : BufferedSet) (count : Nat) : List Byte :=
  u8 x.element ++ u8 x.sensor.num ++ u8 x.mask.bits ++ u8 (notesOf x last)
    ++ [bitsByte [x.time.localTime.isSome, x.time.absTime.isSome]] ++ u8 x.time.quality.code ++ u48 x.sample
    ++ field 8 u64 x.time.localTime ++ field 8 absBytes x.time.absTime ++ u8 count

/-- Table 11-7: what follows the sets. -/
def Chain.trailer (c : Chain) : List Byte :=
  u16 c.buffer.length ++ u8 c.state.num ++ u8 (c.current.getD 0) ++ u8 c.lastStatus.num

/-- R181. -/
def State.answerRead (s : State) (p : Port) (maximum : Nat) : Answer :=
  if maximum < 1 ∨ 64 < maximum then s.refuse .badArg
  else
    match (s.chain p).buffer with
    | [] => s.refuse .empty
    | x :: rest =>
      let sets := answerSets s.pageSize.active maximum (x :: rest)
      let s1 := s.modChain p fun c => { c with buffer := c.buffer.drop sets.length }
      { state := s1
        result := .ok
        data := x.header (sets.getLastD x) sets.length ++ sets.flatMap BufferedSet.bytes ++ (s1.chain p).trailer }

/-- READ_EXCERPT (R181). -/
def execReadExcerpt (dt : Nat) (p : Port) (maximum : Byte) (s : State) : Host.Outcome State Fault Refusal :=
  .next ((s.elapse dt).perform p (.readExcerpt maximum) fun t => t.answerRead p maximum.toNat)

end Sys2Proof.Machine
end

