-- ==== Sys2Proof/Machine/Status.lean ====
section
/-! DEFINITION. GET (R203): the values of settings and the records of the status indexes, coded by R207. -/

namespace Sys2Proof.Machine

/-! ### Settings: staged value, then active value; a number takes the smallest whole number of bytes that holds its
range (DEDUCED, log 11; unsafe for the bytes of a GET response) -/

/-- Table 1-3. -/
def CorrectionGroup.bytes (g : CorrectionGroup) : CorrectionItem → List Byte
  | .rate => u8 g.rate.num
  | .offsetZ => signed 3 g.offsetZ
  | .offsetH1 => signed 3 g.offsetH1
  | .offsetH2 => signed 3 g.offsetH2
  | .gainZ => u16 g.gainZ
  | .gainH1 => u16 g.gainH1
  | .gainH2 => u16 g.gainH2
  | .cosine => signed 2 g.cosine
  | .sine => signed 2 g.sine
  | .delay => u16 g.delay

/-- Table 4-4. -/
def ChannelSettings.bytes (c : ChannelSettings) : ChannelItem → List Byte
  | .staShift => u8 c.staShift
  | .ltaShift => u8 c.ltaShift
  | .onThreshold => u16 c.onThreshold
  | .offThreshold => u16 c.offThreshold
  | .holdOff => u16 c.holdOff
  | .maxTrigger => u16 c.maxTrigger
  | .ltaFloor => u32 c.ltaFloor

/-- Table 5-3. -/
def RefinementGroup.bytes (g : RefinementGroup) : RefinementItem → List Byte
  | .pre => u16 g.pre
  | .post => u16 g.post
  | .pol => u8 g.pol
  | .threshold .q0 => u16 g.q0
  | .threshold .q1 => u16 g.q1
  | .threshold .q2 => u16 g.q2
  | .pFrac => u16 g.pFrac
  | .sFrac => u16 g.sFrac
  | .polThr => u24 g.polThr
  | .sectorFloor => u32 g.sectorFloor

/-- Table 7-2. -/
def GroupingGroup.bytes (g : GroupingGroup) : GroupingItem → List Byte
  | .qmax => u8 g.qmax
  | .count => u8 g.count
  | .pWindow => u16 g.pWindow
  | .sWindow => u16 g.sWindow

/-- R165. -/
def Preset.bytes (x : Preset) : PresetItem → List Byte
  | .lead => u16 x.lead
  | .length => u16 x.length
  | .mask => u8 x.mask.bits

/-- A class set in 2 bytes (11.2). -/
def classBytes (c : ClassSet) : List Byte := u16 c.toNat

/-! ### Status records: presence bits first, then the fields in the order of the owning rule -/

/-- R14, R207: the three flags, bit 0 PARITY, 1 SEQUENCE, 2 GAP, in the order in which R12 names them (DEDUCED, log 40:
no table of chapter 11 lists them; unsafe for that byte of a GET response). -/
def IntakeFlags.byte (f : IntakeFlags) : List Byte := [bitsByte [f.parity, f.sequence, f.gap]]

/-- R14. -/
def State.intakeRecord (s : State) (sen : Sensor) : List Byte :=
  let r := s.intake.get sen
  u8 r.state.num ++ r.flags.byte ++ u16 r.offFrames ++ flagByte r.applyPending ++ u16 s.malformedFrames

/-- R30. -/
def State.timeRecord (s : State) : List Byte :=
  let t := s.time
  presence [t.absNow.isSome, t.lastValidMark.isSome]
    ++ u8 t.state.num ++ u64 t.localTime ++ field 8 absBytes t.absNow ++ field 8 u64 t.lastValidMark
    ++ u16 t.missedMarks ++ u16 t.badMessages ++ u8 t.lastFault.num ++ u32 t.stepSize

/-- R50: the level of a chain's reader position on a sensor. -/
def State.levelOn (s : State) (sen : Sensor) (p : Port) : Option Pressure :=
  match (s.chain p).plan, (s.chain p).run with
  | some plan, some run => if plan.sensor = sen then run.level else none
  | _, _ => none

/-- R50. -/
def State.ringRecord (s : State) (sen : Sensor) : List Byte :=
  let r := s.ring.get sen
  presence [r.newest.isSome, r.oldest.isSome, r.newestLocal.isSome, r.page.isSome, (s.levelOn sen .a).isSome,
      (s.levelOn sen .b).isSome]
    ++ field 6 u48 r.newest ++ field 6 u48 r.oldest ++ field 8 u64 r.newestLocal
    ++ field 1 (fun x => u8 (PageState.num x)) r.page ++ u16 r.pageMap.length ++ u16 r.mapCorrected ++ u16 r.mapFaults
    ++ field 1 (fun x => u8 (Pressure.num x)) (s.levelOn sen .a)
    ++ field 1 (fun x => u8 (Pressure.num x)) (s.levelOn sen .b)

/-- R74: what a channel always shows. -/
def ChannelRecord.standing (c : ChannelRecord) : List Byte :=
  u8 c.state.num ++ u40 c.sta ++ u40 c.lta ++ u16 c.ratio ++ u16 c.count

/-- R74: what a channel in TRIGGERED shows; the posted mark is coded 0 POSTED, 1 LOST. -/
def episodeBytes (e : Option Episode) : List Byte :=
  field 6 (fun x => u48 (Episode.trigger x)) e ++ field 8 (fun x => u64 (Episode.triggerLocal x)) e
    ++ field 2 (fun x => u16 (Episode.peak x)) e ++ field 1 (fun x => flagByte (!Episode.posted x)) e

/-- R74. -/
def State.detectorRecord (s : State) (sen : Sensor) : List Byte :=
  let d := s.detector.get sen
  let p := d.channels.p
  let q := d.channels.s
  presence (List.replicate 4 p.episode.isSome ++ List.replicate 4 q.episode.isSome)
    ++ flagByte d.applyPending ++ p.standing ++ q.standing ++ episodeBytes p.episode ++ episodeBytes q.episode
    ++ u16 p.lostTriggers ++ u16 q.lostTriggers

/-- 5.3: IDLE 0, BUSY 1, STALLED 2. -/
def Refiner.stateNum (r : Refiner) : Nat := if r.work.isSome then 1 else if r.stalled then 2 else 0

/-- R103: one request; its flags are coded as a pick's (DEDUCED, log 13; unsafe for that byte). -/
def RefineRequest.bytes (q : RefineRequest) : List Byte :=
  u8 (channelNum q.channel) ++ u48 q.trigger ++ u8 q.state.num ++ q.flags.byte ++ u8 q.passOver ++ flagByte q.info.isSome

/-- The request in progress. -/
def State.inProgress (s : State) : Option (Work × RefineRequest) :=
  match s.refiner.work with
  | none => none
  | some w => ((s.refiner.queues.get w.sensor).head?).map fun q => (w, q)

/-- R103. The next sample number is present for a request in progress, and is one past the read end once the read end
has been read (DESIGN CHOICE, log 45: R103 names no value where nothing more will be read; unsafe for that field of a GET
response). -/
def State.refinerRecord (s : State) : List Byte :=
  let w := s.inProgress
  presence (List.replicate 4 w.isSome)
    ++ u8 s.refiner.stateNum ++ u8 s.refiner.lastGranted.num
    ++ field 1 (fun x => u8 x.1.sensor.num) w ++ field 1 (fun x => u8 (channelNum x.2.channel)) w
    ++ field 6 (fun x => u48 x.2.trigger) w ++ field 6 (fun x => u48 x.1.next) w
    ++ Sensor.list.flatMap (fun sen =>
        u8 (s.refiner.queues.get sen).length ++ (s.refiner.queues.get sen).flatMap RefineRequest.bytes)
    ++ Sensor.list.flatMap fun sen => flagByte (s.refiner.gapCut.get sen).isSome ++ u16 (s.refiner.lost.get sen)

/-- How many live records are in a state. -/
def State.picksIn (s : State) (x : PickState) : Nat := (s.table.records.filter fun r => r.state = x).length

/-- R120. -/
def State.tableRecord (s : State) : List Byte :=
  u8 s.table.records.length ++ u8 (s.picksIn .provisional) ++ u8 (s.picksIn .final) ++ u8 (s.picksIn .retracted)
    ++ u16 s.table.nextId ++ u8 s.table.records.length ++ s.table.records.flatMap fun r => u16 r.id

/-- How many live groups are in a state. -/
def State.groupsIn (s : State) (x : GroupState) : Nat := (s.grouper.groups.filter fun g => g.state = x).length

/-- R145. -/
def State.groupingRecord (s : State) : List Byte :=
  u8 s.grouper.groups.length ++ u8 (s.groupsIn .opened) ++ u8 (s.groupsIn .declared) ++ u8 (s.groupsIn .closed)
    ++ u16 s.grouper.nextId ++ u8 s.grouper.groups.length ++ s.grouper.groups.flatMap (fun g => u16 g.id)
    ++ u16 s.grouper.fullCount ++ u16 s.grouper.expired

/-- R161: one port; the attachment state is coded 1 for ATTACHED (DEDUCED, log 12; unsafe for that byte). -/
def State.offerBytes (s : State) (p : Port) : List Byte :=
  let o := s.offers.get p
  flagByte o.mode.isSome ++ field 1 (fun m => u8 (OfferMode.num m)) o.mode ++ u8 o.setting.num ++ u8 o.notices.length
    ++ field 1 (fun n => u8 (Notice.kindNum n)) o.notices.head? ++ field 2 (fun n => u16 (Notice.subject n)) o.notices.head?

/-- R161: the presence bits of one port. -/
def State.offerPresence (s : State) (p : Port) : List Bool :=
  let o := s.offers.get p
  [o.mode.isSome, o.notices.head?.isSome, o.notices.head?.isSome]

/-- R161. -/
def State.offersRecord (s : State) : List Byte :=
  presence (s.offerPresence .a ++ s.offerPresence .b) ++ s.offerBytes .a ++ s.offerBytes .b

/-- R182: the presence bits of one chain. -/
def Chain.presenceBits (c : Chain) : List Bool :=
  let run := c.run.isSome
  [c.current.isSome, c.plan.isSome, run, run, run, run, c.wait.isSome, c.wait.isSome, c.pausePoint.isSome,
    (c.run.bind (·.level)).isSome]

/-- R182: one chain. The sensor is present from the beginning of an element to its end (DEDUCED, log 29; unsafe for
that field while a chain waits for its start), and the notes are coded as bits 0 and 1 of Table 11-7 (log 13). -/
def Chain.bytes (c : Chain) : List Byte :=
  u8 c.state.num ++ u8 c.lastStatus.num ++ u8 c.elements.length ++ field 1 u8 c.current
    ++ field 1 (fun x => u8 (ElementPlan.sensor x).num) c.plan
    ++ field 6 (fun x => u48 (ElementRun.first x)) c.run ++ field 1 (fun x => u8 (ElementRun.note x).bits) c.run
    ++ field 2 (fun x => u16 (ElementRun.progress x)) c.run ++ field 6 (fun x => u48 (ElementRun.next x)) c.run
    ++ field 1 (fun x => u8 (WaitKind.num x.1)) c.wait
    ++ field 8 (fun x => u64 (x.2 + Config.chainWaitLimit)) c.wait
    ++ field 1 (fun x => u8 (PausePoint.num x)) c.pausePoint
    ++ field 1 (fun x => u8 (Pressure.num x)) (c.run.bind (·.level)) ++ u16 c.buffer.length

/-- R182. -/
def State.chainsRecord (s : State) : List Byte :=
  presence ((s.chain .a).presenceBits ++ (s.chain .b).presenceBits) ++ (s.chain .a).bytes ++ (s.chain .b).bytes

/-! ### GET -/

/-- R203: the values of an index, as port `p` reads them. -/
def State.valueOf (s : State) (p : Port) : SettingIndex → List Byte
  | .correction sen item =>
    (s.intake.get sen).correction.staged.bytes item ++ (s.intake.get sen).correction.active.bytes item
  | .detector sen ch item =>
    ((s.detector.get sen).group.staged.get ch).bytes item ++ ((s.detector.get sen).group.active.get ch).bytes item
  | .refinement sen item =>
    (s.refiner.groups.get sen).staged.bytes item ++ (s.refiner.groups.get sen).active.bytes item
  | .grouping item => s.grouper.settings.staged.bytes item ++ s.grouper.settings.active.bytes item
  | .preset k item => (s.presets.staged.get k).bytes item ++ (s.presets.active.get k).bytes item
  | .pageSize => u16 s.pageSize.staged.sets ++ u16 s.pageSize.active.sets
  | .arbiterMode => u8 s.refiner.mode.num
  | .agingLimit => u8 s.refiner.aging
  | .ringReadPolicy => u8 s.arbiter.policy.num
  | .intakeAutoClear => flagByte s.autoClear
  | .mask => classBytes (s.attention.get p).mask
  | .lineMode => u8 (s.attention.get p).lineMode.num
  | .clearMode => u8 (s.attention.get p).clearMode.num
  | .silenceTimeout => u8 (s.ports.get p).timeout
  -- no status index, so no presence bits: an absent mode is sent as 0 (DEDUCED, log 31; unsafe for that response)
  | .offerMode => u8 (s.offers.get p).setting.num ++ field 1 (fun m => u8 (OfferMode.num m)) (s.offers.get p).mode
  | .intakeStatus sen => s.intakeRecord sen
  | .ringStatus sen => s.ringRecord sen
  | .detectorStatus sen => s.detectorRecord sen
  | .timeStatus => s.timeRecord
  | .refinerStatus => s.refinerRecord
  | .tableStatus => s.tableRecord
  | .groupingStatus => s.groupingRecord
  | .offerStatus => s.offersRecord
  | .chainStatus => s.chainsRecord

/-- R14: the GET of a sensor's intake status clears its flags when auto-clear is DISABLED. -/
def State.readIntake (s : State) (sen : Sensor) : State :=
  if s.autoClear then s else s.modIntake sen fun r => { r with flags := .none }

/-- R203: the state that a GET leaves. -/
def State.afterGet (s : State) : SettingIndex → State
  | .intakeStatus sen => s.readIntake sen
  | _ => s

/-- R203: the answer to a GET of an index: OK with the index and its values. -/
def State.answerGet (s : State) (p : Port) (i : SettingIndex) : Answer :=
  { state := s.afterGet i, result := .ok, data := u16 (encodeIndex i).toNat ++ s.valueOf p i }

/-- GET (R203). -/
def execGet (dt : Nat) (p : Port) (index : BitVec 16) (s : State) : Host.Outcome State Fault Refusal :=
  .next ((s.elapse dt).perform p (.get index) fun t =>
    match decodeIndex index with
    | none => t.refuse .badArg
    | some i => t.answerGet p i)

/-- GET_INTAKE_STATUS (R14). -/
def execGetIntakeStatus (dt : Nat) (p : Port) (sen : Sensor) (s : State) : Host.Outcome State Fault Refusal :=
  .next ((s.elapse dt).perform p (.get (encodeIndex (.intakeStatus sen))) fun t => t.answerGet p (.intakeStatus sen))

end Sys2Proof.Machine
end

