-- ==== Sys2Proof/Machine/Ports.lean ====
section
/-! DEFINITION. The station ports (10.1) and the Attention Unit's commands (10.3): the rows COMMAND_TRANSACTION,
RESPONSE_TRANSACTION, IGNORED_TRANSACTION, SILENCE_TIMEOUT, ATTENTION_PULSE_END, STATUS and ATTN_DONE. -/

namespace Sys2Proof.Machine

/-! ### Transactions (R187, R191) -/

/-- R187, R191: the end of a transaction in which the part sent `sent`: a running silence timer restarts. -/
def State.endTransaction (s : State) (p : Port) (sent : List Byte) : State :=
  s.modPort p fun r => { r with sent := sent, timer := r.timer.map fun _ => s.time.localTime }

/-- R189: the response at once to a command refused at step 1 or 2. -/
def State.refuseCommand (s : State) (p : Port) (code : Byte) (result : Result) : State := s.respond p code result []

/-- R189: whether a code may be sent from a DETACHED port: ATTACH and STATUS. -/
def allowedDetached (code : Byte) : Bool := decide (code = 0x01#8) || decide (code = 0x03#8)

/-- R189, R208: whether the owner finds the arguments malformed at once: they spell no command of Table 11-4, or an
APPLY of no group. Such a command is no row of the table, and its BAD_ARG is given with its examination (DESIGN
CHOICE, log 4; no state but the slot is concerned; unsafe for the moment of that answer, which START_CHAIN's chain state
shows). -/
def performable (code : Byte) (args : List Byte) : Option Request :=
  match requestOfBytes code args with
  | none => none
  | some r => if (performingRow 0 .a r).isSome then some r else none

/-- R189, step 3: the owner's BAD_ARG for arguments it finds malformed; the Excerpt Engine's to START_CHAIN carries the
chain state (11.2, R166). -/
def State.refuseArguments (s : State) (p : Port) (code : Byte) : State :=
  s.respond p code .badArg (if code = Request.startChain.code then s.chainStateByte p else [])

/-- R189: the examination of a taken command. An APPLY of an area that names no group is BAD_ARG also while the freeze
mark is set (DEDUCED, log 46: R204 gives BAD_ARG to it and FROZEN to every APPLY; unsafe for that result code). -/
def State.examine (s : State) (p : Port) (message : List Byte) : State :=
  match formOf message with
  | none => s.refuseCommand p (message.headD 0#8) .badArg
  | some (code, args) =>
    if s.attached p = false ∧ allowedDetached code = false then s.refuseCommand p code .notAttached
    else
      match performable code args with
      | none => s.refuseArguments p code
      | some r => s.modPort p fun x => { x with slot := .busy r }

/-- R188: a COMMAND transaction is handled by the slot state it finds. -/
def State.takeCommand (s : State) (p : Port) (message : List Byte) : State :=
  match (s.ports.get p).slot with
  | .idle => s.examine p message
  | _ => s.modPort p fun r => { r with reject := true }

/-- R187, 11.2: what the part sends in a COMMAND transaction: the status byte, and 0x00 after it. -/
def State.sentInCommand (s : State) (p : Port) (message : List Byte) : List Byte :=
  s.statusByte p :: List.replicate message.length 0#8

/-- COMMAND_TRANSACTION (R188). -/
def execCommandTransaction (dt : Nat) (p : Port) (message : List Byte) (s : State) : Host.Outcome State Fault Refusal :=
  let t := s.elapse dt
  .next ((t.takeCommand p message).endTransaction p (t.sentInCommand p message))

/-- R190: the response is collected. -/
def PortRecord.collect (r : PortRecord) : PortRecord := { r with slot := .idle, reject := false }

/-- R190: a RESPONSE transaction that clocks out `clocked` bytes after the status byte. -/
def State.takeResponse (s : State) (p : Port) (clocked : Nat) : State :=
  match (s.ports.get p).slot with
  | .done response => if response.message.length ≤ clocked then s.modPort p PortRecord.collect else s
  | _ => s

/-- R190: what the part sends in a RESPONSE transaction. Nothing is recorded for bytes that are clocked beyond the
response (DESIGN CHOICE, log 21). -/
def State.sentInResponse (s : State) (p : Port) (clocked : Nat) : List Byte :=
  s.statusByte p :: (match (s.ports.get p).slot with
    | .done response => response.message.take clocked
    | _ => [])

/-- RESPONSE_TRANSACTION (R190). -/
def execResponseTransaction (dt : Nat) (p : Port) (clocked : Nat) (s : State) : Host.Outcome State Fault Refusal :=
  let t := s.elapse dt
  .next ((t.takeResponse p clocked).endTransaction p (t.sentInResponse p clocked))

/-- R187: what the part sends in an ignored transaction: nothing when no byte was clocked, else the status byte
(DESIGN CHOICE, log 21: the bytes after it are not given; unsafe for those). -/
def State.sentInIgnored (s : State) (p : Port) (bytes : List Byte) : List Byte :=
  match bytes with
  | [] => []
  | _ => [s.statusByte p]

/-- IGNORED_TRANSACTION (R187). -/
def execIgnoredTransaction (dt : Nat) (p : Port) (bytes : List Byte) (s : State) : Host.Outcome State Fault Refusal :=
  let t := s.elapse dt
  .next (t.endTransaction p (t.sentInIgnored p bytes))

/-! ### The silence timer (R191) -/

/-- Whether a port's silence timeout has passed. -/
def State.portOverdue (s : State) (p : Port) : Bool :=
  match (s.ports.get p).timer with
  | none => false
  | some t => decide (t + (s.ports.get p).timeout * Config.microsPerSecond ≤ s.time.localTime)

def State.portSilence (s : State) (p : Port) : State := if s.portOverdue p then s.detachPort p else s

/-- SILENCE_TIMEOUT (R191). -/
def execSilenceTimeout (dt : Nat) (p : Port) (s : State) : Host.Outcome State Fault Refusal :=
  .next ((s.elapse dt).portSilence p)

/-! ### Attention -/

/-- R209: whether a pulse has had its width. -/
def AttnRecord.pulseOver (now : Nat) (r : AttnRecord) : Bool :=
  match r.pulse with
  | none => false
  | some t => decide (t + Config.pulseWidth ≤ now)

def State.endPulse (s : State) (p : Port) : State :=
  s.modAttention p fun r => if r.pulseOver s.time.localTime then { r with pulse := none } else r

/-- ATTENTION_PULSE_END (R209). -/
def execAttentionPulseEnd (dt : Nat) (p : Port) (s : State) : Host.Outcome State Fault Refusal :=
  .next ((s.elapse dt).endPulse p)

/-- R197, Table 11-4: the data of STATUS. -/
def State.statusData (s : State) (p : Port) : List Byte :=
  let r := s.attention.get p
  classBytes r.pending ++ classBytes r.mask ++ u8 r.lineMode.num ++ u8 r.clearMode.num
    ++ [bitsByte [r.changedBy.a, r.changedBy.b]] ++ flagByte (s.attached p) ++ u8 (s.notices p).length
    ++ flagByte s.frozen ++ u16 s.softResets

/-- R197: in ON_READ clear mode the latched classes that were reported are cleared. -/
def AttnRecord.read (r : AttnRecord) : AttnRecord :=
  match r.clearMode with
  | .explicit => r
  | .onRead => r.clearLatched r.pending

/-- STATUS (R197). -/
def execStatus (dt : Nat) (p : Port) (s : State) : Host.Outcome State Fault Refusal :=
  .next ((s.elapse dt).perform p .status fun t =>
    { state := t.modAttention p AttnRecord.read, result := .ok, data := t.statusData p })

/-- R198. -/
def State.answerAttnDone (s : State) (p : Port) (classes : Nat) : Answer :=
  match classSetOf classes with
  | none => s.refuse .badArg
  | some c =>
    let s1 := s.modAttention p (AttnRecord.clearLatched c)
    { state := s1, result := .ok, data := classBytes (s1.attention.get p).pending }

/-- ATTN_DONE (R198). -/
def execAttnDone (dt : Nat) (p : Port) (classes : BitVec 16) (s : State) : Host.Outcome State Fault Refusal :=
  .next ((s.elapse dt).perform p (.attnDone classes) fun t => t.answerAttnDone p classes.toNat)

end Sys2Proof.Machine
end

