-- ==== Sys2Proof/Machine/Reset.lean ====
section
/-! DEFINITION. The rows HARDWARE_RESET and SOFT_RESET, each block's part of the latter in a definition of its own. -/

namespace Sys2Proof.Machine

/-- HARDWARE_RESET (R209, R206): the part is as `State.reset` says; the queue of waiting commands is not the part's and
stays. -/
def execHardwareReset (s : State) : Host.Outcome State Fault Refusal := .next { State.reset with pending := s.pending }

/-! ### Soft reset, block by block -/

/-- R20. -/
def IntakeRecord.softReset (r : IntakeRecord) : IntakeRecord :=
  let correction := if r.applyPending then Staged.both r.correction.staged else r.correction
  { IntakeRecord.reset with
    state := if correction.active.rate = .off then .off else .starting
    correction := correction }

/-- R76: the group after a pending application. -/
def DetectorRecord.settledGroup (d : DetectorRecord) : Staged DetectorGroup :=
  if d.applyPending then { d.group with active := DetectorGroup.resolved d.group.staged } else d.group

/-- R76: `off` says that the sensor's active rate is OFF. -/
def DetectorRecord.softReset (off : Bool) (d : DetectorRecord) : DetectorRecord :=
  let c : ChannelRecord := { ChannelRecord.reset with state := if off then .blind else .warmup }
  { channels := ⟨c, c⟩, group := d.settledGroup, applyPending := false }

/-- R105. -/
def Refiner.softReset (r : Refiner) : Refiner :=
  { Refiner.reset with groups := r.groups, mode := r.mode, aging := r.aging }

/-- R147. -/
def Grouper.softReset (g : Grouper) : Grouper := { Grouper.reset with settings := g.settings }

/-- R163. -/
def OfferRecord.softReset (o : OfferRecord) : OfferRecord := { o with notices := [] }

/-- R186. -/
def ReadArbiter.softReset (a : ReadArbiter) : ReadArbiter := { ReadArbiter.reset with policy := a.policy }

/-- R193: a command in BUSY at a port other than the issuing one. -/
def PortRecord.aborted (r : PortRecord) : PortRecord :=
  match r.slot with
  | .busy command => { r with slot := .done { code := command.code, result := .aborted, data := [] } }
  | _ => r

/-- R192: every block takes the reset (R20, R53, R76, R105, R126, R147, R163, R186, R200); the Timebase (R33), the
settings and the freeze mark stay. -/
def State.softReset (s : State) (p : Port) : State :=
  let intake := s.intake.map fun _ r => r.softReset
  { s with
    malformedFrames := 0
    intake := intake
    pageSize := .both s.pageSize.staged
    ring := .all .reset
    detector := s.detector.map fun i d => d.softReset (decide ((intake.get i).correction.active.rate = .off))
    refiner := s.refiner.softReset
    table := .reset
    grouper := s.grouper.softReset
    offers := s.offers.map OfferRecord.softReset
    chains := .all .reset
    arbiter := s.arbiter.softReset
    ports := s.ports.set p.other (s.ports.get p.other).aborted
    attention := s.attention.map AttnRecord.quieten
    softResets := bump s.softResets }

/-- SOFT_RESET (R192). -/
def execSoftReset (dt : Nat) (p : Port) (s : State) : Host.Outcome State Fault Refusal :=
  .next ((s.elapse dt).perform p .softReset fun t => { state := t.softReset p, result := .ok, data := [] })

end Sys2Proof.Machine
end

