-- ==== Sys2Proof/Machine/Dispatch.lean ====
section
/-! DEFINITION. The step of each command: one arm for each constructor of `Instr`. -/

namespace Sys2Proof.Machine

def exec (i : Instr) (s : State) : Host.Outcome State Fault Refusal :=
  match i with
  | .hardwareReset => Sys2Proof.Machine.execHardwareReset s
  | .sampleLinkFrame dt bytes => Sys2Proof.Machine.execSampleLinkFrame dt bytes s
  | .frameSilenceExpiry dt sen => Sys2Proof.Machine.execFrameSilenceExpiry dt sen s
  | .ringReadGrant dt => Sys2Proof.Machine.execRingReadGrant dt s
  | .pickWrite dt => Sys2Proof.Machine.execPickWrite dt s
  | .startWaitTimeout dt p => Sys2Proof.Machine.execStartWaitTimeout dt p s
  | .dataWaitTimeout dt p => Sys2Proof.Machine.execDataWaitTimeout dt p s
  | .timeLinkMessage dt chars => Sys2Proof.Machine.execTimeLinkMessage dt chars s
  | .pendingMessageExpiry dt => Sys2Proof.Machine.execPendingMessageExpiry dt s
  | .secondMark dt => Sys2Proof.Machine.execSecondMark dt s
  | .markLoss dt => Sys2Proof.Machine.execMarkLoss dt s
  | .commandTransaction dt p message => Sys2Proof.Machine.execCommandTransaction dt p message s
  | .responseTransaction dt p clocked => Sys2Proof.Machine.execResponseTransaction dt p clocked s
  | .silenceTimeout dt p => Sys2Proof.Machine.execSilenceTimeout dt p s
  | .attentionPulseEnd dt p => Sys2Proof.Machine.execAttentionPulseEnd dt p s
  | .attach dt p => Sys2Proof.Machine.execAttach dt p s
  | .detach dt p => Sys2Proof.Machine.execDetach dt p s
  | .status dt p => Sys2Proof.Machine.execStatus dt p s
  | .take dt p => Sys2Proof.Machine.execTake dt p s
  | .readPick dt p id => Sys2Proof.Machine.execReadPick dt p id s
  | .readGroup dt p id => Sys2Proof.Machine.execReadGroup dt p id s
  | .retract dt p id => Sys2Proof.Machine.execRetract dt p id s
  | .set dt p index value => Sys2Proof.Machine.execSet dt p index value s
  | .setQualityThreshold dt p sen which value => Sys2Proof.Machine.execSetQualityThreshold dt p sen which value s
  | .setPageSize dt p value => Sys2Proof.Machine.execSetPageSize dt p value s
  | .setArbiterMode dt p value => Sys2Proof.Machine.execSetArbiterMode dt p value s
  | .setAgingLimit dt p value => Sys2Proof.Machine.execSetAgingLimit dt p value s
  | .setRingReadPolicy dt p value => Sys2Proof.Machine.execSetRingReadPolicy dt p value s
  | .setIntakeAutoClear dt p value => Sys2Proof.Machine.execSetIntakeAutoClear dt p value s
  | .setMask dt p value => Sys2Proof.Machine.execSetMask dt p value s
  | .setLineMode dt p value => Sys2Proof.Machine.execSetLineMode dt p value s
  | .setClearMode dt p value => Sys2Proof.Machine.execSetClearMode dt p value s
  | .setSilenceTimeout dt p value => Sys2Proof.Machine.execSetSilenceTimeout dt p value s
  | .setOfferMode dt p value => Sys2Proof.Machine.execSetOfferMode dt p value s
  | .get dt p index => Sys2Proof.Machine.execGet dt p index s
  | .getIntakeStatus dt p sen => Sys2Proof.Machine.execGetIntakeStatus dt p sen s
  | .applyCorrection dt p sen => Sys2Proof.Machine.execApplyCorrection dt p sen s
  | .applyDetector dt p sen => Sys2Proof.Machine.execApplyDetector dt p sen s
  | .applyRefinement dt p sen => Sys2Proof.Machine.execApplyRefinement dt p sen s
  | .applyGrouping dt p => Sys2Proof.Machine.execApplyGrouping dt p s
  | .applyPresets dt p => Sys2Proof.Machine.execApplyPresets dt p s
  | .freeze dt p => Sys2Proof.Machine.execFreeze dt p s
  | .loadChain dt p count elements => Sys2Proof.Machine.execLoadChain dt p count elements s
  | .startChain dt p => Sys2Proof.Machine.execStartChain dt p s
  | .pauseChain dt p => Sys2Proof.Machine.execPauseChain dt p s
  | .resetChain dt p => Sys2Proof.Machine.execResetChain dt p s
  | .readExcerpt dt p maximum => Sys2Proof.Machine.execReadExcerpt dt p maximum s
  | .attnDone dt p classes => Sys2Proof.Machine.execAttnDone dt p classes s
  | .softReset dt p => Sys2Proof.Machine.execSoftReset dt p s
  | .ignoredTransaction dt p bytes => Sys2Proof.Machine.execIgnoredTransaction dt p bytes s

end Sys2Proof.Machine
end

