-- ==== Sys2Proof/Machine/Step.lean ====
section
/-! DEFINITION. One step: the command at the front of the queue, or, with nothing waiting, one µs. -/

namespace Sys2Proof.Machine

/-- With nothing waiting, one µs of local time passes (DESIGN CHOICE, log 1; safe: every row may carry any number of
them too). -/
def idleStep (s : State) : Host.Outcome State Fault Refusal := .next (s.elapse 1)

/-- One step: the command at the front of the queue is executed with the queue's rest. -/
def step (s : State) : Host.Outcome State Fault Refusal :=
  match s.pending with
  | [] => idleStep s
  | c :: rest => exec c { s with pending := rest }

/-- The command that a word spells, at the front of the queue; no word of the table spells one. -/
def State.withFetchWord (s : State) (nbits w : Nat) : State :=
  match decodeTableWord nbits w with
  | some c => { s with pending := c :: s.pending }
  | none => s

end Sys2Proof.Machine
end

