-- ==== Sys2Proof/WellFormed.lean ====
section
/-! DEFINITION. Which rows can come from outside: the checks on a row's operands that the types do not make. -/

namespace Sys2Proof

/-- R187: the bytes of a transaction that is neither a COMMAND nor a RESPONSE. -/
def ignoredBytes (bytes : List Byte) : Bool :=
  match bytes with
  | [] => true
  | k :: _ => k ≠ Config.commandKind ∧ k ≠ Config.responseKind

/-- A SET row is the row of an index that no other SET row performs. -/
def plainSetIndex (index : BitVec 16) : Bool :=
  match decodeIndex index with
  | none => true
  | some (.refinement _ (.threshold _)) => false
  | some .pageSize | some .arbiterMode | some .agingLimit | some .ringReadPolicy | some .intakeAutoClear => false
  | some .mask | some .lineMode | some .clearMode | some .silenceTimeout | some .offerMode => false
  | some _ => true

/-- A GET row is the row of an index other than a sensor's intake status (R14). -/
def plainGetIndex (index : BitVec 16) : Bool :=
  match decodeIndex index with
  | some (.intakeStatus _) => false
  | _ => true

/-- The characters of the Time Link follow one another: each began no later than it ended, and ended no later than the
next began. Both are told as µs before the row. -/
def charsInOrder : List TimedChar → Bool
  | [] => true
  | [c] => decide (c.ended ≤ c.began)
  | c :: d :: rest => decide (c.ended ≤ c.began) && decide (d.began ≤ c.ended) && charsInOrder (d :: rest)

/-- A row that can come: the characters of the Time Link follow one another (R22), an ignored transaction names neither
kind (R187), a SET or GET row is the row that performs its index, and a LOAD_CHAIN has as many elements as it counts
and no more than its length byte can tell (R189, 11.2). -/
def Instr.wf : Instr → Bool
  | .timeLinkMessage _ chars => charsInOrder chars
  | .ignoredTransaction _ _ bytes => ignoredBytes bytes
  | .set _ _ index _ => plainSetIndex index
  | .get _ _ index => plainGetIndex index
  | .loadChain _ _ count elements => elements.length == count.toNat && decide (elements.length ≤ 15)
  | _ => true

/-- The same check for a command that a slot holds. -/
def Request.wf : Request → Bool
  | .loadChain count elements => elements.length == count.toNat && decide (elements.length ≤ 15)
  | _ => true

end Sys2Proof
end

