-- ==== Sys2Proof/Safety.lean ====
section
/-! DEFINITION. What counts as a safe run: the invariants that every step keeps, and the words in which the statements
speak of one step. -/

namespace Sys2Proof.Machine

/-! ### One step -/

/-- The step of a command answers the next state `t`. -/
abbrev Runs (i : Instr) (s t : State) : Prop := exec i s = .next t

/-- The class of attention is pending at a port. -/
abbrev Pends (s : State) (p : Port) (c : AttnClass) : Prop := ClassSet.has (s.attention.get p).pending c = true

/-- A port's slot holds a command in BUSY. -/
abbrev Holds (s : State) (p : Port) (r : Request) : Prop := (s.ports.get p).slot = .busy r

/-- The slot of port `p` becomes DONE with a response, and nothing else of either port record changes. -/
def Answered (s t : State) (p : Port) (code : Byte) (result : Result) (data : List Byte) : Prop :=
  t.ports = s.ports.set p
    { s.ports.get p with slot := .done { code := code, result := result, data := data } }

/-- R199: what the write of a shared setting by port `p` does to the attention records. -/
def Announced (s t : State) (p : Port) : Prop :=
  (∀ q, (t.attention.get q).changedBy = (s.attention.get q).changedBy.set p true)
    ∧ (t.attention.get p).pending = (s.attention.get p).pending
    ∧ (t.attention.get p.other).pending = (s.attention.get p.other).pending ||| BitVec.twoPow 10 9
    ∧ ∀ q, (t.attention.get q).mask = (s.attention.get q).mask
        ∧ (t.attention.get q).lineMode = (s.attention.get q).lineMode
        ∧ (t.attention.get q).clearMode = (s.attention.get q).clearMode

/-- The data of an OK response to SET: the index and the value as stored (Table 11-4). -/
def setData (i : SettingIndex) (stored : BitVec 32) : List Byte :=
  bytesBE 2 (encodeIndex i).toNat ++ bytesBE 4 stored.toNat

/-! ### The Time Link (R22) -/

/-- Characters of the Time Link that no idle time divides, as a row at local time `now` carries them: what the line
carries after them, and the end of the last one. The first of them begins a message when the line has been idle for
5,000 µs, here with none under way, and else goes on with what the line carries. -/
def LineCarries (x : Timebase) (now : Nat) (l : List TimedChar) (line : Option (List LineChar)) (since : Nat) : Prop :=
  match l with
  | [] => line = x.line ∧ since = x.idleSince
  | c :: rest =>
    charsInOrder (c :: rest) = true ∧ c.began ≤ now ∧ since = now - (rest.getLastD c).ended
      ∧ (∀ i d e, (c :: rest)[i]? = some d → (c :: rest)[i + 1]? = some e → d.ended < e.began + 5000)
      ∧ (x.idleSince + 5000 + c.began ≤ now ∧ x.line = none ∧ line = some ((c :: rest).map (·.char))
        ∨ now < x.idleSince + 5000 + c.began ∧ line = x.line.map (· ++ (c :: rest).map (·.char)))

/-! ### What a frame does and leaves -/

/-- R36: the sets of a list stand at the sample numbers after the newest one of a sensor, and no other slot changed. -/
def Takes (s t : State) (sen : Sensor) (l : List SampleSet) : Prop :=
  ∀ n, (s.ring.get sen).newest = some n →
    (t.ring.get sen).newest = some (n + l.length)
      ∧ (∀ i x, l[i]? = some x → Store.read (t.ring.get sen).slots ((n + 1 + i) % 32768) = some x)
      ∧ ∀ k, (∀ i, i < l.length → k ≠ (n + 1 + i) % 32768) →
          Store.read (t.ring.get sen).slots k = Store.read (s.ring.get sen).slots k

/-- R38: a set stands alone in the page after the page in use, or in page 0 of an empty ring. -/
def StartsPage (s t : State) (sen : Sensor) (x : SampleSet) : Prop :=
  let sets := s.pageSize.active.sets
  let n := match (s.ring.get sen).newest with
    | none => 0
    | some m => (m / sets + 1) * sets
  (t.ring.get sen).newest = some n ∧ (t.ring.get sen).page = some .opened ∧ (t.ring.get sen).setsInPage = some 1
    ∧ Store.read (t.ring.get sen).slots (n % 32768) = some x

/-- What a frame of a sensor leaves: the other sensors' sets and channels, the ports, the settings and the counts. -/
def SparesOthers (s t : State) (sen : Sensor) (dt : Nat) : Prop :=
  (∀ other, other ≠ sen → (t.ring.get other).slots = (s.ring.get other).slots
      ∧ (t.ring.get other).newest = (s.ring.get other).newest ∧ t.detector.get other = s.detector.get other)
    ∧ t.time = { s.time with localTime := s.time.localTime + dt } ∧ t.ports = s.ports ∧ t.presets = s.presets
    ∧ t.arbiter = s.arbiter ∧ t.pageSize = s.pageSize ∧ t.frozen = s.frozen ∧ t.malformedFrames = s.malformedFrames
    ∧ t.autoClear = s.autoClear ∧ t.refiner.groups = s.refiner.groups
    ∧ t.grouper.settings = s.grouper.settings

/-- R11, R39, R67, R79: what a GAP declaration leaves of a sensor beyond its intake record, and of the rest. -/
def GapDeclared (s t : State) (sen : Sensor) (dt : Nat) : Prop :=
  (t.channel sen .p).state = .blind ∧ (t.channel sen .s).state = .blind
    ∧ ((s.ring.get sen).page = some .opened → (s.ring.get sen).newest ≠ none → (t.ring.get sen).page = some .closed)
    ∧ (t.ring.get sen).newest = (s.ring.get sen).newest
    ∧ (∀ q ∈ t.refiner.queues.get sen, q.state ≠ .pendingData)
    ∧ t.refiner.gapCut.get sen = some ((s.ring.get sen).newest.getD 0)
    ∧ (∀ other, other ≠ sen → t.ring.get other = s.ring.get other ∧ t.detector.get other = s.detector.get other)
    ∧ t.chains = s.chains ∧ t.ports = s.ports ∧ t.time = (s.elapse dt).time

/-- A map entry with one bit in error: bits 1 to 191 are its fields (bit 0 is the valid mark) and bits 192 to 200 its
check bits. -/
def MapEntry.flipBit (e : MapEntry) (i : Nat) : MapEntry :=
  if i < 192 then MapEntry.ofDataBits (e.dataBits ^^^ BitVec.twoPow 192 i) e.check
  else { e with check := e.check ^^^ BitVec.twoPow 9 (i - 192) }

/-! ### Groups and offers -/

/-- R131, R133: a group that is not CLOSED admits a pick of a sensor and phase with onset `t`. -/
def Admits (g : GroupRecord) (sen : Sensor) (ph : MemberPhase) (t : Nat) : Prop :=
  g.state ≠ .closed ∧ (∀ m ∈ g.members, ¬ (m.sensor = sen ∧ m.phase = ph)) ∧ g.firstLocal ≤ t
    ∧ t ≤ g.firstLocal + (match ph with
        | .p => g.pWindow
        | .s => g.sWindow) * 1000

/-- Each attached port's list has the notices that `news` gives for its mode in force after what it held (R149); OFFER
becomes pending where the list was empty and there are any (R150). -/
def ListsGain (s t : State) (news : OfferMode → List Notice) : Prop :=
  ∀ p, t.offers.get p = { s.offers.get p with
        notices := s.notices p ++ (match (s.offers.get p).mode with
          | none => []
          | some m => news m) }
    ∧ ∀ m, (s.offers.get p).mode = some m → s.notices p = [] → news m ≠ [] → Pends t p .offer

/-- R121: the delivery fields of a pick that each attached port whose mode is of a kind has just been offered. -/
def nowWaiting (s : State) (offered : OfferMode → Bool) (d : PerPort Delivery) : PerPort Delivery :=
  ⟨if (s.offers.get .a).mode.any offered then .waiting else d.a,
    if (s.offers.get .b).mode.any offered then .waiting else d.b⟩

/-- R123: the four conditions of a record's release, the group `gone` disregarded. -/
def Unheld (s : State) (gone : Nat) (r : PickRecord) : Prop :=
  r.state ≠ .provisional
    ∧ (∀ p, s.attached p = true → (∀ n ∈ s.notices p, n.namesPick r.id = false)
        ∧ (r.state = .retracted ∨ r.delivery.get p = .none ∨ r.delivery.get p = .takenFinal))
    ∧ (∀ g, r.grouping ≠ .pending g)
    ∧ ∀ g ∈ s.grouper.groups, g.id ≠ gone → g.state ≠ .closed → ∀ m ∈ g.members, m.pick ≠ r.id

/-! ### Reading one item of a setting group -/

def correctionValue (g : CorrectionGroup) : CorrectionItem → Int
  | .rate => g.rate.num
  | .offsetZ => g.offsetZ
  | .offsetH1 => g.offsetH1
  | .offsetH2 => g.offsetH2
  | .gainZ => g.gainZ
  | .gainH1 => g.gainH1
  | .gainH2 => g.gainH2
  | .cosine => g.cosine
  | .sine => g.sine
  | .delay => g.delay

def presetValue (x : Preset) : PresetItem → Nat
  | .lead => x.lead
  | .length => x.length
  | .mask => x.mask.bits

def channelValue (c : ChannelSettings) : ChannelItem → Nat
  | .staShift => c.staShift
  | .ltaShift => c.ltaShift
  | .onThreshold => c.onThreshold
  | .offThreshold => c.offThreshold
  | .holdOff => c.holdOff
  | .maxTrigger => c.maxTrigger
  | .ltaFloor => c.ltaFloor

def groupingValue (g : GroupingGroup) : GroupingItem → Nat
  | .qmax => g.qmax
  | .count => g.count
  | .pWindow => g.pWindow
  | .sWindow => g.sWindow

def refinementValue (g : RefinementGroup) : RefinementItem → Nat
  | .pre => g.pre
  | .post => g.post
  | .pol => g.pol
  | .threshold .q0 => g.q0
  | .threshold .q1 => g.q1
  | .threshold .q2 => g.q2
  | .pFrac => g.pFrac
  | .sFrac => g.sFrac
  | .polThr => g.polThr
  | .sectorFloor => g.sectorFloor

/-! ### Invariants -/

/-- R150: OFFER is pending at a port exactly while its list holds a notice. -/
def OfferInv (s : State) : Prop :=
  ∀ p, ClassSet.has (s.attention.get p).pending .offer = !(s.notices p).isEmpty

/-- The stores of every ring have their canonical form, and no index lies outside the ring or the map. -/
def StoreInv (s : State) : Prop :=
  ∀ sen, Store.wf (s.ring.get sen).slots = true ∧ Store.wf (s.ring.get sen).pageMap = true
    ∧ (∀ x ∈ (s.ring.get sen).slots, x.1 < Config.ringSlots)
    ∧ ∀ x ∈ (s.ring.get sen).pageMap, x.1 < s.pageSize.active.pages

/-- R34, R36, R39: how the page in use stands. A sensor whose ring is empty is not RUNNING; an OPEN page counts the sets
from its first to the newest and has room; and the newest set of a RUNNING sensor is in an OPEN page or fills its own. -/
def PageInv (s : State) : Prop :=
  ∀ sen, ((s.ring.get sen).newest = none → (s.ring.get sen).page = none ∧ (s.ring.get sen).oldest = none
      ∧ (s.intake.get sen).state ≠ .running)
    ∧ ∀ n, (s.ring.get sen).newest = some n →
      (∃ o, (s.ring.get sen).oldest = some o ∧ o ≤ n)
        ∧ ((s.ring.get sen).page = some .opened →
            (s.ring.get sen).setsInPage = some (n % s.pageSize.active.sets + 1)
              ∧ n % s.pageSize.active.sets + 1 < s.pageSize.active.sets)
        ∧ ((s.intake.get sen).state = .running →
            (s.ring.get sen).page = some .opened ∨ n % s.pageSize.active.sets + 1 = s.pageSize.active.sets)

/-- R2: a sensor is OFF exactly when its active sample rate is OFF. -/
def RateInv (s : State) : Prop := ∀ sen, (s.intake.get sen).state = .off ↔ s.rate sen = .off

/-- R186: a port in DETACHED has an EMPTY chain and an empty offer list. Table 10-1: the silence timer runs while the
port is ATTACHED and the timeout is not 0. -/
def PortInv (s : State) : Prop :=
  ∀ p, (s.attached p = false → s.notices p = [] ∧ s.chain p = Chain.reset)
    ∧ ((s.ports.get p).timer.isSome = (s.attached p && decide ((s.ports.get p).timeout ≠ 0)))

/-- R108, R109: at most 64 live records, no two with one id, every id from 1 to 65,535; and a refinement is in progress
only while an entry is free for its record (R86). -/
def TableInv (s : State) : Prop :=
  s.table.records.length ≤ Config.tableCapacity
    ∧ (s.refiner.work.isSome = true → s.table.records.length < Config.tableCapacity)
    ∧ (s.table.records.map (·.id)).Nodup
    ∧ (∀ r ∈ s.table.records, 1 ≤ r.id ∧ r.id ≤ Config.idMax)
    ∧ 1 ≤ s.table.nextId ∧ s.table.nextId ≤ Config.idMax

/-- R4, R16: a corrected sample lies within −8,388,607 and +8,388,607. -/
def inSampleRange (x : Int) : Prop := -Config.sampleMax ≤ x ∧ x ≤ Config.sampleMax

/-- All three components of a set lie in the range. -/
def SampleSet.inRange (x : SampleSet) : Prop := inSampleRange x.z ∧ inSampleRange x.n ∧ inSampleRange x.e

/-- R56, R57: the largest energy. -/
def energyMax : Nat := 274877841408

/-- R60: the ranges of a channel's averages and ratio, and of its previous components. -/
def ChannelRecord.inRange (c : ChannelRecord) : Prop :=
  c.sta ≤ energyMax ∧ c.lta ≤ energyMax ∧ c.ratio ≤ 65535
    ∧ ∀ z n e, c.prev = some (z, n, e) → inSampleRange z ∧ inSampleRange n ∧ inSampleRange e

/-- R4, R16, R60: every sample that the part holds lies in range, and so do the averages and ratios. -/
def SignalInv (s : State) : Prop :=
  ∀ sen, (∀ x, (s.intake.get sen).lastGood = some x → x.inRange)
    ∧ (∀ x ∈ (s.ring.get sen).slots, x.2.inRange)
    ∧ ∀ ch, (s.channel sen ch).inRange

/-- R77, R86, R127, R164, R186: what the part's queues, tables, lists and buffers hold at most. -/
def CapacityInv (s : State) : Prop :=
  (∀ sen, (s.refiner.queues.get sen).length ≤ Config.queueCapacity
      ∧ ∀ q ∈ s.refiner.queues.get sen, q.passOver ≤ Config.passOverMax)
    ∧ s.grouper.groups.length ≤ Config.groupCapacity
    ∧ ∀ p, (s.chain p).elements.length ≤ 8 ∧ (s.chain p).buffer.length ≤ Config.bufferCapacity

/-- R148: a notice's subject, with whether it is a pick. -/
def Notice.key : Notice → Bool × Nat
  | .pickNew i | .pickFinal i | .pickRetracted i _ => (true, i)
  | .groupDeclared g | .groupClosed g => (false, g)

/-- R148: each list holds at most 72 notices, at most one naming any pick and at most one naming any group; a pick notice
names a live record that is not PENDING, GROUP_DECLARED a DECLARED group and GROUP_CLOSED a CLOSED one. R121: a PENDING
record has been offered to no port. R131, R133: a group lists one member of a sensor and phase, and so at most 8; the
members of an OPEN group are records PENDING in it, and those of a DECLARED group records GROUPED in it (R117, R123). -/
def NoticeInv (s : State) : Prop :=
  (∀ p, (s.notices p).length ≤ 72 ∧ ((s.notices p).map Notice.key).Nodup
      ∧ ∀ n ∈ s.notices p, match n with
        | .pickNew id | .pickFinal id | .pickRetracted id _ =>
          ∃ r ∈ s.table.records, r.id = id ∧ ∀ g, r.grouping ≠ .pending g
        | .groupDeclared id => ∃ g ∈ s.grouper.groups, g.id = id ∧ g.state = .declared
        | .groupClosed id => ∃ g ∈ s.grouper.groups, g.id = id ∧ g.state = .closed)
    ∧ (∀ r ∈ s.table.records, (∃ g, r.grouping = .pending g) → ∀ p, r.delivery.get p = .none)
    ∧ s.grouper.groups.length ≤ 8 ∧ (s.grouper.groups.map (·.id)).Nodup
    ∧ ∀ g ∈ s.grouper.groups,
        g.members.length ≤ 8 ∧ (g.members.map fun m => (m.sensor, m.phase)).Nodup
          ∧ (g.state ≠ .closed → (g.members.map (·.pick)).Nodup
              ∧ ∀ m ∈ g.members, ∃ r ∈ s.table.records, r.id = m.pick
                  ∧ r.grouping = if g.state = .opened then .pending g.id else .grouped g.id)

/-- R1, R2, R6, R9, R22, R24, R41, R63, R80, R132, R140, R192: the counts stay within their ranges. -/
def CountInv (s : State) : Prop :=
  s.malformedFrames ≤ 65535 ∧ s.time.missedMarks ≤ 65535 ∧ s.time.badMessages ≤ 65535
    ∧ s.grouper.fullCount ≤ 65535 ∧ s.grouper.expired ≤ 65535 ∧ s.softResets ≤ 65535
    ∧ ∀ sen, (s.intake.get sen).offFrames ≤ 65535 ∧ (s.intake.get sen).consecutiveBad ≤ 8
        ∧ (s.intake.get sen).consecutiveGood ≤ 64 ∧ (s.ring.get sen).mapCorrected ≤ 65535
        ∧ (s.ring.get sen).mapFaults ≤ 65535 ∧ s.refiner.lost.get sen ≤ 65535
        ∧ ∀ ch, (s.channel sen ch).lostTriggers ≤ 65535

/-- R25, R28, R33: no anchor and no last valid mark exactly in NO_TIME. -/
def TimeInv (s : State) : Prop :=
  (s.time.state = .noTime ↔ s.time.anchor = none) ∧ (s.time.state = .noTime ↔ s.time.lastValidMark = none)

/-- The settings that FREEZE closes (Table 10-6), as they stand for SET and, where no safe point is awaited, in use. -/
def SameFrozenSettings (s t : State) : Prop :=
  (∀ sen, (t.intake.get sen).correction.staged = (s.intake.get sen).correction.staged
      ∧ (t.detector.get sen).group.staged = (s.detector.get sen).group.staged
      ∧ t.refiner.groups.get sen = s.refiner.groups.get sen)
    ∧ t.grouper.settings = s.grouper.settings ∧ t.presets = s.presets ∧ t.pageSize.staged = s.pageSize.staged
    ∧ t.refiner.mode = s.refiner.mode ∧ t.refiner.aging = s.refiner.aging ∧ t.arbiter.policy = s.arbiter.policy

/-- What belongs to one port: its slot record, its chain, its settings and its mode in force. -/
def SamePort (s t : State) (p : Port) : Prop :=
  t.ports.get p = s.ports.get p ∧ t.chain p = s.chain p
    ∧ (t.offers.get p).mode = (s.offers.get p).mode ∧ (t.offers.get p).setting = (s.offers.get p).setting
    ∧ (t.attention.get p).mask = (s.attention.get p).mask
    ∧ (t.attention.get p).lineMode = (s.attention.get p).lineMode
    ∧ (t.attention.get p).clearMode = (s.attention.get p).clearMode
    ∧ ∀ c, c ≠ .offer → Pends s p c → Pends t p c

end Sys2Proof.Machine
end

