-- ==== Sys2Proof/Certificates/Slice0/Obligations.lean ====
section
/-! DEFINITION. The statements for the provers. Each docstring names the rules of spec/ that a statement formalises;
`dt` is the local time that a row carries (log 1). A next state given as an update of the state before says by its form
that nothing else changes. -/

section Statements

open Sys2Proof Sys2Proof.Machine

/-! ### The step, the resets and time -/

/-- The step takes the command at the front of the queue and executes it with the queue's rest. With nothing waiting
one µs of local time passes: that is the model's choice (log 1), which lets R21's count run. -/
def Obligations.StepRunsFrontCommand : Prop :=
  (∀ (c : Instr) (rest : List Instr) (s : State),
    Machine.step { s with pending := c :: rest } = exec c { s with pending := rest })
  ∧ ∀ s : State, s.pending = [] →
    Machine.step s = .next { s with time := { s.time with localTime := s.time.localTime + 1 } }

/-- R19, R33, R52, R75, R104, R125, R146, R162, R185, R191, R200, R206: what hardware reset leaves of any state; what
waits outside the part stays. -/
def Obligations.HardwareResetLeavesResetValues : Prop :=
  (∀ s : State, Runs .hardwareReset s { State.reset with pending := s.pending })
  ∧ let s := State.reset
    (s.time.state = .noTime ∧ s.time.localTime = 0 ∧ s.time.anchor = none ∧ s.time.lastFault = .none)
    ∧ (∀ sen, (s.intake.get sen).state = .off ∧ (s.intake.get sen).correction = .both .default
        ∧ (s.ring.get sen).newest = none ∧ (s.ring.get sen).slots = [] ∧ (s.ring.get sen).pageMap = []
        ∧ (s.channel sen .p).state = .blind ∧ (s.channel sen .s).state = .blind
        ∧ s.refiner.queues.get sen = [] ∧ s.refiner.gapCut.get sen = none)
    ∧ s.pageSize = ⟨.p256, .p256⟩ ∧ s.autoClear = false
    ∧ (s.refiner.lastGranted = .s3 ∧ s.refiner.mode = .rotating ∧ s.refiner.aging = 4 ∧ s.refiner.stateNum = 0)
    ∧ (s.table.records = [] ∧ s.table.nextId = 1 ∧ s.grouper.groups = [] ∧ s.grouper.nextId = 1)
    ∧ (s.arbiter.path = .free ∧ s.arbiter.lastGrant = .chain .b ∧ s.arbiter.lastChain = .b
        ∧ s.arbiter.policy = .refinerFirst)
    ∧ (∀ p, s.attached p = false ∧ s.notices p = [] ∧ (s.offers.get p).setting = .all ∧ (s.chain p).state = .empty
        ∧ (s.ports.get p).slot = .idle ∧ (s.ports.get p).reject = false ∧ (s.ports.get p).timeout = 30
        ∧ (s.ports.get p).timer = none ∧ (s.attention.get p).pending = 0#10
        ∧ (s.attention.get p).mask = BitVec.allOnes 10 ∧ (s.attention.get p).lineMode = .level
        ∧ (s.attention.get p).clearMode = .explicit ∧ s.attentionLine p = false)
    ∧ s.frozen = false ∧ s.softResets = 0

/-- Every invariant of Safety.lean holds after hardware reset. -/
def Obligations.InvariantsHoldAtReset : Prop :=
  OfferInv State.reset ∧ StoreInv State.reset ∧ RateInv State.reset ∧ PortInv State.reset ∧ TableInv State.reset
    ∧ SignalInv State.reset ∧ CapacityInv State.reset ∧ CountInv State.reset ∧ TimeInv State.reset
    ∧ PageInv State.reset ∧ NoticeInv State.reset

/-- R21: every row but HARDWARE_RESET moves local time on by what it carries; R27, R33: no such row leaves LOCKED or
HOLDOVER for NO_TIME. -/
def Obligations.TimeRunsOnThroughEveryRow : Prop :=
  ∀ (i : Instr) (s : State), i ≠ .hardwareReset → ∃ t, Runs i s t
    ∧ t.time.localTime = s.time.localTime + i.elapsed
    ∧ (s.time.state ≠ .noTime → t.time.state ≠ .noTime)

/-- R22, R27: idle time of 5,000 µs divides the Time Link into messages, and a message arrives when the line has been
idle so long after it. A good message becomes pending, and one whose flag is clear sends a LOCKED Timebase to HOLDOVER
with TIME_FAULT and cause LOST; any other message removes the pending one and is counted. How a row carries the
characters, and that the line counts as idle from reset on, is the model's (log 38). -/
def Obligations.TimeLinkMessagePendsOrIsCounted : Prop :=
  (∀ (dt : Nat) (l : List TimedChar) (s : State) (line : Option (List LineChar)) (since : Nat),
    let now := s.time.localTime + dt
    LineCarries s.time now l line since →
    (now < since + 5000 ∨ line = none → Runs (.timeLinkMessage dt l) s
      { s with time := { s.time with localTime := now, line := line, idleSince := since } })
    ∧ (since + 5000 ≤ now →
      (∀ b1 b2 b3 b4 b5 : Byte,
        line = some ([0xD4#8, b1, b2, b3, b4, b5, 0xD4#8 ^^^ b1 ^^^ b2 ^^^ b3 ^^^ b4 ^^^ b5].map
          fun b => { byte := b, framingError := false }) →
        ∃ t, Runs (.timeLinkMessage dt l) s t
          ∧ t = { s with time := t.time, attention := t.attention }
          ∧ t.time = { s.time with
              localTime := now
              line := none
              idleSince := since
              state := t.time.state
              lastFault := t.time.lastFault
              pendingMessage := some
                { seconds := (b1 ++ b2 ++ b3 ++ b4).toNat, locked := b5.getLsbD 0, arrival := since + 5000 } }
          ∧ (if b5.getLsbD 0 = false ∧ s.time.state = .locked then
              t.time.state = .holdover ∧ t.time.lastFault = .lost ∧ ∀ p, Pends t p .timeFault
            else t.time.state = s.time.state ∧ t.time.lastFault = s.time.lastFault ∧ t.attention = s.attention))
      ∧ ∀ chars, line = some chars →
        chars.length ≠ 7 ∨ (∃ c ∈ chars, c.framingError = true) ∨ (chars.map (·.byte)).head? ≠ some 0xD4#8
          ∨ (chars.map (·.byte)).foldl (· ^^^ ·) 0#8 ≠ 0#8 →
        Runs (.timeLinkMessage dt l) s { s with time := { s.time with
          localTime := now
          line := none
          idleSince := since
          pendingMessage := none
          badMessages := min (s.time.badMessages + 1) 65535 } }))
  ∧ ∀ (dt : Nat) (l : List TimedChar) (c : TimedChar) (rest : List TimedChar) (s : State),
    let now := s.time.localTime + dt
    (match l.getLast? with
      | none => s.time.idleSince + 5000 + c.began ≤ now
      | some d => c.began + 5000 ≤ d.ended ∧ d.ended ≤ now) →
    ∃ u, Runs (.timeLinkMessage dt l) s u ∧ u.time.line = none
      ∧ exec (.timeLinkMessage dt (l ++ c :: rest)) s = exec (.timeLinkMessage 0 (c :: rest)) u

/-- R24 to R26, R29: a mark that finds a pending message with its flag set renews the anchor and locks the Timebase; a
difference of more than 1,000 µs from the time held is a STEP with TIME_FAULT. Any other mark is ignored and counted. -/
def Obligations.SecondMarkRenewsAnchorOrIsIgnored : Prop :=
  (∀ (dt : Nat) (s : State) (m : TimeMessage), s.time.pendingMessage = some m → m.locked = true →
    let now := s.time.localTime + dt
    ∃ t, Runs (.secondMark dt) s t
      ∧ t = { s with time := t.time, attention := t.attention }
      ∧ t.time = { s.time with
          localTime := now
          state := .locked
          anchor := some { localTime := now, absTime := { seconds := m.seconds, micros := 0 } }
          lastValidMark := some now
          pendingMessage := none
          lastFault := t.time.lastFault
          stepSize := t.time.stepSize }
      ∧ (∀ a, s.time.anchor = some a → s.time.state ≠ .noTime →
          1000 < AbsTime.distance (a.absAt now) { seconds := m.seconds, micros := 0 } →
          t.time.lastFault = .step
            ∧ t.time.stepSize = min (AbsTime.distance (a.absAt now) { seconds := m.seconds, micros := 0 }) 4294967295
            ∧ ∀ p, Pends t p .timeFault)
      ∧ ((s.time.state = .noTime ∨ s.time.anchor = none ∨ ∃ a, s.time.anchor = some a
            ∧ AbsTime.distance (a.absAt now) { seconds := m.seconds, micros := 0 } ≤ 1000) →
          t.time.lastFault = s.time.lastFault ∧ t.time.stepSize = s.time.stepSize ∧ t.attention = s.attention))
  ∧ ∀ (dt : Nat) (s : State), (∀ m, s.time.pendingMessage = some m → m.locked = false) →
    Runs (.secondMark dt) s { s with time := { s.time with
      localTime := s.time.localTime + dt
      pendingMessage := none
      missedMarks := min (s.time.missedMarks + 1) 65535 } }

/-- R23, R27: a pending message leaves after 1,000,000 µs, and a LOCKED Timebase loses time 2,500,000 µs after its last
valid mark. (That an expiry row whose time has not come passes time alone is the model's: log 2.) -/
def Obligations.TimebaseExpiriesActWhenDue : Prop :=
  (∀ (dt : Nat) (s : State) (m : TimeMessage), s.time.pendingMessage = some m →
    Runs (.pendingMessageExpiry dt) s { s with time := { s.time with
      localTime := s.time.localTime + dt
      pendingMessage := if m.arrival + 1000000 ≤ s.time.localTime + dt then none else some m } })
  ∧ (∀ (dt : Nat) (s : State) (m : Nat), s.time.state = .locked → s.time.lastValidMark = some m →
    m + 2500000 ≤ s.time.localTime + dt → ∃ t, Runs (.markLoss dt) s t
      ∧ t = { s with time := t.time, attention := t.attention }
      ∧ t.time = { s.time with localTime := s.time.localTime + dt, state := .holdover, lastFault := .lost }
      ∧ ∀ p, Pends t p .timeFault)
  ∧ ∀ (dt : Nat) (s : State), s.time.state ≠ .locked ∨ (∀ m, s.time.lastValidMark = some m →
      s.time.localTime + dt < m + 2500000) →
    Runs (.markLoss dt) s { s with time := { s.time with localTime := s.time.localTime + dt } }

/-! ### Sample Intake -/

/-- R15, R16: "rounded to nearest, with ties away from zero", for the rounding that correction uses. -/
def Obligations.RoundingIsToNearestTiesAway : Prop :=
  ∀ (x : Int) (d : Nat), 0 < d →
    2 * (x - roundDiv x d * (d : Int)).natAbs ≤ d
      ∧ (2 * (x - roundDiv x d * (d : Int)).natAbs = d → x.natAbs < (roundDiv x d * (d : Int)).natAbs)

/-- R4, R6, R7, R9, R12, R13, R15, R16, R36: a frame of a RUNNING sensor with no application pending. A good frame in
its turn leaves the intake record as R6 and R13 say, and where the page in use is OPEN and not full, the corrected set
stands at the next sample number and no other slot changes. A short jump of d puts d held sets before its own, with
SEQUENCE, and each of the first seven bad frames in a row puts one held set, with PARITY. The corrected set is that of
offset, gain and rotation, each rounded and saturated, with CLIP and CAL; a held set is the last good one. -/
def Obligations.GoodFrameInTurnIsStored : Prop :=
  (∀ (dt : Nat) (bytes : List Byte) (f : Frame) (s : State),
    parseFrame bytes = some f → f.good = true → (s.intake.get f.sensor).state = .running →
    (s.intake.get f.sensor).applyPending = false → (s.intake.get f.sensor).expected = some f.sequence →
    let r := s.intake.get f.sensor
    let set := correct r.correction.active f
    ∃ t, Runs (.sampleLinkFrame dt bytes) s t
      ∧ t.intake = s.intake.set f.sensor { r with
          expected := some (f.sequence + 1#8)
          lastGood := some set
          consecutiveBad := 0
          consecutiveGood := min (r.consecutiveGood + 1) 64
          flags := if s.autoClear = true ∧ r.consecutiveGood + 1 = 64 then ⟨false, false, false⟩ else r.flags
          silenceTimer := some (s.time.localTime + dt) }
      ∧ (∀ n, (s.ring.get f.sensor).newest = some n → (s.ring.get f.sensor).page = some .opened →
          (n + 1) % s.pageSize.active.sets ≠ 0 →
          (t.ring.get f.sensor).newest = some (n + 1)
            ∧ (t.ring.get f.sensor).oldest = (s.ring.get f.sensor).oldest
            ∧ Store.read (t.ring.get f.sensor).slots ((n + 1) % 32768) = some set
            ∧ ∀ k, k ≠ (n + 1) % 32768 →
                Store.read (t.ring.get f.sensor).slots k = Store.read (s.ring.get f.sensor).slots k)
      ∧ (∀ other, other ≠ f.sensor → (t.ring.get other).slots = (s.ring.get other).slots
          ∧ (t.ring.get other).newest = (s.ring.get other).newest ∧ t.detector.get other = s.detector.get other)
      ∧ t.time = { s.time with localTime := s.time.localTime + dt } ∧ t.ports = s.ports ∧ t.presets = s.presets
      ∧ t.arbiter = s.arbiter ∧ t.pageSize = s.pageSize ∧ t.frozen = s.frozen
      ∧ t.malformedFrames = s.malformedFrames)
  ∧ (∀ (dt : Nat) (bytes : List Byte) (f : Frame) (next : BitVec 8) (s : State),
    parseFrame bytes = some f → f.good = true → (s.intake.get f.sensor).state = .running →
    (s.intake.get f.sensor).applyPending = false → (s.intake.get f.sensor).expected = some next →
    let r := s.intake.get f.sensor
    let d := (f.sequence - next).toNat
    let set := correct r.correction.active f
    1 ≤ d → d ≤ 15 →
    ∃ t, Runs (.sampleLinkFrame dt bytes) s t
      ∧ t.intake = s.intake.set f.sensor { r with
          expected := some (f.sequence + 1#8)
          lastGood := some set
          consecutiveBad := 0
          consecutiveGood := 0
          flags := { r.flags with sequence := true }
          silenceTimer := some (s.time.localTime + dt) }
      ∧ (r.flags.sequence = false → ∀ p, Pends t p .intakeFault)
      ∧ (PageInv s → Takes s t f.sensor (List.replicate d (heldSet r.lastGood) ++ [set]))
      ∧ SparesOthers s t f.sensor dt)
  ∧ (∀ (dt : Nat) (bytes : List Byte) (f : Frame) (s : State),
    parseFrame bytes = some f → f.good = false → (s.intake.get f.sensor).state = .running →
    (s.intake.get f.sensor).applyPending = false → (s.intake.get f.sensor).consecutiveBad < 7 →
    let r := s.intake.get f.sensor
    ∃ t, Runs (.sampleLinkFrame dt bytes) s t
      ∧ t.intake = s.intake.set f.sensor { r with
          expected := r.expected.map (· + 1#8)
          consecutiveBad := r.consecutiveBad + 1
          consecutiveGood := 0
          flags := { r.flags with parity := true }
          silenceTimer := some (s.time.localTime + dt) }
      ∧ (r.flags.parity = false → ∀ p, Pends t p .intakeFault)
      ∧ (PageInv s → Takes s t f.sensor [heldSet r.lastGood])
      ∧ SparesOthers s t f.sensor dt)
  ∧ heldSet none = ⟨0, 0, 0, true, false, false⟩
  ∧ (∀ x : SampleSet, heldSet (some x) = { x with held := true, clip := false })
  ∧ ∀ (g : CorrectionGroup) (f : Frame),
    let sat := fun x : Int => max (-8388607) (min 8388607 x)
    let gain := fun (raw offset : Int) (k : Nat) => roundDiv ((raw - offset) * (k : Int)) 16384
    let z := gain f.z g.offsetZ g.gainZ
    let h1 := gain f.h1 g.offsetH1 g.gainH1
    let h2 := gain f.h2 g.offsetH2 g.gainH2
    let n := roundDiv (g.cosine * sat h1 - g.sine * sat h2) 16384
    let e := roundDiv (g.sine * sat h1 + g.cosine * sat h2) 16384
    correct g f = { z := sat z, n := sat n, e := sat e, held := false, clip := (correct g f).clip, cal := f.cal }
      ∧ ((correct g f).clip = true ↔ f.clip = true ∨ ∃ x ∈ [z, h1, h2, n, e], x < -8388607 ∨ 8388607 < x)
      ∧ (∀ raw offset : Int, gain raw offset 0 = 0)
      ∧ sat (gain (-8388608) 0 16384) = -8388607

/-- R1, R2, R5, R10: a frame that is not 12 bytes, a frame of an OFF sensor, and a bad frame in STARTING or GAP hand on
nothing: one count rises, or PARITY is set with INTAKE_FAULT at both ports when it was clear. -/
def Obligations.DiscardedFramesHandOnNothing : Prop :=
  (∀ (dt : Nat) (bytes : List Byte) (s : State), bytes.length ≠ 12 →
    Runs (.sampleLinkFrame dt bytes) s
      { s.elapse dt with malformedFrames := min (s.malformedFrames + 1) 65535 })
  ∧ (∀ (dt : Nat) (bytes : List Byte) (f : Frame) (s : State), parseFrame bytes = some f →
    (s.intake.get f.sensor).applyPending = false → (s.intake.get f.sensor).state = .off →
    Runs (.sampleLinkFrame dt bytes) s { s.elapse dt with
      intake := s.intake.set f.sensor
        { s.intake.get f.sensor with offFrames := min ((s.intake.get f.sensor).offFrames + 1) 65535 } })
  ∧ ∀ (dt : Nat) (bytes : List Byte) (f : Frame) (s : State), parseFrame bytes = some f → f.good = false →
    (s.intake.get f.sensor).applyPending = false →
    ((s.intake.get f.sensor).state = .starting ∨ (s.intake.get f.sensor).state = .gap) →
    ∃ t, Runs (.sampleLinkFrame dt bytes) s t
      ∧ t = { s.elapse dt with intake := t.intake, attention := t.attention }
      ∧ t.intake = s.intake.set f.sensor { s.intake.get f.sensor with
          flags := { (s.intake.get f.sensor).flags with parity := true } }
      ∧ (if (s.intake.get f.sensor).flags.parity then t.attention = s.attention
        else ∀ p, Pends t p .intakeFault)

/-- R9, R11, R39, R67, R79: the silence of a RUNNING sensor for four sample periods, or its eighth bad frame in a row,
declares GAP: the page in use is closed, both channels are BLIND, no request awaits data, and the intake record stands
in GAP with its flag. -/
def Obligations.FrameSilenceDeclaresGap : Prop :=
  (∀ (dt : Nat) (sen : Sensor) (start : Nat) (s : State),
    (s.intake.get sen).state = .running → (s.intake.get sen).silenceTimer = some start →
    start + 4 * (s.rate sen).period ≤ s.time.localTime + dt →
    ∃ t, Runs (.frameSilenceExpiry dt sen) s t
      ∧ t.intake = s.intake.set sen { s.intake.get sen with
          state := .gap
          expected := none
          consecutiveBad := 0
          consecutiveGood := 0
          silenceTimer := none
          flags := { (s.intake.get sen).flags with gap := true } }
      ∧ GapDeclared s t sen dt
      ∧ ((s.intake.get sen).flags.gap = false → ∀ p, Pends t p .intakeFault))
  ∧ ∀ (dt : Nat) (bytes : List Byte) (f : Frame) (s : State),
    parseFrame bytes = some f → f.good = false → (s.intake.get f.sensor).state = .running →
    (s.intake.get f.sensor).applyPending = false → (s.intake.get f.sensor).consecutiveBad = 7 →
    ∃ t, Runs (.sampleLinkFrame dt bytes) s t
      ∧ t.intake = s.intake.set f.sensor { s.intake.get f.sensor with
          state := .gap
          expected := none
          consecutiveBad := 0
          consecutiveGood := 0
          silenceTimer := none
          flags := { (s.intake.get f.sensor).flags with parity := true, gap := true } }
      ∧ GapDeclared s t f.sensor dt
      ∧ ((s.intake.get f.sensor).flags.parity = false ∨ (s.intake.get f.sensor).flags.gap = false →
          ∀ p, Pends t p .intakeFault)

/-! ### The ring -/

/-- R5, R8, R10, R12, R34, R37, R38: a stream-start set opens the page after the page in use, or page 0 of an empty
ring: its slot holds the set, its map entry records the page's start, one set, and the sensor's period, and the set is
the only one in it. A good frame starts the stream of a sensor in STARTING or GAP so; a long jump in RUNNING does the
same after a GAP, with both flags set. -/
def Obligations.StreamStartOpensNextPage : Prop :=
  (∀ (s : State) (sen : Sensor) (set : SampleSet) (arrival : Nat),
    let p := s.pageSize.active
    let n := match (s.ring.get sen).newest with
      | none => 0
      | some m => (m / p.sets + 1) * p.sets
    let t := s.placeSet sen set true arrival
    (t.ring.get sen).newest = some n ∧ (t.ring.get sen).page = some .opened ∧ (t.ring.get sen).setsInPage = some 1
      ∧ Store.read (t.ring.get sen).slots (n % 32768) = some set
      ∧ (∃ e, Store.read (t.ring.get sen).pageMap (n / p.sets % (32768 / p.sets)) = some e
          ∧ e.startSample = BitVec.ofNat 48 n ∧ e.fill = 1#10 ∧ e.period = BitVec.ofNat 15 (s.rate sen).period
          ∧ e.localStart = BitVec.ofNat 64 (arrival - (s.activeCorrection sen).delay) ∧ mapTest e = .clean)
      ∧ ∀ other, other ≠ sen → t.ring.get other = s.ring.get other)
  ∧ ∀ (dt : Nat) (bytes : List Byte) (f : Frame) (s : State),
    parseFrame bytes = some f → f.good = true → (s.intake.get f.sensor).applyPending = false →
    let r := s.intake.get f.sensor
    let set := correct r.correction.active f
    let started := fun flags : IntakeFlags => { r with
      state := .running
      expected := some (f.sequence + 1#8)
      lastGood := some set
      consecutiveBad := 0
      consecutiveGood := 1
      flags := flags
      silenceTimer := some (s.time.localTime + dt) }
    (r.state = .starting ∨ r.state = .gap →
      ∃ t, Runs (.sampleLinkFrame dt bytes) s t ∧ t.intake = s.intake.set f.sensor (started r.flags)
        ∧ StartsPage s t f.sensor set ∧ SparesOthers s t f.sensor dt)
    ∧ ∀ next, r.state = .running → r.expected = some next → 16 ≤ (f.sequence - next).toNat →
      ∃ t, Runs (.sampleLinkFrame dt bytes) s t
        ∧ t.intake = s.intake.set f.sensor (started { r.flags with sequence := true, gap := true })
        ∧ (r.flags.sequence = false ∨ r.flags.gap = false → ∀ p, Pends t p .intakeFault)
        ∧ StartsPage s t f.sensor set ∧ SparesOthers s t f.sensor dt

/-- R41: an entry whose check bits were computed over its fields is accepted; an error in any one of its check bits or
of its data bits, from the least bit of the period to the highest of the start sample number, is repaired to it; and
two bits in error are found. A read of an entry writes a repaired one back and counts it, and makes an entry beyond
repair invalid, counts it and raises MAP_FAULT at both ports. The places of the bits are the model's (log 7). -/
def Obligations.MapCheckAcceptsAndRepairs : Prop :=
  (∀ e : MapEntry, mapTest e.withCheck = .clean
    ∧ (∀ i, i < 9 → mapTest { e.withCheck with check := e.withCheck.check ^^^ BitVec.twoPow 9 i } = .corrected e.withCheck)
    ∧ (∀ i, 1 ≤ i → i < 201 → mapTest (e.withCheck.flipBit i) = .corrected e.withCheck)
    ∧ ∀ i j, 1 ≤ i → i < j → j < 201 → mapTest ((e.withCheck.flipBit i).flipBit j) = .faulty)
  ∧ ∀ (s : State) (sen : Sensor) (page : Nat) (stored : MapEntry),
    let r := s.ring.get sen
    let index := page % (32768 / s.pageSize.active.sets)
    Store.read r.pageMap index = some stored →
    (mapTest stored = .clean → s.readEntry sen page = (s, some stored))
    ∧ (∀ e, mapTest stored = .corrected e → s.readEntry sen page =
        ({ s with ring := s.ring.set sen { r with
            pageMap := Store.write r.pageMap index e, mapCorrected := min (r.mapCorrected + 1) 65535 } }, some e))
    ∧ (mapTest stored = .faulty → ∃ t, s.readEntry sen page = (t, none)
        ∧ t = { s with ring := t.ring, attention := t.attention }
        ∧ t.ring = s.ring.set sen { r with
            pageMap := Store.erase r.pageMap index, mapFaults := min (r.mapFaults + 1) 65535 }
        ∧ (∀ p, Pends t p .mapFault)
        ∧ (StoreInv s → Store.read (t.ring.get sen).pageMap index = none))

/-! ### The Detector -/

/-- R56: the energy of the P-channel and its range. -/
def Obligations.VerticalEnergyIsScaledSquare : Prop :=
  ∀ dz dn de : Int,
    ((energyOf .p (dz, dn, de) : Nat) : Int) = dz * dz / 1024
      ∧ (dz.natAbs ≤ 16777214 → energyOf .p (dz, dn, de) ≤ 274877841408
          ∧ (energyOf .p (dz, dn, de) = 274877841408 ↔ dz.natAbs = 16777214))
      ∧ (16777214 * 16777214 : Nat) = 281474909601796
      ∧ 281474909601796 / 1024 = 274877841408 ∧ 281474909601796 % 1024 = 4

/-- R57: the energy of the S-channel and its range, against that of the P-channel. -/
def Obligations.HorizontalEnergyIsScaledSum : Prop :=
  ∀ dz dn de : Int,
    ((energyOf .s (dz, dn, de) : Nat) : Int) = (dn * dn + de * de) / 2048
      ∧ (dn.natAbs ≤ 16777214 → de.natAbs ≤ 16777214 → energyOf .s (dz, dn, de) ≤ 274877841408)
      ∧ energyOf .s (0, dz, 0) = energyOf .p (dz, 0, 0) / 2 ∧ energyOf .s (0, 0, dz) = energyOf .p (dz, 0, 0) / 2
      ∧ energyOf .s (0, dz, dz) = energyOf .p (dz, 0, 0)
      ∧ 562949819203592 / 2048 = 274877841408 ∧ 562949819203592 % 2048 = 8

/-- R58, R60: an average moves toward the energy by floor((e − average) / 2^k), by no more than the distance; falling it
moves by at least one, and rising it stays while the distance is below 2^k. -/
def Obligations.AveragesMoveTowardEnergy : Prop :=
  ∀ k avg e : Nat,
    ((average k avg e : Nat) : Int) = (avg : Int) + ((e : Int) - (avg : Int)) / (2 : Int) ^ k
      ∧ (avg ≤ e → avg ≤ average k avg e ∧ average k avg e ≤ e)
      ∧ (e < avg → e ≤ average k avg e ∧ average k avg e < avg)
      ∧ (avg ≤ e → e < avg + 2 ^ k → average k avg e = avg)

/-- R62, R63, R71, R77, R78: a QUIET channel whose ratio reaches its on-threshold triggers, unless triggering is
suspended, and posts a request, which stands last in the sensor's queue when that holds fewer than 4, with the
channel, the trigger and the sensor's period, and waits for data where none of it has been written; a refused one is
counted, with PICK_LOST. The trigger sample stands in the ring, as it does for a set that is handed on (R4). -/
def Obligations.QuietChannelTriggersAtThreshold : Prop :=
  ∀ (s : State) (sen : Sensor) (ch : Channel) (n localTime : Nat), (s.channel sen ch).state = .quiet →
    let c := s.channel sen ch
    let on := ((s.detector.get sen).group.active.get ch).onThreshold
    let t := s.evaluate sen ch false n localTime
    let posted := decide ((s.refiner.queues.get sen).length < 4)
    (on ≤ c.ratio →
      t.channel sen ch = { c with
          state := .triggered
          count := 0
          lostTriggers := if posted then c.lostTriggers else min (c.lostTriggers + 1) 65535
          episode := some { trigger := n, triggerLocal := localTime, peak := c.ratio, posted := posted, last := n } }
        ∧ (posted = false → (∀ p, Pends t p .pickLost) ∧ t.refiner = s.refiner)
        ∧ (posted = true → (s.ring.get sen).below n = false →
          ∃ q, (t.refiner.queues.get sen).getLast? = some q ∧ q.channel = ch ∧ q.trigger = n
            ∧ q.triggerLocal = localTime ∧ q.period = (s.rate sen).period ∧ q.info = none
            ∧ (s.refiner.gapCut.get sen = none → (∀ m, (s.ring.get sen).newest = some m →
                m < n + (s.activeRefinement sen).post + (s.activeRefinement sen).pol) → q.state = .pendingData))
        ∧ (∀ other, (other, ch) ≠ (sen, ch) → t.detector.get other = s.detector.get other)
        ∧ t.ring = s.ring ∧ t.intake = s.intake ∧ t.chains = s.chains)
    ∧ (c.ratio < on → t = s)
    ∧ s.evaluate sen ch true n localTime = s

/-! ### The Onset Refiner, the Arrival Table and the Ring Read Arbiter -/

/-- R109, R128: the id given is the first candidate that is not held, counting on from the next id and from 65,535 to 1;
with no more than 64 ids held there is one. -/
def Obligations.AssignedIdIsFirstFree : Prop :=
  ∀ (held : List Nat) (next : Nat), held.length ≤ 64 → 1 ≤ next → next ≤ 65535 →
    let id := firstFree held (Config.tableCapacity + 1) next
    id ∉ held ∧ 1 ≤ id ∧ id ≤ 65535
      ∧ ∃ k, id = idAfter^[k] next ∧ ∀ j, j < k → idAfter^[j] next ∈ held

/-- R102, R109, R111: PICK_WRITE, when the read end has been read and an entry is free, gives the next free id to a
record of the request's episode and of the pick computed from its window; the next pick id moves on. A record created
PROVISIONAL stands in the table (R123); one created FINAL stays or is freed at once by R112, step 3, and is as computed
where it stays. -/
def Obligations.PickWriteCreatesRecord : Prop :=
  ∀ (dt : Nat) (s : State) (w : Work) (q : RefineRequest) (rest : List RefineRequest),
    s.refiner.work = some w → w.readEnd < w.next → s.refiner.queues.get w.sensor = q :: rest →
    s.table.records.length < 64 → 1 ≤ s.table.nextId → s.table.nextId ≤ 65535 →
    let id := firstFree (s.table.records.map (·.id)) (Config.tableCapacity + 1) s.table.nextId
    let pick := pickMath w.group q.channel (windowOf w q.trigger)
    ∃ t, Runs (.pickWrite dt) s t
      ∧ t.table.nextId = idAfter id
      ∧ (∀ r ∈ t.table.records, r.id = id → r.sensor = w.sensor ∧ r.channel = q.channel ∧ r.trigger = q.trigger
          ∧ r.onset = pick.onset ∧ r.phase = pick.phase ∧ r.qualityClass = pick.qualityClass
          ∧ r.sharpness = pick.sharpness ∧ r.vertical = pick.vertical ∧ r.polarity = pick.polarity
          ∧ r.sector = pick.sector ∧ r.amplitude = pick.amplitude
          ∧ (q.info = none → r.state = .provisional ∧ r.ending = none)
          ∧ ∀ info, q.info = some info → r.state = .final ∧ r.peak = info.peak
              ∧ r.ending = some { endSample := info.endSample, duration := info.endSample - pick.onset, cause := info.cause })
      ∧ (q.info = none → ∃ r ∈ t.table.records, r.id = id)
      ∧ (∀ r ∈ t.table.records, r.id ≠ id → ∃ r' ∈ s.table.records, r'.id = r.id ∧ r.onset = r'.onset
          ∧ r.trigger = r'.trigger ∧ r.state = r'.state)
      ∧ t.detector = s.detector ∧ t.intake = s.intake ∧ t.chains = s.chains ∧ t.ports = s.ports
      ∧ t.time = (s.elapse dt).time ∧ ∀ sen, (t.ring.get sen).slots = (s.ring.get sen).slots

/-- R130 to R138, R140 to R142, R151 to R153: how picks are grouped. Without an onset time, of too low a class or of
phase U a new pick is SINGLE. A P pick that no group admits opens one, which holds it PENDING, is declared at once where
one P is enough, or expires at once where its window is complete; with 8 live groups the pick is SINGLE with GROUP_FULL
and is counted. A P pick joins the oldest group that admits it and an S pick the latest; the P that reaches M declares
the group: its members are GROUPED and offered in onset order before it. A test of a group whose window is incomplete
changes nothing; an OPEN group whose window is complete expires, its members SINGLE, and a DECLARED one closes. A new
pick of another handling is offered by the mode in force. -/
def Obligations.NewPicksAreGrouped : Prop :=
  (∀ (s : State) (id : Nat) (r : PickRecord), s.findPick id = some r →
    let regroup := fun g => State.setGrouping s id g
    let now := s.grouper.settings.active
    (r.onsetLocal = none ∨ now.qmax < r.qualityClass ∨ r.phase = .u → s.groupPick id = (regroup .single, false))
    ∧ ∀ t, r.onsetLocal = some t → r.qualityClass ≤ now.qmax → r.phase = .p →
      (∀ g ∈ s.grouper.groups, g.state = .closed ∨ (∃ m ∈ g.members, m.sensor = r.sensor ∧ m.phase = .p)
        ∨ t < g.firstLocal ∨ g.firstLocal + g.pWindow * 1000 < t) →
      (8 ≤ s.grouper.groups.length → s.groupPick id = ({ s with
          grouper := { s.grouper with fullCount := min (s.grouper.fullCount + 1) 65535 },
          table := { s.table with records := s.table.records.map fun x =>
            if x.id = id then { x with grouping := .single, flags := { x.flags with groupFull := true } } else x } },
          false))
      ∧ (s.grouper.groups.length < 8 →
          ∃ g : GroupRecord, g.id ∉ s.grouper.groups.map (·.id)
            ∧ g = { id := g.id, state := .opened, firstLocal := t, firstAbs := r.onsetAbs, count := now.count,
                    pWindow := now.pWindow, sWindow := now.sWindow, members := [⟨id, r.sensor, .p⟩], pCount := 1,
                    sCount := 0, declareTime := none }
            ∧ (2 ≤ now.count → s.windowComplete (t + now.pWindow * 1000) = false →
                s.groupPick id = ({ s with
                  grouper := { s.grouper with groups := s.grouper.groups ++ [g], nextId := idAfter g.id },
                  table := (regroup (.pending g.id)).table }, false))
            ∧ (2 ≤ now.count → s.windowComplete (t + now.pWindow * 1000) = true →
                s.groupPick id = ({ s with
                  grouper := { s.grouper with
                    nextId := idAfter g.id, expired := min (s.grouper.expired + 1) 65535 },
                  table := (regroup .single).table }, false))
            ∧ (now.count = 1 → s.windowComplete (t + max now.pWindow now.sWindow * 1000) = false →
                ∃ u, s.groupPick id = (u, true)
                  ∧ u = { s with grouper := u.grouper, table := u.table, offers := u.offers, attention := u.attention }
                  ∧ u.grouper = { s.grouper with
                      groups := s.grouper.groups ++
                        [{ g with state := .declared, declareTime := some s.time.localTime }]
                      nextId := idAfter g.id }
                  ∧ u.table = { s.table with records := s.table.records.map fun x =>
                      if x.id = id then { x with
                        grouping := .grouped g.id, delivery := nowWaiting s (fun _ => true) x.delivery } else x }
                  ∧ ListsGain s u fun _ => [.pickNew id, .groupDeclared g.id])))
  ∧ (∀ (s : State) (id t : Nat) (r : PickRecord) (g : GroupRecord) (older newer : List GroupRecord) (ph : MemberPhase),
    s.findPick id = some r → r.onsetLocal = some t → r.qualityClass ≤ s.grouper.settings.active.qmax →
    s.grouper.groups = older ++ g :: newer → (s.grouper.groups.map (·.id)).Nodup → Admits g r.sensor ph t →
    (match ph with
      | .p => r.phase = .p ∧ ∀ x ∈ older, ¬ Admits x r.sensor .p t
      | .s => r.phase = .s ∧ (∀ x ∈ older, Admits x r.sensor .s t → x.firstLocal ≤ g.firstLocal)
          ∧ ∀ x ∈ newer, Admits x r.sensor .s t → x.firstLocal < g.firstLocal) →
    let joined := { g with
      members := g.members ++ [⟨id, r.sensor, ph⟩]
      pCount := if ph = .p then g.pCount + 1 else g.pCount
      sCount := if ph = .s then g.sCount + 1 else g.sCount }
    let pEnd := g.firstLocal + g.pWindow * 1000
    let closeEnd := g.firstLocal + max g.pWindow g.sWindow * 1000
    (g.state = .declared ∨ ph = .s ∨ g.pCount + 1 < g.count →
      s.windowComplete (if g.state = .opened then pEnd else closeEnd) = false →
      s.groupPick id = ({ s with
        grouper := { s.grouper with groups := older ++ joined :: newer },
        table := (State.setGrouping s id (if g.state = .opened then .pending g.id else .grouped g.id)).table }, false))
    ∧ (g.state = .opened → ph = .p → g.count ≤ g.pCount + 1 → s.windowComplete closeEnd = false →
      NoticeInv s → (s.table.records.map (·.id)).Nodup → r.grouping = .single →
      let ids := g.members.map (·.pick) ++ [id]
      ∃ (u : State) (order : List Nat), s.groupPick id = (u, true)
        ∧ u = { s with grouper := u.grouper, table := u.table, offers := u.offers, attention := u.attention }
        ∧ u.grouper = { s.grouper with
            groups := older ++ { joined with state := .declared, declareTime := some s.time.localTime } :: newer }
        ∧ u.table = { s.table with records := s.table.records.map fun x =>
            if x.id ∈ ids then { x with
              grouping := .grouped g.id, delivery := nowWaiting s (fun _ => true) x.delivery } else x }
        ∧ order.Perm ids
        ∧ order.Pairwise (fun a b => s.onsetTime a < s.onsetTime b
            ∨ s.onsetTime a = s.onsetTime b ∧ ids.idxOf a < ids.idxOf b)
        ∧ ListsGain s u fun _ => order.map .pickNew ++ [.groupDeclared g.id]))
  ∧ (∀ s : State, (∀ g ∈ s.grouper.groups, (g.state = .opened → s.windowComplete (g.firstLocal + g.pWindow * 1000) = false)
      ∧ (g.state = .declared → s.windowComplete (g.firstLocal + max g.pWindow g.sWindow * 1000) = false)) →
    s.testGroups = s)
  ∧ (∀ (s : State) (g : GroupRecord), NoticeInv s → (s.table.records.map (·.id)).Nodup →
    s.findGroup g.id = some g →
    let t := s.testGroup none g.id
    let ids := g.members.map (·.pick)
    (g.state = .opened → s.windowComplete (g.firstLocal + g.pWindow * 1000) = true →
      t = { s with grouper := t.grouper, table := t.table, offers := t.offers, attention := t.attention }
        ∧ t.grouper = { s.grouper with
            groups := s.grouper.groups.filter fun x => x.id ≠ g.id
            expired := min (s.grouper.expired + 1) 65535 }
        ∧ t.table = { s.table with
            records := (s.table.records.map fun x => if x.id ∈ ids then { x with
                grouping := .single, delivery := nowWaiting s (fun m => decide (m = .all)) x.delivery } else x).filter
              fun x => ¬ (x.id ∈ ids ∧ x.state ≠ .provisional ∧ (s.offers.get .a).mode ≠ some .all
                ∧ (s.offers.get .b).mode ≠ some .all) }
        ∧ ListsGain s t fun m => if m = .all then ids.map .pickNew else [])
    ∧ (g.state = .declared → s.windowComplete (g.firstLocal + max g.pWindow g.sWindow * 1000) = true →
      t = { s with grouper := t.grouper, table := t.table, offers := t.offers, attention := t.attention }
        ∧ t.grouper = { s.grouper with
            groups := if s.attached .a = true ∨ s.attached .b = true
              then s.grouper.groups.map fun x => if x.id = g.id then { x with state := .closed } else x
              else s.grouper.groups.filter fun x => x.id ≠ g.id }
        ∧ (∀ p, t.offers.get p = { s.offers.get p with
            notices := if s.attached p = false then s.notices p
              else if .groupDeclared g.id ∈ s.notices p then
                (s.notices p).map fun n => if n = .groupDeclared g.id then .groupClosed g.id else n
              else s.notices p ++ [.groupClosed g.id] })
        ∧ t.table = { s.table with records := t.table.records } ∧ t.table.records.Sublist s.table.records
        ∧ ∀ x, x ∈ t.table.records ↔ x ∈ s.table.records ∧ ¬ (x.id ∈ ids ∧ Unheld s g.id x)))
  ∧ ∀ (s : State) (id : Nat) (r : PickRecord), s.findPick id = some r →
    let offered := fun m : OfferMode => match r.grouping with
      | .pending _ => false
      | .grouped _ => true
      | .single => decide (m = .all)
    let t := s.offerNew id
    t = { s with table := t.table, offers := t.offers, attention := t.attention }
      ∧ ListsGain s t (fun m => if offered m = true then [.pickNew id] else [])
      ∧ t.table = { s.table with records := s.table.records.map fun x =>
          if x.id = id then { x with delivery := nowWaiting s offered x.delivery } else x }

/-- R184: the reader that a grant takes, by the ring read policy and the requests that stand. -/
def Obligations.RingReadPolicyChoosesReader : Prop :=
  ∀ s : State,
    (s.arbiter.policy = .refinerFirst →
      (s.refinerRequests = true → s.grantee = some .refiner)
      ∧ (s.refinerRequests = false →
          (s.chainRequests .a = true → s.chainRequests .b = true → s.grantee = some (.chain s.arbiter.lastChain.other))
          ∧ (∀ p, s.chainRequests p = true → s.chainRequests p.other = false → s.grantee = some (.chain p))
          ∧ (s.chainRequests .a = false → s.chainRequests .b = false → s.grantee = none)))
    ∧ (s.arbiter.policy = .equal → ∀ first second third,
        (first, second, third) ∈ ([(.refiner, .chain .a, .chain .b), (.chain .a, .chain .b, .refiner),
          (.chain .b, .refiner, .chain .a)] : List (Reader × Reader × Reader)) →
        s.arbiter.lastGrant = third →
        s.grantee = if s.requests first then some first else if s.requests second then some second
          else if s.requests third then some third else none)

/-- R172, R173, R183: a grant to a chain reads its next block: as many sets as the five limits allow, at consecutive
sample numbers and with what the ring answers for each, behind what the buffer holds. The arbiter records the grant;
nothing but the ring's map, the chain and its port's attention changes. -/
def Obligations.GrantReadsChainBlock : Prop :=
  ∀ (dt : Nat) (s : State) (p : Port) (plan : ElementPlan) (run : ElementRun) (newest : Nat),
    s.arbiter.path = .free → s.grantee = some (.chain p) →
    (s.chain p).plan = some plan → (s.chain p).run = some run → (s.ring.get plan.sensor).newest = some newest →
    let sets := s.pageSize.active.sets
    let size := min (min 128 (plan.length - run.progress))
      (min (512 - (s.chain p).buffer.length) (min (newest + 1 - run.next) (sets - run.next % sets)))
    ∃ t, Runs (.ringReadGrant dt) s t
      ∧ t = { s.elapse dt with ring := t.ring, chains := t.chains, arbiter := t.arbiter, attention := t.attention }
      ∧ t.arbiter = { s.arbiter with lastGrant := .chain p, lastChain := p }
      ∧ 1 ≤ size
      ∧ (t.chain p).buffer.length = (s.chain p).buffer.length + size
      ∧ (t.chain p).buffer.take (s.chain p).buffer.length = (s.chain p).buffer
      ∧ (∀ i, i < size → ∃ b, (t.chain p).buffer[(s.chain p).buffer.length + i]? = some b
          ∧ b.sample = run.next + i ∧ b.sensor = plan.sensor ∧ b.mask = plan.mask
          ∧ b.content = match (s.ring.get plan.sensor).answer (run.next + i) with
            | .found x => some x
            | _ => none)
      ∧ t.chain p.other = s.chain p.other
      ∧ (t.attention.get p.other = s.attention.get p.other
          ∨ t.attention.get p.other = (s.attention.get p.other).becomePending (s.time.localTime + dt) .mapFault)
      ∧ ∀ sen, (t.ring.get sen).slots = (s.ring.get sen).slots ∧ (t.ring.get sen).newest = (s.ring.get sen).newest

/-- R91, R183: a grant to the refiner reads its next block, here of sets that stand in the ring. -/
def Obligations.GrantReadsRefinerBlock : Prop :=
  ∀ (dt : Nat) (s : State) (w : Work) (q : RefineRequest) (rest : List RefineRequest),
    s.arbiter.path = .free → s.grantee = some .refiner → s.refiner.work = some w →
    s.refiner.queues.get w.sensor = q :: rest →
    let size := min 128 (w.readEnd + 1 - w.next)
    (∀ i, i < size → ∃ x, (s.ring.get w.sensor).answer (w.next + i) = .found x) →
    ∃ t w', Runs (.ringReadGrant dt) s t ∧ t.refiner.work = some w'
      ∧ w' = { w with next := w.next + size, read := w'.read }
      ∧ w'.read.length = w.read.length + size
      ∧ (∀ i, i < size → ∃ x, (s.ring.get w.sensor).answer (w.next + i) = .found x
          ∧ w'.read[w.read.length + i]? = some (w.next + i, some x))
      ∧ t = { s.elapse dt with refiner := t.refiner, arbiter := t.arbiter }
      ∧ t.arbiter = { s.arbiter with lastGrant := .refiner }
      ∧ t.refiner.queues = s.refiner.queues

/-- R171, R174, R179: a wait of 60,000,000 µs terminates its chain with TIMEOUT and raises EXCERPT_FAULT at its own port
alone; elements, place and buffer stay. -/
def Obligations.ChainWaitEndsInTimeout : Prop :=
  ∀ (dt : Nat) (s : State) (p : Port) (kind : WaitKind) (start : Nat),
    (s.chain p).state = .waiting → (s.chain p).wait = some (kind, start) → start + 60000000 ≤ s.time.localTime + dt →
    ∃ t, Runs (match kind with
        | .start => .startWaitTimeout dt p
        | .data => .dataWaitTimeout dt p) s t
      ∧ t = { s.elapse dt with chains := t.chains, attention := t.attention }
      ∧ (t.chain p).state = .faulted ∧ (t.chain p).lastStatus = .timeout ∧ (t.chain p).wait = none
      ∧ (t.chain p).elements = (s.chain p).elements ∧ (t.chain p).current = (s.chain p).current
      ∧ (t.chain p).buffer = (s.chain p).buffer
      ∧ t.chain p.other = s.chain p.other ∧ Pends t p .excerptFault
      ∧ t.attention.get p.other = s.attention.get p.other

/-! ### Station ports -/

/-- R187 to R189, R191: a COMMAND transaction that finds the slot IDLE and carries a command of Table 11-4 with its
arguments makes the slot BUSY with it, from an ATTACHED port, or from a DETACHED one for ATTACH and STATUS. The part
sends its status byte and zeros, and a running silence timer restarts. -/
def Obligations.CommandTransactionFillsSlot : Prop :=
  ∀ (dt : Nat) (p : Port) (r : Request) (s : State), (s.ports.get p).slot = .idle → r.wf = true →
    (∀ area, r = .apply area → (groupOfArea area).isSome = true) →
    s.attached p = true ∨ r = .attach ∨ r = .status →
    Runs (.commandTransaction dt p r.message) s { s.elapse dt with
      ports := s.ports.set p { s.ports.get p with
        slot := .busy r
        sent := s.statusByte p :: List.replicate r.message.length 0#8
        timer := (s.ports.get p).timer.map fun _ => s.time.localTime + dt } }

/-- R188, R189: a COMMAND transaction that finds the slot BUSY or DONE sets the reject mark alone; a malformed message is
answered BAD_ARG with its code byte, or 0x00 where there is none; and from a DETACHED port a well-formed message of
another command than ATTACH and STATUS is answered NOT_ATTACHED. A command with another number of argument bytes than
Table 11-4 gives it is answered BAD_ARG by its owner, with the chain state for START_CHAIN (R166, 11.2); that this
answer stands in the transaction's own step is the model's choice (log 4). -/
def Obligations.CommandTransactionRefuses : Prop :=
  ∀ (dt : Nat) (p : Port) (message : List Byte) (s : State), ∃ t,
    Runs (.commandTransaction dt p message) s t
      ∧ t = { s.elapse dt with ports := t.ports }
      ∧ t.ports.get p.other = s.ports.get p.other
      ∧ ((s.ports.get p).slot ≠ .idle →
          (t.ports.get p).slot = (s.ports.get p).slot ∧ (t.ports.get p).reject = true)
      ∧ ((s.ports.get p).slot = .idle → (t.ports.get p).reject = (s.ports.get p).reject)
      ∧ ((s.ports.get p).slot = .idle →
          (message.length < 2 ∨ (∀ code len args, message = code :: len :: args →
            code.toNat = 0 ∨ 18 < code.toNat ∨ args.length ≠ len.toNat
              ∨ code = 0x0C#8 ∧ ∀ count rest, args = count :: rest → args.length ≠ 1 + 16 * count.toNat)) →
          (t.ports.get p).slot = .done { code := message.headD 0#8, result := .badArg, data := [] })
      ∧ (∀ r : Request, message = r.message → r.wf = true → (s.ports.get p).slot = .idle → s.attached p = false →
          r ≠ .attach → r ≠ .status →
          (t.ports.get p).slot = .done { code := r.code, result := .notAttached, data := [] })
      ∧ ∀ (code len : Byte) (args : List Byte) (size : Nat), message = code :: len :: args →
          args.length = len.toNat → (s.ports.get p).slot = .idle →
          s.attached p = true ∨ code = 0x01#8 ∨ code = 0x03#8 →
          (code.toNat, size) ∈ ([(0x01, 0), (0x02, 0), (0x03, 0), (0x04, 0), (0x05, 2), (0x06, 2), (0x07, 2), (0x08, 6),
            (0x09, 2), (0x0A, 1), (0x0B, 0), (0x0D, 0), (0x0E, 0), (0x0F, 0), (0x10, 1), (0x11, 2), (0x12, 0)] :
            List (Nat × Nat)) →
          args.length ≠ size →
          (t.ports.get p).slot = .done
            { code := code, result := .badArg
              data := if code = 0x0D#8 then [BitVec.ofNat 8 (s.chain p).state.num] else [] }

/-- R190: a RESPONSE transaction that clocks out the whole held response collects it and clears the reject mark; a
shorter one leaves it held; one that finds no response is sent the status byte alone. R187, R191: every transaction, an
ignored one too, restarts a running silence timer; what the part sends in an ignored one beyond the status byte is the
model's choice (log 21). -/
def Obligations.ResponseTransactionCollects : Prop :=
  ∀ (dt : Nat) (p : Port) (clocked : Nat) (bytes : List Byte) (s : State),
    let timer := (s.ports.get p).timer.map fun _ => s.time.localTime + dt
    (∀ r, (s.ports.get p).slot = .done r →
      (4 + r.data.length ≤ clocked →
        Runs (.responseTransaction dt p clocked) s { s.elapse dt with
          ports := s.ports.set p { s.ports.get p with
            slot := .idle, reject := false, timer := timer, sent := s.statusByte p :: r.message } })
      ∧ (clocked < 4 + r.data.length →
        Runs (.responseTransaction dt p clocked) s { s.elapse dt with
          ports := s.ports.set p { s.ports.get p with
            timer := timer, sent := s.statusByte p :: r.message.take clocked } }))
    ∧ ((∀ r, (s.ports.get p).slot ≠ .done r) →
        Runs (.responseTransaction dt p clocked) s { s.elapse dt with
          ports := s.ports.set p { s.ports.get p with timer := timer, sent := [s.statusByte p] } })
    ∧ Runs (.ignoredTransaction dt p bytes) s { s.elapse dt with
        ports := s.ports.set p { s.ports.get p with
          timer := timer, sent := if bytes = [] then [] else [s.statusByte p] } }

/-- R160, R178, R191, R200: what a detach leaves of a port, whether DETACH or the silence timer brings it. -/
def Obligations.DetachLeavesNothingWaiting : Prop :=
  ∀ (dt : Nat) (p : Port) (s : State) (i : Instr),
    (i = .detach dt p ∧ Holds s p .detach ∧ s.attached p = true
      ∨ i = .silenceTimeout dt p ∧ ∃ start, (s.ports.get p).timer = some start
          ∧ start + (s.ports.get p).timeout * 1000000 ≤ s.time.localTime + dt) →
    ∃ t, Runs i s t
      ∧ t.attached p = false ∧ t.notices p = [] ∧ (t.offers.get p).setting = (s.offers.get p).setting
      ∧ t.chain p = Chain.reset ∧ t.chain p.other = s.chain p.other
      ∧ (∀ r ∈ t.table.records, r.delivery.get p = .none)
      ∧ (t.attention.get p).pending = 0#10 ∧ (t.attention.get p).changedBy = ⟨false, false⟩
      ∧ (t.attention.get p).pulse = none ∧ (t.attention.get p).mask = (s.attention.get p).mask
      ∧ (t.ports.get p).timer = none ∧ (t.ports.get p).reject = (s.ports.get p).reject
      ∧ (t.ports.get p).timeout = (s.ports.get p).timeout ∧ t.ports.get p.other = s.ports.get p.other
      ∧ (t.offers.get p.other).mode = (s.offers.get p.other).mode
      ∧ (i = .detach dt p → (t.ports.get p).slot = .done { code := 0x02#8, result := .ok, data := [] })
      ∧ (i = .silenceTimeout dt p → (t.ports.get p).slot = (s.ports.get p).slot)
      ∧ t.ring = s.ring ∧ t.detector = s.detector ∧ t.intake = s.intake

/-! ### Attention -/

/-- R197: STATUS answers the attention record and the part state; in ON_READ mode it then clears every latched class it
reported, and the changed-by set with SETTINGS_CHANGED. -/
def Obligations.StatusReportsAndClears : Prop :=
  ∀ (dt : Nat) (p : Port) (s : State), Holds s p .status →
    let r := s.attention.get p
    ∃ t, Runs (.status dt p) s t
      ∧ t = { s.elapse dt with ports := t.ports, attention := t.attention }
      ∧ Answered s t p 0x03#8 .ok
          (bytesBE 2 r.pending.toNat ++ bytesBE 2 r.mask.toNat
            ++ [if r.lineMode = .level then 0#8 else 1#8, if r.clearMode = .explicit then 0#8 else 1#8,
              BitVec.ofNat 8 (r.changedBy.a.toNat + 2 * r.changedBy.b.toNat),
              if s.attached p then 1#8 else 0#8, BitVec.ofNat 8 (s.notices p).length,
              if s.frozen then 1#8 else 0#8]
            ++ bytesBE 2 s.softResets)
      ∧ t.attention.get p.other = s.attention.get p.other
      ∧ (r.clearMode = .explicit → t.attention.get p = r)
      ∧ (r.clearMode = .onRead → t.attention.get p = { r with
          pending := r.pending &&& 1#10
          changedBy := if Pends s p .settingsChanged then ⟨false, false⟩ else r.changedBy })

/-- R198, R209: ATTN_DONE clears the latched classes it names, with the changed-by set for SETTINGS_CHANGED, and answers
what stays pending; a set that names an unknown class is BAD_ARG. A pulse ends after 20 µs. (That an ATTENTION_PULSE_END
row whose time has not come passes time alone is the model's choice, log 2; that naming SETTINGS_CHANGED empties the
changed-by set also when the class is not pending is the model's reading, log 43.) -/
def Obligations.AttentionIsClearedAsNamed : Prop :=
  (∀ (dt : Nat) (p : Port) (classes : BitVec 16) (s : State), Holds s p (.attnDone classes) →
    ∃ t, Runs (.attnDone dt p classes) s t
      ∧ t = { s.elapse dt with ports := t.ports, attention := t.attention }
      ∧ t.attention.get p.other = s.attention.get p.other
      ∧ (classes.toNat < 1024 →
          t.attention.get p = { s.attention.get p with
            pending := (s.attention.get p).pending &&& (~~~ classes.setWidth 10 ||| 1#10)
            changedBy := if classes.getLsbD 9 then ⟨false, false⟩ else (s.attention.get p).changedBy }
          ∧ Answered s t p 0x11#8 .ok
              (bytesBE 2 ((s.attention.get p).pending &&& (~~~ classes.setWidth 10 ||| 1#10)).toNat))
      ∧ (1024 ≤ classes.toNat → t.attention = s.attention ∧ Answered s t p 0x11#8 .badArg []))
  ∧ (∀ (dt : Nat) (p : Port) (s : State) (start : Nat), (s.attention.get p).pulse = some start →
    Runs (.attentionPulseEnd dt p) s { s.elapse dt with
      attention := s.attention.set p { s.attention.get p with
        pulse := if start + 20 ≤ s.time.localTime + dt then none else some start } })
  ∧ ∀ (s : State) (p : Port), (s.attention.get p).lineMode = .level →
      (s.attentionLine p = true ↔ ∃ c : AttnClass, Pends s p c ∧ ClassSet.has (s.attention.get p).mask c = false)

/-! ### Offer lists and the catalogue -/

/-- R149, R159, R191: ATTACH of a DETACHED port with an empty list catches up in creation and opening order, sets the
delivery fields of what it offers to WAITING, with every record left standing, and starts the silence timer; of an
ATTACHED port it is ALREADY. -/
def Obligations.AttachCatchesUp : Prop :=
  ∀ (dt : Nat) (p : Port) (s : State), Holds s p .attach →
    (s.attached p = true → Runs (.attach dt p) s { s.elapse dt with
      ports := s.ports.set p { s.ports.get p with
        slot := .done { code := 0x01#8, result := .already, data := [] } } })
    ∧ (s.attached p = false → s.notices p = [] →
      let m := (s.offers.get p).setting
      let offered := s.table.records.filter fun r => decide (r.state ≠ .retracted) && m.offers r.grouping
      let declared := s.grouper.groups.filter fun g => g.state = .declared
      ∃ t, Runs (.attach dt p) s t
        ∧ t = { s.elapse dt with
            ports := t.ports, offers := t.offers, attention := t.attention, table := t.table }
        ∧ t.offers.get p = { s.offers.get p with
            mode := some m
            notices := offered.map (fun r => .pickNew r.id) ++ declared.map fun g => .groupDeclared g.id }
        ∧ t.offers.get p.other = s.offers.get p.other
        ∧ (∀ r ∈ offered, ∀ r' ∈ t.table.records, r'.id = r.id → r'.delivery.get p = .waiting)
        ∧ t.table = { s.table with
            records := s.table.records.map fun r =>
              if r.id ∈ offered.map (·.id) then { r with delivery := r.delivery.set p .waiting } else r }
        ∧ t.ports = s.ports.set p { s.ports.get p with
            slot := .done
              { code := 0x01#8, result := .ok, data := bytesBE 1 (offered.length + declared.length) },
            timer := if (s.ports.get p).timeout = 0 then none else some (s.time.localTime + dt) }
        ∧ t.table.nextId = s.table.nextId)

/-- R121, R156: TAKE answers the oldest notice with the number left and a snapshot of its subject as it stands, and
removes it; OFFER stops being pending with the last one; an empty list is EMPTY with a count of 0. The list after the
take is stated where no refinement request is READY, so that no grant decision follows the take. -/
def Obligations.TakeAnswersOldestNotice : Prop :=
  ∀ (dt : Nat) (p : Port) (s : State), Holds s p .take →
    (s.notices p = [] → ∃ t, Runs (.take dt p) s t ∧ t = { s.elapse dt with ports := t.ports }
      ∧ Answered s t p 0x04#8 .empty [0#8])
    ∧ ∀ n rest, s.notices p = n :: rest → ∃ t, Runs (.take dt p) s t
      ∧ Answered s t p 0x04#8 .ok
          ([BitVec.ofNat 8 n.kindNum, BitVec.ofNat 8 n.retractingPort, BitVec.ofNat 8 rest.length] ++ s.subjectSnapshot n)
      ∧ (s.candidates = [] → t.notices p = rest ∧ t.notices p.other = s.notices p.other
          ∧ t.attention.get p.other = s.attention.get p.other
          ∧ (rest = [] → ¬ Pends t p .offer)
          ∧ (∀ id, n = .pickNew id ∨ n = .pickFinal id ∨ (∃ q, n = .pickRetracted id q) →
              ∀ x, s.findPick id = some x → ∀ r ∈ t.table.records, r.id = id →
                r.delivery.get p = if x.state = .provisional then .takenProvisional else .takenFinal))
      ∧ t.chains = s.chains ∧ t.ring = s.ring ∧ t.intake = s.intake ∧ t.detector = s.detector

/-- R119, R158: READ_PICK and READ_GROUP answer a snapshot or say that none is live, and change nothing. -/
def Obligations.SnapshotsAreReadWithoutChange : Prop :=
  ∀ (dt : Nat) (p : Port) (id : BitVec 16) (s : State),
    (Holds s p (.readPick id) → ∃ t, Runs (.readPick dt p id) s t ∧ t = { s.elapse dt with ports := t.ports }
      ∧ (∀ r, s.findPick id.toNat = some r → Answered s t p 0x05#8 .ok r.snapshot ∧ r.snapshot.length = 66)
      ∧ ((∀ r ∈ s.table.records, r.id ≠ id.toNat) → Answered s t p 0x05#8 .noSuchPick []))
    ∧ (Holds s p (.readGroup id) → ∃ t, Runs (.readGroup dt p id) s t ∧ t = { s.elapse dt with ports := t.ports }
      ∧ (∀ g, s.findGroup id.toNat = some g → Answered s t p 0x06#8 .ok g.snapshot
          ∧ g.snapshot.length = 36 + 4 * g.members.length)
      ∧ ((∀ g ∈ s.grouper.groups, g.id ≠ id.toNat) → Answered s t p 0x06#8 .noSuchGroup []))

/-- R114, R116, R117, R143, R154: RETRACT makes a live record RETRACTED by its port and SINGLE, and answers its snapshot
from before the grouper took it; a RETRACTED one is ALREADY with its snapshot, and an id that is not live NO_SUCH_PICK.
The retraction is merged into each attached port's list, and the record stands while one of them names it. (The lists
are stated where no refinement request is READY, so that no grant decision follows.) Detrigger information makes a
PROVISIONAL record FINAL, merges that into the lists, and is dropped for any other. -/
def Obligations.RetractWithdrawsRecord : Prop :=
  (∀ (dt : Nat) (p : Port) (id : BitVec 16) (s : State), Holds s p (.retract id) →
    (∀ r, s.findPick id.toNat = some r → r.state ≠ .retracted → (s.table.records.map (·.id)).Nodup →
      ∃ t, Runs (.retract dt p id) s t
        ∧ Answered s t p 0x07#8 .ok (PickRecord.snapshot { r with state := .retracted, retractedBy := some p })
        ∧ (∀ r' ∈ t.table.records, r'.id = id.toNat →
            r'.state = .retracted ∧ r'.retractedBy = some p ∧ r'.grouping = .single ∧ r'.ending = r.ending)
        ∧ t.table.nextId = s.table.nextId
        ∧ t.chains = s.chains ∧ t.ring = s.ring ∧ t.intake = s.intake ∧ t.detector = s.detector
        ∧ (s.candidates = [] →
          (∀ q, s.attached q = false → t.offers.get q = s.offers.get q)
          ∧ (∀ q, s.attached q = true → ((s.notices q).filter (Notice.namesPick id.toNat)).length ≤ 1 →
            (.pickNew id.toNat ∈ s.notices q → t.notices q = (s.notices q).filter fun n => n ≠ .pickNew id.toNat)
            ∧ (.pickFinal id.toNat ∈ s.notices q → q = p →
                t.notices q = (s.notices q).filter fun n => n ≠ .pickFinal id.toNat)
            ∧ (.pickFinal id.toNat ∈ s.notices q → q ≠ p → t.notices q = (s.notices q).map fun n =>
                if n = .pickFinal id.toNat then .pickRetracted id.toNat p else n)
            ∧ ((∀ n ∈ s.notices q, n.namesPick id.toNat = false) →
                t.notices q = if q ≠ p ∧ (r.delivery.get q = .takenProvisional ∨ r.delivery.get q = .takenFinal)
                  then s.notices q ++ [.pickRetracted id.toNat p] else s.notices q))
          ∧ ((∃ q, t.attached q = true ∧ ∃ n ∈ t.notices q, n.namesPick id.toNat = true) →
            ∃ r' ∈ t.table.records, r'.id = id.toNat
              ∧ ∀ q, r'.delivery.get q = if s.attached q = true ∧ r.delivery.get q = .waiting
                  ∧ s.pickNotice q id.toNat = some (.pickNew id.toNat) then .none else r.delivery.get q)))
    ∧ (∀ r, s.findPick id.toNat = some r → r.state = .retracted →
      ∃ t, Runs (.retract dt p id) s t ∧ t = { s.elapse dt with ports := t.ports }
        ∧ Answered s t p 0x07#8 .already r.snapshot)
    ∧ ((∀ r ∈ s.table.records, r.id ≠ id.toNat) →
      ∃ t, Runs (.retract dt p id) s t ∧ t = { s.elapse dt with ports := t.ports }
        ∧ Answered s t p 0x07#8 .noSuchPick []))
  ∧ ∀ (s : State) (sen : Sensor) (ch : Channel) (trigger : Nat) (info : EndInfo),
    let t := s.finalize sen ch trigger info
    ((∀ x ∈ s.table.records, x.sensor = sen → x.channel = ch → x.trigger = trigger → x.state ≠ .provisional) → t = s)
    ∧ ∀ r, s.findEpisode sen ch trigger = some r → r.state = .provisional → (s.table.records.map (·.id)).Nodup →
      let news := fun q => s.attached q = true ∧ (∀ n ∈ s.notices q, n.namesPick r.id = false)
        ∧ r.delivery.get q = .takenProvisional
      let ended := { r with
        state := .final
        peak := info.peak
        ending := some { endSample := info.endSample, duration := info.endSample - r.onset, cause := info.cause } }
      t = { s with table := t.table, offers := t.offers, attention := t.attention }
        ∧ (∀ q, news q → t.offers.get q = { s.offers.get q with notices := s.notices q ++ [.pickFinal r.id] })
        ∧ (∀ q, ¬ news q → t.offers.get q = s.offers.get q)
        ∧ ((∃ q, news q ∨ s.attached q = true ∧ ∃ n ∈ s.notices q, n.namesPick r.id = true) →
            t.table = { s.table with records := s.table.records.map fun x => if x.id = r.id then ended else x })
        ∧ (s.attached .a = false → s.attached .b = false → r.grouping = .single →
            (∀ g ∈ s.grouper.groups, g.state ≠ .closed → ∀ m ∈ g.members, m.pick ≠ r.id) →
            t.table = { s.table with records := s.table.records.filter fun x => x.id ≠ r.id })

/-! ### The Settings Window -/

/-- R69, R83, R129, R201, Tables 4-4, 5-3 and 7-2: SET of a numeric item of a detector, refinement or grouping group
stores the value clamped to its range in the staged copy, leaves the active copy, and answers the value stored. -/
def Obligations.SetClampsIntoStagedCopy : Prop :=
  ∀ (dt : Nat) (p : Port) (v : BitVec 32) (s : State), s.frozen = false →
    (∀ sen ch item lo hi, (item, lo, hi) ∈ ([(.staShift, 1, 8), (.ltaShift, 3, 14), (.onThreshold, 256, 65535),
        (.offThreshold, 128, 65535), (.holdOff, 0, 65535), (.maxTrigger, 100, 65535),
        (.ltaFloor, 1, 4294967295)] : List (ChannelItem × Nat × Nat)) →
      Holds s p (.set (encodeIndex (.detector sen ch item)) v) →
      ∃ t, Runs (.set dt p (encodeIndex (.detector sen ch item)) v) s t
        ∧ t = { s.elapse dt with detector := t.detector, ports := t.ports, attention := t.attention }
        ∧ channelValue ((t.detector.get sen).group.staged.get ch) item = max lo (min hi v.toNat)
        ∧ (∀ ch' item', (ch', item') ≠ (ch, item) → channelValue ((t.detector.get sen).group.staged.get ch') item'
            = channelValue ((s.detector.get sen).group.staged.get ch') item')
        ∧ (t.detector.get sen).group.active = (s.detector.get sen).group.active
        ∧ (t.detector.get sen).channels = (s.detector.get sen).channels
        ∧ (∀ other, other ≠ sen → t.detector.get other = s.detector.get other)
        ∧ Announced s t p
        ∧ Answered s t p 0x08#8 .ok
            (setData (.detector sen ch item) (BitVec.ofNat 32 (max lo (min hi v.toNat)))))
    ∧ (∀ sen item lo hi, (item, lo, hi) ∈ ([(.pre, 64, 1024), (.post, 16, 256), (.pol, 16, 128), (.pFrac, 0, 256),
        (.sFrac, 0, 256), (.polThr, 0, 1048575), (.sectorFloor, 0, 4294967295)] : List (RefinementItem × Nat × Nat)) →
      Holds s p (.set (encodeIndex (.refinement sen item)) v) →
      ∃ t, Runs (.set dt p (encodeIndex (.refinement sen item)) v) s t
        ∧ t = { s.elapse dt with
            refiner := { s.refiner with groups := t.refiner.groups }, ports := t.ports, attention := t.attention }
        ∧ refinementValue (t.refiner.groups.get sen).staged item = max lo (min hi v.toNat)
        ∧ (∀ item', item' ≠ item → refinementValue (t.refiner.groups.get sen).staged item'
            = refinementValue (s.refiner.groups.get sen).staged item')
        ∧ (t.refiner.groups.get sen).active = (s.refiner.groups.get sen).active
        ∧ (∀ other, other ≠ sen → t.refiner.groups.get other = s.refiner.groups.get other)
        ∧ Announced s t p
        ∧ Answered s t p 0x08#8 .ok (setData (.refinement sen item) (BitVec.ofNat 32 (max lo (min hi v.toNat)))))
    ∧ ∀ item lo hi, (item, lo, hi) ∈ ([(.qmax, 0, 3), (.count, 1, 4), (.pWindow, 10, 2000),
        (.sWindow, 500, 60000)] : List (GroupingItem × Nat × Nat)) →
      Holds s p (.set (encodeIndex (.grouping item)) v) →
      ∃ t, Runs (.set dt p (encodeIndex (.grouping item)) v) s t
        ∧ t = { s.elapse dt with
            grouper := { s.grouper with settings := t.grouper.settings }, ports := t.ports, attention := t.attention }
        ∧ groupingValue t.grouper.settings.staged item = max lo (min hi v.toNat)
        ∧ (∀ item', item' ≠ item →
            groupingValue t.grouper.settings.staged item' = groupingValue s.grouper.settings.staged item')
        ∧ t.grouper.settings.active = s.grouper.settings.active
        ∧ Announced s t p
        ∧ Answered s t p 0x08#8 .ok (setData (.grouping item) (BitVec.ofNat 32 (max lo (min hi v.toNat))))

/-- R165, R201, R208, Table 1-3: SET of an item of a correction group or a preset stores in the staged copy. Offsets and
rotation are read as signed, gains, delay, lead and length as unsigned, all clamped; the rate is an enumerated value; a
mask of 0 is Z, N and E. -/
def Obligations.SetReadsSignedAndMaskValues : Prop :=
  ∀ (dt : Nat) (p : Port) (v : BitVec 32) (s : State), s.frozen = false →
    (∀ sen item lo hi x, (item, lo, hi, x) ∈ ([(.offsetZ, -1048576, 1048575, v.toInt),
        (.offsetH1, -1048576, 1048575, v.toInt), (.offsetH2, -1048576, 1048575, v.toInt),
        (.cosine, -16384, 16384, v.toInt), (.sine, -16384, 16384, v.toInt), (.gainZ, 0, 65535, v.toNat),
        (.gainH1, 0, 65535, v.toNat), (.gainH2, 0, 65535, v.toNat), (.delay, 0, 65535, v.toNat)] :
        List (CorrectionItem × Int × Int × Int)) →
      Holds s p (.set (encodeIndex (.correction sen item)) v) →
      ∃ t, Runs (.set dt p (encodeIndex (.correction sen item)) v) s t
        ∧ t = { s.elapse dt with intake := t.intake, ports := t.ports, attention := t.attention }
        ∧ t.intake = s.intake.set sen { s.intake.get sen with correction :=
            { (s.intake.get sen).correction with staged := (t.intake.get sen).correction.staged } }
        ∧ correctionValue (t.intake.get sen).correction.staged item = max lo (min hi x)
        ∧ (∀ item', item' ≠ item → correctionValue (t.intake.get sen).correction.staged item'
            = correctionValue (s.intake.get sen).correction.staged item')
        ∧ Announced s t p
        ∧ Answered s t p 0x08#8 .ok (setData (.correction sen item) (BitVec.ofInt 32 (max lo (min hi x)))))
    ∧ (∀ k item hi, (item, hi) ∈ ([(.lead, 60000), (.length, 4096)] : List (PresetItem × Nat)) →
      Holds s p (.set (encodeIndex (.preset k item)) v) →
      ∃ t, Runs (.set dt p (encodeIndex (.preset k item)) v) s t
        ∧ t = { s.elapse dt with presets := t.presets, ports := t.ports, attention := t.attention }
        ∧ t.presets.active = s.presets.active
        ∧ presetValue (t.presets.staged.get k) item = min hi v.toNat
        ∧ (∀ k' item', (k', item') ≠ (k, item) →
            presetValue (t.presets.staged.get k') item' = presetValue (s.presets.staged.get k') item')
        ∧ Announced s t p
        ∧ Answered s t p 0x08#8 .ok (setData (.preset k item) (BitVec.ofNat 32 (min hi v.toNat))))
    ∧ (∀ sen, Holds s p (.set (encodeIndex (.correction sen .rate)) v) →
      ∃ t, Runs (.set dt p (encodeIndex (.correction sen .rate)) v) s t
        ∧ (∀ rate, ([(0, .off), (1, .r50), (2, .r100), (3, .r200)] : List (Nat × Rate)).lookup v.toNat = some rate →
            (t.intake.get sen).correction.staged = { (s.intake.get sen).correction.staged with rate := rate }
              ∧ (t.intake.get sen).correction.active = (s.intake.get sen).correction.active
              ∧ (t.intake.get sen).state = (s.intake.get sen).state ∧ Announced s t p
              ∧ Answered s t p 0x08#8 .ok (setData (.correction sen .rate) v))
        ∧ (4 ≤ v.toNat → t = { s.elapse dt with ports := t.ports } ∧ Answered s t p 0x08#8 .badArg []))
    ∧ ∀ k : Fin 8, Holds s p (.set (encodeIndex (.preset k .mask)) v) →
      ∃ t, Runs (.set dt p (encodeIndex (.preset k .mask)) v) s t
        ∧ (v = 0#32 → (t.presets.staged.get k).mask = ⟨true, true, true⟩ ∧ Announced s t p
            ∧ Answered s t p 0x08#8 .ok (setData (.preset k .mask) 7#32))
        ∧ (1 ≤ v.toNat → v.toNat < 8 →
            (t.presets.staged.get k).mask = ⟨v.getLsbD 0, v.getLsbD 1, v.getLsbD 2⟩ ∧ Announced s t p
              ∧ Answered s t p 0x08#8 .ok (setData (.preset k .mask) v))
        ∧ (8 ≤ v.toNat → t = { s.elapse dt with ports := t.ports } ∧ Answered s t p 0x08#8 .badArg [])
        ∧ t.presets.active = s.presets.active
        ∧ (t.presets.staged.get k).lead = (s.presets.staged.get k).lead
        ∧ (t.presets.staged.get k).length = (s.presets.staged.get k).length
        ∧ ∀ k', k' ≠ k → t.presets.staged.get k' = s.presets.staged.get k'

/-- R201, R205: a SET of an unknown or a status index is BAD_ARG, and with the freeze mark set a SET of an
index of a detector, refinement or grouping group is FROZEN; nothing is stored. -/
def Obligations.RefusedSetStoresNothing : Prop :=
  ∀ (dt : Nat) (p : Port) (index : BitVec 16) (v : BitVec 32) (s : State), Holds s p (.set index v) →
    ((decodeIndex index = none
        ∨ ∃ i, decodeIndex index = some i ∧ (i.area = 0x78 ∨ (0x70 ≤ i.area ∧ i.area ≤ 0x73))) →
      ∃ t, Runs (.set dt p index v) s t ∧ t = { s.elapse dt with ports := t.ports } ∧ Answered s t p 0x08#8 .badArg [])
    ∧ (s.frozen = true → (∃ sen item, decodeIndex index = some (.refinement sen item))
        ∨ (∃ sen ch item, decodeIndex index = some (.detector sen ch item))
        ∨ (∃ item, decodeIndex index = some (.grouping item)) →
      ∃ t, Runs (.set dt p index v) s t ∧ t = { s.elapse dt with ports := t.ports }
        ∧ Answered s t p 0x08#8 .frozen [])

/-- R83: the staged quality thresholds stay in their order, q0 above q1 and q1 above q2, and a value with room is stored
as it is. -/
def Obligations.QualityThresholdsKeepOrder : Prop :=
  ∀ (dt : Nat) (p : Port) (sen : Sensor) (which : Threshold) (v : BitVec 32) (s : State), s.frozen = false →
    Holds s p (.set (encodeIndex (.refinement sen (.threshold which))) v) →
    (s.refiner.groups.get sen).staged.q2 < (s.refiner.groups.get sen).staged.q1 →
    (s.refiner.groups.get sen).staged.q1 < (s.refiner.groups.get sen).staged.q0 →
    (s.refiner.groups.get sen).staged.q0 ≤ 65535 →
    let old := (s.refiner.groups.get sen).staged
    ∃ t, Runs (.setQualityThreshold dt p sen which v) s t
      ∧ t = { s.elapse dt with
          refiner := { s.refiner with groups := t.refiner.groups }, ports := t.ports, attention := t.attention }
      ∧ (t.refiner.groups.get sen).active = (s.refiner.groups.get sen).active
      ∧ (∀ other, other ≠ sen → t.refiner.groups.get other = s.refiner.groups.get other)
      ∧ (let new := (t.refiner.groups.get sen).staged
        new.q2 < new.q1 ∧ new.q1 < new.q0 ∧ new.q0 ≤ 65535
          ∧ new = match which with
            | .q0 => { old with q0 := max (old.q1 + 1) (min v.toNat 65535) }
            | .q1 => { old with q1 := max (old.q2 + 1) (min v.toNat (old.q0 - 1)) }
            | .q2 => { old with q2 := min v.toNat (old.q1 - 1) })
      ∧ Announced s t p
      ∧ Answered s t p 0x08#8 .ok (setData (.refinement sen (.threshold which))
          (BitVec.ofNat 32 (refinementValue (t.refiner.groups.get sen).staged (.threshold which))))

/-- R13, R51, R85, R183, R201: SET of the part-wide settings that are no group. The page size is stored, staged alone,
as the next larger size; the aging limit is clamped to 0 to 15; the others are enumerated, and a value that is none of
theirs is BAD_ARG. All but intake auto-clear are FROZEN after FREEZE. -/
def Obligations.PartWideSettingsAreStored : Prop :=
  ∀ (dt : Nat) (p : Port) (v : BitVec 32) (s : State),
    (Holds s p (.set (encodeIndex .pageSize) v) → ∃ t, Runs (.setPageSize dt p v) s t
      ∧ (s.frozen = true → t = { s.elapse dt with ports := t.ports } ∧ Answered s t p 0x08#8 .frozen [])
      ∧ (s.frozen = false →
          t = { s.elapse dt with pageSize := t.pageSize, ports := t.ports, attention := t.attention }
            ∧ t.pageSize.active = s.pageSize.active ∧ Announced s t p
            ∧ Answered s t p 0x08#8 .ok (setData .pageSize (BitVec.ofNat 32 t.pageSize.staged.sets))
            ∧ (v.toNat ≤ 128 → t.pageSize.staged = .p128)
            ∧ (128 < v.toNat → v.toNat ≤ 256 → t.pageSize.staged = .p256)
            ∧ (256 < v.toNat → t.pageSize.staged = .p512)))
    ∧ (Holds s p (.set (encodeIndex .agingLimit) v) → ∃ t, Runs (.setAgingLimit dt p v) s t
      ∧ (s.frozen = true → t = { s.elapse dt with ports := t.ports } ∧ Answered s t p 0x08#8 .frozen [])
      ∧ (s.frozen = false →
          t = { s.elapse dt with
            refiner := { s.refiner with aging := min v.toNat 15 }, ports := t.ports, attention := t.attention }
            ∧ Announced s t p ∧ Answered s t p 0x08#8 .ok (setData .agingLimit (BitVec.ofNat 32 (min v.toNat 15)))))
    ∧ (Holds s p (.set (encodeIndex .arbiterMode) v) → ∃ t, Runs (.setArbiterMode dt p v) s t
      ∧ (v.toNat < 2 → s.frozen = true → t = { s.elapse dt with ports := t.ports } ∧ Answered s t p 0x08#8 .frozen [])
      ∧ (2 ≤ v.toNat → t = { s.elapse dt with ports := t.ports } ∧ Answered s t p 0x08#8 .badArg [])
      ∧ ∀ m, ([(0, .rotating), (1, .fixed)] : List (Nat × ArbiterMode)).lookup v.toNat = some m → s.frozen = false →
          t = { s.elapse dt with refiner := { s.refiner with mode := m }, ports := t.ports, attention := t.attention }
            ∧ Announced s t p ∧ Answered s t p 0x08#8 .ok (setData .arbiterMode v))
    ∧ (Holds s p (.set (encodeIndex .ringReadPolicy) v) → ∃ t, Runs (.setRingReadPolicy dt p v) s t
      ∧ (v.toNat < 2 → s.frozen = true → t = { s.elapse dt with ports := t.ports } ∧ Answered s t p 0x08#8 .frozen [])
      ∧ (2 ≤ v.toNat → t = { s.elapse dt with ports := t.ports } ∧ Answered s t p 0x08#8 .badArg [])
      ∧ ∀ m, ([(0, .refinerFirst), (1, .equal)] : List (Nat × ReadPolicy)).lookup v.toNat = some m → s.frozen = false →
          t = { s.elapse dt with arbiter := { s.arbiter with policy := m }, ports := t.ports, attention := t.attention }
            ∧ Announced s t p ∧ Answered s t p 0x08#8 .ok (setData .ringReadPolicy v))
    ∧ (Holds s p (.set (encodeIndex .intakeAutoClear) v) → ∃ t, Runs (.setIntakeAutoClear dt p v) s t
      ∧ (2 ≤ v.toNat → t = { s.elapse dt with ports := t.ports } ∧ Answered s t p 0x08#8 .badArg [])
      ∧ ∀ b, ([(0, false), (1, true)] : List (Nat × Bool)).lookup v.toNat = some b →
          t = { s.elapse dt with autoClear := b, ports := t.ports, attention := t.attention }
            ∧ Announced s t p ∧ Answered s t p 0x08#8 .ok (setData .intakeAutoClear v))

/-- R149, R191, R195 to R197, R199: the port-local settings are stored for the commanding port alone, also after
FREEZE, and announce nothing. -/
def Obligations.PortLocalSettingsStayLocal : Prop :=
  ∀ (dt : Nat) (p : Port) (v : BitVec 32) (s : State),
    (v.toNat < 1024 → Holds s p (.set (encodeIndex .mask) v) → ∃ t, Runs (.setMask dt p v) s t
      ∧ t = { s.elapse dt with ports := t.ports, attention := t.attention }
      ∧ t.attention.get p = { s.attention.get p with mask := v.setWidth 10, pulse := (t.attention.get p).pulse }
      ∧ t.attention.get p.other = s.attention.get p.other
      ∧ ((s.attention.get p).lineMode = .pulse → (s.attention.get p).pulse = none →
          ((t.attention.get p).pulse = some (s.time.localTime + dt) ↔
            ∃ c : AttnClass, Pends s p c ∧ ClassSet.has (s.attention.get p).mask c = true
              ∧ v.getLsbD c.bit = false))
      ∧ Answered s t p 0x08#8 .ok (setData .mask v))
    ∧ (∀ m, ([(0, .level), (1, .pulse)] : List (Nat × LineMode)).lookup v.toNat = some m →
      Holds s p (.set (encodeIndex .lineMode) v) → ∃ t, Runs (.setLineMode dt p v) s t
        ∧ t = { s.elapse dt with ports := t.ports, attention := t.attention }
        ∧ t.attention.get p = { s.attention.get p with lineMode := m, pulse := (t.attention.get p).pulse }
        ∧ ((s.attention.get p).lineMode ≠ m → (t.attention.get p).pulse = none)
        ∧ t.attention.get p.other = s.attention.get p.other ∧ Answered s t p 0x08#8 .ok (setData .lineMode v))
    ∧ (∀ m, ([(0, .explicit), (1, .onRead)] : List (Nat × ClearMode)).lookup v.toNat = some m →
      Holds s p (.set (encodeIndex .clearMode) v) → ∃ t, Runs (.setClearMode dt p v) s t
        ∧ t = { s.elapse dt with ports := t.ports, attention := t.attention }
        ∧ t.attention = s.attention.set p { s.attention.get p with clearMode := m }
        ∧ Answered s t p 0x08#8 .ok (setData .clearMode v))
    ∧ (Holds s p (.set (encodeIndex .silenceTimeout) v) → ∃ t, Runs (.setSilenceTimeout dt p v) s t
      ∧ t = { s.elapse dt with ports := t.ports }
      ∧ t.ports = s.ports.set p { s.ports.get p with
          slot := .done
            { code := 0x08#8, result := .ok
              data := setData .silenceTimeout (BitVec.ofNat 32 (min v.toNat 255)) },
          timeout := min v.toNat 255,
          timer := if v = 0#32 ∨ s.attached p = false then none else some (s.time.localTime + dt) })
    ∧ ∀ m, ([(0, .all), (1, .grouped)] : List (Nat × OfferMode)).lookup v.toNat = some m →
      Holds s p (.set (encodeIndex .offerMode) v) → ∃ t, Runs (.setOfferMode dt p v) s t
        ∧ t = { s.elapse dt with ports := t.ports, offers := t.offers }
        ∧ t.offers = s.offers.set p { s.offers.get p with setting := m }
        ∧ Answered s t p 0x08#8 .ok (setData .offerMode v)

/-- R14, R203: GET answers the index and its values and changes nothing but its own slot; of a sensor's intake status it
answers state, flags, OFF-frame count, mark and malformed-frame count, and clears the flags when auto-clear is
DISABLED. The value of a staged index, and of the page size, is the staged and then the active one; an unstaged or
port-local index gives its current value, the offer mode its setting and the mode in force. The sizes of the values and
the places of the flags in their byte are the model's reading (log 11 and 40). -/
def Obligations.GetReadsWithoutChange : Prop :=
  (∀ (dt : Nat) (p : Port) (i : SettingIndex) (s : State), (∀ sen, i ≠ .intakeStatus sen) →
    Holds s p (.get (encodeIndex i)) → ∃ t, Runs (.get dt p (encodeIndex i)) s t
      ∧ t = { s.elapse dt with ports := t.ports }
      ∧ Answered s t p 0x09#8 .ok (bytesBE 2 (encodeIndex i).toNat ++ (s.elapse dt).valueOf p i))
  ∧ (∀ (dt : Nat) (p : Port) (index : BitVec 16) (s : State), decodeIndex index = none → Holds s p (.get index) →
      ∃ t, Runs (.get dt p index) s t ∧ t = { s.elapse dt with ports := t.ports } ∧ Answered s t p 0x09#8 .badArg [])
  ∧ (∀ (dt : Nat) (p : Port) (sen : Sensor) (s : State), Holds s p (.get (encodeIndex (.intakeStatus sen))) →
    let r := s.intake.get sen
    ∃ t, Runs (.getIntakeStatus dt p sen) s t
      ∧ t = { s.elapse dt with ports := t.ports, intake := t.intake }
      ∧ t.intake = (if s.autoClear then s.intake else s.intake.set sen { r with flags := ⟨false, false, false⟩ })
      ∧ Answered s t p 0x09#8 .ok
          (bytesBE 2 (encodeIndex (.intakeStatus sen)).toNat
            ++ [BitVec.ofNat 8 r.state.num,
              BitVec.ofNat 8 (r.flags.parity.toNat + 2 * r.flags.sequence.toNat + 4 * r.flags.gap.toNat)]
            ++ bytesBE 2 r.offFrames ++ [if r.applyPending then 1#8 else 0#8] ++ bytesBE 2 s.malformedFrames))
  ∧ ∀ (p : Port) (sen : Sensor) (ch : Channel) (k : Fin 8) (s : State),
    (∀ item size, (item, size) ∈ ([(.rate, 1), (.offsetZ, 3), (.offsetH1, 3), (.offsetH2, 3), (.gainZ, 2), (.gainH1, 2),
        (.gainH2, 2), (.cosine, 2), (.sine, 2), (.delay, 2)] : List (CorrectionItem × Nat)) →
      s.valueOf p (.correction sen item)
        = bytesBE size (BitVec.ofInt (8 * size) (correctionValue (s.intake.get sen).correction.staged item)).toNat
          ++ bytesBE size (BitVec.ofInt (8 * size) (correctionValue (s.intake.get sen).correction.active item)).toNat)
    ∧ (∀ item size, (item, size) ∈ ([(.staShift, 1), (.ltaShift, 1), (.onThreshold, 2), (.offThreshold, 2), (.holdOff, 2),
        (.maxTrigger, 2), (.ltaFloor, 4)] : List (ChannelItem × Nat)) →
      s.valueOf p (.detector sen ch item)
        = bytesBE size (channelValue ((s.detector.get sen).group.staged.get ch) item)
          ++ bytesBE size (channelValue ((s.detector.get sen).group.active.get ch) item))
    ∧ (∀ item size, (item, size) ∈ ([(.pre, 2), (.post, 2), (.pol, 1), (.threshold .q0, 2), (.threshold .q1, 2),
        (.threshold .q2, 2), (.pFrac, 2), (.sFrac, 2), (.polThr, 3), (.sectorFloor, 4)] : List (RefinementItem × Nat)) →
      s.valueOf p (.refinement sen item)
        = bytesBE size (refinementValue (s.refiner.groups.get sen).staged item)
          ++ bytesBE size (refinementValue (s.refiner.groups.get sen).active item))
    ∧ (∀ item size, (item, size) ∈ ([(.qmax, 1), (.count, 1), (.pWindow, 2), (.sWindow, 2)] : List (GroupingItem × Nat)) →
      s.valueOf p (.grouping item)
        = bytesBE size (groupingValue s.grouper.settings.staged item)
          ++ bytesBE size (groupingValue s.grouper.settings.active item))
    ∧ (∀ item size, (item, size) ∈ ([(.lead, 2), (.length, 2), (.mask, 1)] : List (PresetItem × Nat)) →
      s.valueOf p (.preset k item)
        = bytesBE size (presetValue (s.presets.staged.get k) item)
          ++ bytesBE size (presetValue (s.presets.active.get k) item))
    ∧ s.valueOf p .pageSize = bytesBE 2 s.pageSize.staged.sets ++ bytesBE 2 s.pageSize.active.sets
    ∧ s.valueOf p .arbiterMode = [if s.refiner.mode = .rotating then 0#8 else 1#8]
    ∧ s.valueOf p .agingLimit = bytesBE 1 s.refiner.aging
    ∧ s.valueOf p .ringReadPolicy = [if s.arbiter.policy = .refinerFirst then 0#8 else 1#8]
    ∧ s.valueOf p .intakeAutoClear = [if s.autoClear = true then 1#8 else 0#8]
    ∧ s.valueOf p .mask = bytesBE 2 (s.attention.get p).mask.toNat
    ∧ s.valueOf p .lineMode = [if (s.attention.get p).lineMode = .level then 0#8 else 1#8]
    ∧ s.valueOf p .clearMode = [if (s.attention.get p).clearMode = .explicit then 0#8 else 1#8]
    ∧ s.valueOf p .silenceTimeout = bytesBE 1 (s.ports.get p).timeout
    ∧ ∀ m, (s.offers.get p).mode = some m → s.valueOf p .offerMode
        = [if (s.offers.get p).setting = .all then 0#8 else 1#8, if m = .all then 0#8 else 1#8]

/-- R17, R18, R204: an APPLY of a correction group in RUNNING sets the mark and is PENDING; in GAP, STARTING or OFF, with
the rate unchanged, the staged copy becomes active at once and is APPLIED; and from OFF a rate that is enabled puts the
sensor in STARTING. A pending copy is made at the sensor's next frame, before the frame is handled; one that changes the
rate of a RUNNING sensor ends its stream in a GAP without a flag: with the rate OFF the frame is an OFF frame, and else
a good one restarts the stream. -/
def Obligations.CorrectionAppliesBetweenFrames : Prop :=
  (∀ (dt : Nat) (p : Port) (sen : Sensor) (s : State), s.frozen = false →
    Holds s p (.apply (GroupName.area (.correction sen))) →
    let r := s.intake.get sen
    ∃ t, Runs (.applyCorrection dt p sen) s t
      ∧ (r.state = .running → t.intake = s.intake.set sen { r with applyPending := true }
          ∧ Answered s t p 0x0A#8 .ok [1#8])
      ∧ (r.state ≠ .running → r.correction.staged.rate = r.correction.active.rate →
          t.intake = s.intake.set sen { r with correction := ⟨r.correction.staged, r.correction.staged⟩, applyPending := false }
            ∧ Answered s t p 0x0A#8 .ok [0#8])
      ∧ (r.state = .off → r.correction.active.rate = .off → r.correction.staged.rate ≠ .off →
          t.intake = s.intake.set sen { r with
              state := .starting
              correction := ⟨r.correction.staged, r.correction.staged⟩
              applyPending := false
              consecutiveBad := 0
              consecutiveGood := 0
              silenceTimer := none }
            ∧ Answered s t p 0x0A#8 .ok [0#8])
      ∧ (r.correction.staged ≠ r.correction.active → r.state = .running → Announced s t p)
      ∧ (r.correction.staged = r.correction.active → t.attention = s.attention)
      ∧ t.ring = s.ring ∧ t.detector = s.detector ∧ t.chains = s.chains ∧ t.presets = s.presets)
  ∧ ∀ (dt : Nat) (bytes : List Byte) (f : Frame) (s : State), parseFrame bytes = some f →
    (s.intake.get f.sensor).applyPending = true →
    let r := s.intake.get f.sensor
    let copied := { r with correction := ⟨r.correction.staged, r.correction.staged⟩, applyPending := false }
    (r.correction.staged.rate = r.correction.active.rate →
      exec (.sampleLinkFrame dt bytes) s
        = exec (.sampleLinkFrame dt bytes) { s with intake := s.intake.set f.sensor copied })
    ∧ (r.state = .running → r.correction.staged.rate ≠ r.correction.active.rate → r.correction.staged.rate = .off →
      ∃ t, Runs (.sampleLinkFrame dt bytes) s t
        ∧ t.intake = s.intake.set f.sensor { copied with
            state := .off
            expected := none
            consecutiveBad := 0
            consecutiveGood := 0
            silenceTimer := none
            offFrames := min (r.offFrames + 1) 65535 }
        ∧ (t.channel f.sensor .p).state = .blind ∧ (t.channel f.sensor .s).state = .blind
        ∧ ((s.ring.get f.sensor).page = some .opened → (s.ring.get f.sensor).newest ≠ none →
            (t.ring.get f.sensor).page = some .closed)
        ∧ (t.ring.get f.sensor).newest = (s.ring.get f.sensor).newest ∧ SparesOthers s t f.sensor dt)
    ∧ (r.state = .running → r.correction.staged.rate ≠ r.correction.active.rate → r.correction.staged.rate ≠ .off →
      f.good = true →
      ∃ t, Runs (.sampleLinkFrame dt bytes) s t
        ∧ t.intake = s.intake.set f.sensor { copied with
            expected := some (f.sequence + 1#8)
            lastGood := some (correct r.correction.staged f)
            consecutiveBad := 0
            consecutiveGood := 1
            silenceTimer := some (s.time.localTime + dt) }
        ∧ StartsPage s t f.sensor (correct r.correction.staged f) ∧ SparesOthers s t f.sensor dt)

/-- R70, R72, R73, R204: an APPLY of a detector group with both channels BLIND makes the staged group active at once, l
raised to s + 2 and the off-threshold lowered to the on-threshold; otherwise the mark is set and is PENDING. -/
def Obligations.DetectorAppliesWhenBlind : Prop :=
  ∀ (dt : Nat) (p : Port) (sen : Sensor) (s : State), s.frozen = false →
    Holds s p (.apply (GroupName.area (.detector sen))) →
    let d := s.detector.get sen
    ∃ t, Runs (.applyDetector dt p sen) s t
      ∧ t = { s.elapse dt with detector := t.detector, ports := t.ports, attention := t.attention }
      ∧ (∀ other, other ≠ sen → t.detector.get other = s.detector.get other)
      ∧ (t.detector.get sen).group.staged = d.group.staged ∧ (t.detector.get sen).channels = d.channels
      ∧ (d.channels.p.state = .blind ∧ d.channels.s.state = .blind →
          (t.detector.get sen).applyPending = false ∧ Answered s t p 0x0A#8 .ok [0#8]
            ∧ ∀ ch, (t.detector.get sen).group.active.get ch = { d.group.staged.get ch with
                ltaShift := max (d.group.staged.get ch).ltaShift ((d.group.staged.get ch).staShift + 2)
                offThreshold := min (d.group.staged.get ch).offThreshold (d.group.staged.get ch).onThreshold })
      ∧ (d.channels.p.state ≠ .blind ∨ d.channels.s.state ≠ .blind →
          (t.detector.get sen).applyPending = true ∧ (t.detector.get sen).group.active = d.group.active
            ∧ Answered s t p 0x0A#8 .ok [1#8])
      ∧ (if d.group.staged = d.group.active then t.attention = s.attention else Announced s t p)

/-- R84, R204: an APPLY of a refinement group makes the whole staged copy active; the refinement in progress keeps the
values captured at its grant. -/
def Obligations.RefinementAppliesAtOnce : Prop :=
  ∀ (dt : Nat) (p : Port) (sen : Sensor) (s : State), s.frozen = false →
    Holds s p (.apply (GroupName.area (.refinement sen))) →
    ∃ t, Runs (.applyRefinement dt p sen) s t
      ∧ t.refiner.groups = s.refiner.groups.set sen
          ⟨(s.refiner.groups.get sen).staged, (s.refiner.groups.get sen).staged⟩
      ∧ (∀ w, s.refiner.work = some w → t.refiner.work = some w)
      ∧ Answered s t p 0x0A#8 .ok [0#8]
      ∧ t.refiner.mode = s.refiner.mode ∧ t.refiner.aging = s.refiner.aging
      ∧ t.ring = s.ring ∧ t.detector = s.detector ∧ t.intake = s.intake ∧ t.chains = s.chains

/-- R129, R165, R204, R205: an APPLY of the grouping or the preset group makes the staged copy active and no more; FREEZE
sets the mark, or is ALREADY; and with the mark set every APPLY is FROZEN. -/
def Obligations.GroupingAndPresetsApplyUnlessFrozen : Prop :=
  ∀ (dt : Nat) (p : Port) (s : State),
    (Holds s p (.apply 0x40#8) → s.frozen = false → ∃ t, Runs (.applyGrouping dt p) s t
      ∧ t = { s.elapse dt with
          grouper := { s.grouper with settings := ⟨s.grouper.settings.staged, s.grouper.settings.staged⟩ },
          ports := t.ports, attention := t.attention }
      ∧ Answered s t p 0x0A#8 .ok [0#8]
      ∧ (if s.grouper.settings.staged = s.grouper.settings.active then t.attention = s.attention else Announced s t p))
    ∧ (Holds s p (.apply 0x48#8) → s.frozen = false → ∃ t, Runs (.applyPresets dt p) s t
      ∧ t = { s.elapse dt with
          presets := ⟨s.presets.staged, s.presets.staged⟩, ports := t.ports, attention := t.attention }
      ∧ Answered s t p 0x0A#8 .ok [0#8]
      ∧ (if s.presets.staged = s.presets.active then t.attention = s.attention else Announced s t p))
    ∧ (Holds s p .freeze → ∃ t, Runs (.freeze dt p) s t ∧ t = { s.elapse dt with frozen := true, ports := t.ports }
      ∧ Answered s t p 0x0B#8 (if s.frozen then .already else .ok) [])
    ∧ ∀ (sen : Sensor) (g : GroupName) (i : Instr),
      (g, i) ∈ ([(.correction sen, .applyCorrection dt p sen), (.detector sen, .applyDetector dt p sen),
        (.refinement sen, .applyRefinement dt p sen), (.grouping, .applyGrouping dt p),
        (.presets, .applyPresets dt p)] : List (GroupName × Instr)) →
      Holds s p (.apply g.area) → s.frozen = true →
      ∃ t, Runs i s t ∧ t = { s.elapse dt with ports := t.ports } ∧ Answered s t p 0x0A#8 .frozen []

/-! ### Excerpt chains -/

/-- R164: LOAD_CHAIN in EMPTY, DONE or FAULTED replaces the list, empties the buffer and is LOADED; in the other states
it is CHAIN_BUSY whatever it is given; malformed elements are BAD_ARG. -/
def Obligations.LoadReplacesIdleChain : Prop :=
  ∀ (dt : Nat) (p : Port) (count : Byte) (words : List ElementWords) (s : State),
    Holds s p (.loadChain count words) → s.attached p = true →
    ∃ t, Runs (.loadChain dt p count words) s t
      ∧ t = { s.elapse dt with chains := t.chains, ports := t.ports } ∧ t.chain p.other = s.chain p.other
      ∧ ((s.chain p).state ∈ ([.loaded, .running, .waiting, .paused] : List ChainState) →
          t.chain p = s.chain p ∧ Answered s t p 0x0C#8 .chainBusy [])
      ∧ ((s.chain p).state ∈ ([.empty, .done, .faulted] : List ChainState) →
          (∀ elements, loadedElements count words = some elements →
            t.chain p = { Chain.reset with state := .loaded, elements := elements }
              ∧ Answered s t p 0x0C#8 .ok [])
          ∧ (words.length = 0 ∨ 8 < words.length ∨ (∃ w ∈ words, 3 < w.kind.toNat
                ∨ (w.kind.toNat < 3 ∧ (3 < w.selector.toNat ∨ 4096 < w.length.toNat ∨ w.mask.toNat % 8 = 0))
                ∨ (w.kind.toNat = 2 ∧ 999999 < w.start.toNat % 4294967296)
                ∨ (w.kind.toNat = 3 ∧ (7 < w.selector.toNat ∨ w.start.toNat / 281474976710656 = 0))) →
              t.chain p = s.chain p ∧ Answered s t p 0x0C#8 .badArg []))

/-- R166 to R168, R174, R177: START_CHAIN of a LOADED chain whose first element names a sample number that stands in the
ring, with sets to read, is RUNNING at it, or WAITING for data where it has not been written; a chain PAUSED in an
element goes on; and the other states answer ALREADY or BAD_ARG with the state. -/
def Obligations.StartBeginsOrResumesChain : Prop :=
  ∀ (dt : Nat) (p : Port) (s : State), Holds s p .startChain →
    (∀ sen start length mask el rest oldest newest, (s.chain p).state = .loaded → (s.chain p).elements = el :: rest →
      el.kind = .bySample sen start length mask → 0 < length →
      (s.ring.get sen).oldest = some oldest → (s.ring.get sen).newest = some newest → oldest ≤ start →
      ∃ t level, Runs (.startChain dt p) s t
        ∧ t = { s.elapse dt with chains := t.chains, ports := t.ports, attention := t.attention }
        ∧ t.chain p.other = s.chain p.other
        ∧ t.chain p = { s.chain p with
            state := if start ≤ newest then .running else .waiting
            current := some 0
            plan := some { sensor := sen, length := length, mask := mask }
            run := some { first := start, note := .none, next := start, progress := 0, level := some level }
            pendingStart := none
            wait := if start ≤ newest then none else some (.data, s.time.localTime + dt)
            pausePoint := none }
        ∧ Answered s t p 0x0D#8 .ok [if start ≤ newest then 2#8 else 3#8])
    ∧ (∀ plan run newest, (s.chain p).state = .paused → (s.chain p).pausePoint = some .inElement →
      (s.chain p).plan = some plan → (s.chain p).run = some run → (s.ring.get plan.sensor).newest = some newest →
      run.next ≤ newest →
      ∃ t, Runs (.startChain dt p) s t ∧ t = { s.elapse dt with chains := t.chains, ports := t.ports }
        ∧ t.chains = s.chains.set p { s.chain p with state := .running, pausePoint := none }
        ∧ Answered s t p 0x0D#8 .ok [2#8])
    ∧ ∀ state result code, (state, result, code) ∈ ([(.running, .already, 2), (.waiting, .already, 3),
        (.empty, .badArg, 0), (.done, .badArg, 5), (.faulted, .badArg, 6)] : List (ChainState × Result × Nat)) →
      (s.chain p).state = state →
      ∃ t, Runs (.startChain dt p) s t ∧ t = { s.elapse dt with ports := t.ports }
        ∧ Answered s t p 0x0D#8 result [BitVec.ofNat 8 code]

/-- R176, R178: PAUSE_CHAIN keeps the chain's place and ends its wait; RESET_CHAIN abandons it in every state. -/
def Obligations.PauseKeepsAndResetAbandons : Prop :=
  ∀ (dt : Nat) (p : Port) (s : State),
    (Holds s p .resetChain → ∃ t, Runs (.resetChain dt p) s t
      ∧ t = { s.elapse dt with chains := s.chains.set p Chain.reset, ports := t.ports }
      ∧ Answered s t p 0x0F#8 .ok [])
    ∧ (Holds s p .pauseChain → ∃ t, Runs (.pauseChain dt p) s t
      ∧ t = { s.elapse dt with chains := t.chains, ports := t.ports } ∧ t.chain p.other = s.chain p.other
      ∧ ((s.chain p).state = .running →
          t.chain p = { s.chain p with state := .paused, pausePoint := some .inElement, wait := none }
            ∧ Answered s t p 0x0E#8 .ok [])
      ∧ (∀ kind start, (s.chain p).state = .waiting → (s.chain p).wait = some (kind, start) →
          t.chain p = { s.chain p with
              state := .paused
              pausePoint := some (match kind with
                | .start => .startWait
                | .data => .inElement)
              wait := none }
            ∧ Answered s t p 0x0E#8 .ok [])
      ∧ ((s.chain p).state = .paused → t.chain p = s.chain p ∧ Answered s t p 0x0E#8 .already [])
      ∧ ((s.chain p).state ∈ ([.empty, .loaded, .done, .faulted] : List ChainState) →
          t.chain p = s.chain p ∧ Answered s t p 0x0E#8 .badArg []))

/-- R181: READ_EXCERPT removes from the buffer its oldest sets, as many as the maximum allows, of one element and within
one page, and leaves the rest in order; an empty buffer is EMPTY and a count outside 1 to 64 is BAD_ARG. -/
def Obligations.ReadExcerptDrainsInOrder : Prop :=
  ∀ (dt : Nat) (p : Port) (maximum : Byte) (s : State), Holds s p (.readExcerpt maximum) →
    ∃ t, Runs (.readExcerpt dt p maximum) s t
      ∧ t = { s.elapse dt with chains := t.chains, ports := t.ports } ∧ t.chain p.other = s.chain p.other
      ∧ t.chain p = { s.chain p with buffer := (t.chain p).buffer }
      ∧ (maximum.toNat = 0 ∨ 64 < maximum.toNat → t.chains = s.chains ∧ Answered s t p 0x10#8 .badArg [])
      ∧ (1 ≤ maximum.toNat → maximum.toNat ≤ 64 → (s.chain p).buffer = [] → Answered s t p 0x10#8 .empty [])
      ∧ (∀ first rest, 1 ≤ maximum.toNat → maximum.toNat ≤ 64 → (s.chain p).buffer = first :: rest →
          ∃ given, given ≠ [] ∧ given.length ≤ maximum.toNat ∧ (s.chain p).buffer = given ++ (t.chain p).buffer
            ∧ (∀ x ∈ given, x.element = first.element
                ∧ x.sample / s.pageSize.active.sets = first.sample / s.pageSize.active.sets)
            ∧ (∀ next, (t.chain p).buffer.head? = some next → given.length = maximum.toNat
                ∨ next.element ≠ first.element
                ∨ next.sample / s.pageSize.active.sets ≠ first.sample / s.pageSize.active.sets)
            ∧ ∃ data, Answered s t p 0x10#8 .ok data
                ∧ data.take 4 = [BitVec.ofNat 8 first.element, BitVec.ofNat 8 first.sensor.num,
                    BitVec.ofNat 8 first.mask.bits, BitVec.ofNat 8 (notesOf first (given.getLastD first))]
                ∧ data[28]? = some (BitVec.ofNat 8 given.length)
                ∧ ((∀ x ∈ given, x.mask = first.mask) →
                  data.length = 29 + given.length * (1 + 3 * (first.mask.z.toNat + first.mask.n.toNat
                    + first.mask.e.toNat)) + 5))

/-! ### Soft reset -/

/-- R20, R53, R76, R105, R126, R147, R163, R186, R192, R193, R200: what SOFT_RESET empties and what it keeps. -/
def Obligations.SoftResetKeepsSettings : Prop :=
  ∀ (dt : Nat) (p : Port) (s : State), Holds s p .softReset →
    ∃ t, Runs (.softReset dt p) s t
      ∧ t.time = (s.elapse dt).time ∧ t.frozen = s.frozen ∧ t.softResets = min (s.softResets + 1) 65535
      ∧ t.table = ArrivalTable.reset ∧ t.grouper = { Grouper.reset with settings := s.grouper.settings }
      ∧ t.chains = ⟨Chain.reset, Chain.reset⟩ ∧ t.presets = s.presets ∧ t.autoClear = s.autoClear
      ∧ t.malformedFrames = 0 ∧ t.pageSize = ⟨s.pageSize.staged, s.pageSize.staged⟩
      ∧ t.refiner = { Refiner.reset with groups := s.refiner.groups, mode := s.refiner.mode, aging := s.refiner.aging }
      ∧ t.arbiter = { ReadArbiter.reset with policy := s.arbiter.policy }
      ∧ (∀ sen, t.ring.get sen = RingRecord.reset
          ∧ (t.intake.get sen).correction.staged = (s.intake.get sen).correction.staged
          ∧ ((s.intake.get sen).applyPending = false → (t.intake.get sen).correction = (s.intake.get sen).correction)
          ∧ ((s.intake.get sen).applyPending = true →
              (t.intake.get sen).correction.active = (s.intake.get sen).correction.staged)
          ∧ ((t.intake.get sen).correction.active.rate = .off →
              (t.intake.get sen).state = .off ∧ ∀ ch, (t.channel sen ch).state = .blind)
          ∧ ((t.intake.get sen).correction.active.rate ≠ .off →
              (t.intake.get sen).state = .starting ∧ ∀ ch, (t.channel sen ch).state = .warmup)
          ∧ (t.detector.get sen).group.staged = (s.detector.get sen).group.staged
          ∧ (t.detector.get sen).applyPending = false)
      ∧ (∀ q, t.notices q = [] ∧ (t.offers.get q).mode = (s.offers.get q).mode
          ∧ (t.offers.get q).setting = (s.offers.get q).setting
          ∧ t.attention.get q = { s.attention.get q with pending := 0#10, changedBy := ⟨false, false⟩, pulse := none })
      ∧ t.ports.get p = { s.ports.get p with slot := .done { code := 0x12#8, result := .ok, data := [] } }
      ∧ (∀ r, Holds s p.other r → t.ports.get p.other = { s.ports.get p.other with
          slot := .done { code := r.code, result := .aborted, data := [] } })
      ∧ ((∀ r, ¬ Holds s p.other r) → t.ports.get p.other = s.ports.get p.other)

/-! ### Invariants that every step keeps -/

/-- R150: OFFER is pending exactly while the list holds a notice. -/
def Obligations.OfferTracksList : Prop :=
  ∀ s t : State, OfferInv s → Machine.step s = .next t → OfferInv t

/-- The rings' stores keep their canonical form. R34, R36, R39: the page in use stands as the newest sample number and the
intake state say. -/
def Obligations.StoresStayCanonical : Prop :=
  (∀ s t : State, StoreInv s → Machine.step s = .next t → StoreInv t)
    ∧ ∀ s t : State, PageInv s → Machine.step s = .next t → PageInv t

/-- R2: OFF and the rate OFF go together. R25, R28: the anchor and the last valid mark are absent exactly in NO_TIME. -/
def Obligations.ModesMatchTheirFields : Prop :=
  ∀ s t : State, Machine.step s = .next t → (RateInv s → RateInv t) ∧ (TimeInv s → TimeInv t)

/-- R186, Table 10-1: a DETACHED port holds no notice and no chain, and the silence timer runs as it should. -/
def Obligations.DetachedPortsStayEmpty : Prop :=
  ∀ s t : State, PortInv s → Machine.step s = .next t → PortInv t

/-- R108, R109: the Arrival Table holds at most 64 records with ids of their own. -/
def Obligations.TableKeepsDistinctIds : Prop :=
  ∀ s t : State, TableInv s → Machine.step s = .next t → TableInv t

/-- R4, R16, R60: samples, averages and ratios stay in range. -/
def Obligations.SignalsStayInRange : Prop :=
  ∀ s t : State, SignalInv s → Machine.step s = .next t → SignalInv t

/-- R77, R86, R127, R164, R186: nothing grows past its capacity. R131, R133, R148: no list holds more than 72 notices, one
for each live pick and one for each live group, and no group more than 8 members. R1, R2, R6, R9, R22, R24, R41, R63, R80,
R132, R140, R192: counts stay in range. -/
def Obligations.CapacitiesAndCountsAreKept : Prop :=
  ∀ s t : State, Machine.step s = .next t → (CapacityInv s → CapacityInv t) ∧ (CountInv s → CountInv t)
    ∧ (NoticeInv s → TableInv s → PortInv s → NoticeInv t)

/-- R201, R204, R205: once the freeze mark is set, no row but HARDWARE_RESET clears it or changes a setting it closes. -/
def Obligations.FreezeHoldsUntilHardwareReset : Prop :=
  ∀ (i : Instr) (s : State), i ≠ .hardwareReset → s.frozen = true →
    ∃ t, Runs i s t ∧ t.frozen = true ∧ SameFrozenSettings s t

/-- R187 and 10.2: what a controller does at its port changes nothing of the other port's slot, chain, modes and
settings, and clears no latched class there; SOFT_RESET alone is excepted (R192, R193). -/
def Obligations.PortsAreIsolated : Prop :=
  ∀ (i : Instr) (p : Port) (s : State),
    (∃ r, i.performs = some (p, r) ∧ r ≠ .softReset) ∨ (∃ dt m, i = .commandTransaction dt p m)
      ∨ (∃ dt n, i = .responseTransaction dt p n) ∨ (∃ dt b, i = .ignoredTransaction dt p b)
      ∨ (∃ dt, i = .silenceTimeout dt p) ∨ (∃ dt, i = .startWaitTimeout dt p) ∨ (∃ dt, i = .dataWaitTimeout dt p)
      ∨ (∃ dt, i = .attentionPulseEnd dt p) →
    ∃ t, Runs i s t ∧ SamePort s t p.other

/-! ### Encodings -/

/-- R207, R208, Tables 11-4 and 11-8: every setting index and every command is read back from its bytes, and every
index that names a setting is the bytes of that setting. -/
def Obligations.CommandsAreReadBackFromBytes : Prop :=
  (∀ i : SettingIndex, decodeIndex (encodeIndex i) = some i)
    ∧ (∀ (w : BitVec 16) (i : SettingIndex), decodeIndex w = some i → encodeIndex i = w)
    ∧ (∀ g : GroupName, groupOfArea g.area = some g)
    ∧ (∀ r : Request, r.wf = true → formOf r.message = some (r.code, r.args) ∧ requestOfBytes r.code r.args = some r)
    ∧ ∀ (dt : Nat) (p : Port) (r : Request) (i : Instr), performingRow dt p r = some i → i.performs = some (p, r)

end Statements
end

