-- ==== Sys2Proof/Laws/State.lean ====
section
/-! SUPPORT. Reading after writing in the families of records, and what each named update of the state leaves of each
field, so that no proof unfolds a record update. -/

namespace Sys2Proof.Machine

/-! ### Families -/

@[simp] theorem PerSensor.get_set {α : Type} (v : PerSensor α) (i : Sensor) (x : α) : (v.set i x).get i = x := by
  cases i <;> rfl

theorem PerSensor.get_set_ne {α : Type} (v : PerSensor α) {i j : Sensor} (x : α) (h : j ≠ i) :
    (v.set i x).get j = v.get j := by
  cases i <;> cases j <;> first | rfl | exact absurd rfl h

@[simp] theorem PerSensor.set_get {α : Type} (v : PerSensor α) (i : Sensor) : v.set i (v.get i) = v := by
  cases i <;> rfl

@[simp] theorem PerSensor.set_set {α : Type} (v : PerSensor α) (i : Sensor) (x y : α) :
    (v.set i x).set i y = v.set i y := by
  cases i <;> rfl

@[simp] theorem PerSensor.get_all {α : Type} (x : α) (i : Sensor) : (PerSensor.all x).get i = x := by
  cases i <;> rfl

@[simp] theorem PerSensor.get_map {α β : Type} (f : Sensor → α → β) (v : PerSensor α) (i : Sensor) :
    (v.map f).get i = f i (v.get i) := by
  cases i <;> rfl

theorem PerSensor.ext_get {α : Type} {v w : PerSensor α} (h : ∀ i, v.get i = w.get i) : v = w := by
  obtain ⟨a, b, c, d⟩ := v
  obtain ⟨a', b', c', d'⟩ := w
  have h0 := h .s0
  have h1 := h .s1
  have h2 := h .s2
  have h3 := h .s3
  simp only [PerSensor.get] at h0 h1 h2 h3
  rw [h0, h1, h2, h3]

@[simp] theorem PerPort.get_set {α : Type} (v : PerPort α) (i : Port) (x : α) : (v.set i x).get i = x := by
  cases i <;> rfl

theorem PerPort.get_set_ne {α : Type} (v : PerPort α) {i j : Port} (x : α) (h : j ≠ i) :
    (v.set i x).get j = v.get j := by
  cases i <;> cases j <;> first | rfl | exact absurd rfl h

@[simp] theorem PerPort.get_set_other {α : Type} (v : PerPort α) (i : Port) (x : α) :
    (v.set i x).get i.other = v.get i.other := by
  cases i <;> rfl

@[simp] theorem PerPort.get_other_set {α : Type} (v : PerPort α) (i : Port) (x : α) :
    (v.set i.other x).get i = v.get i := by
  cases i <;> rfl

@[simp] theorem PerPort.set_get {α : Type} (v : PerPort α) (i : Port) : v.set i (v.get i) = v := by
  cases i <;> rfl

@[simp] theorem PerPort.set_set {α : Type} (v : PerPort α) (i : Port) (x y : α) : (v.set i x).set i y = v.set i y := by
  cases i <;> rfl

@[simp] theorem PerPort.get_all {α : Type} (x : α) (i : Port) : (PerPort.all x).get i = x := by
  cases i <;> rfl

@[simp] theorem PerPort.get_map {α β : Type} (f : α → β) (v : PerPort α) (i : Port) : (v.map f).get i = f (v.get i) := by
  cases i <;> rfl

theorem Port.other_ne (p : Port) : p.other ≠ p := by
  cases p <;> decide

@[simp] theorem Port.other_other (p : Port) : p.other.other = p := by
  cases p <;> rfl

/-- A port is `p` or the other one. -/
theorem Port.eq_or_other (p q : Port) : q = p ∨ q = p.other := by
  cases p <;> cases q <;> simp [Port.other]

@[simp] theorem PerChannel.get_set {α : Type} (v : PerChannel α) (i : Channel) (x : α) : (v.set i x).get i = x := by
  cases i <;> rfl

theorem PerChannel.get_set_ne {α : Type} (v : PerChannel α) {i j : Channel} (x : α) (h : j ≠ i) :
    (v.set i x).get j = v.get j := by
  cases i <;> cases j <;> first | rfl | exact absurd rfl h

@[simp] theorem PerChannel.get_map {α β : Type} (f : Channel → α → β) (v : PerChannel α) (i : Channel) :
    (v.map f).get i = f i (v.get i) := by
  cases i <;> rfl

/-! ### `State.elapse` -/

@[simp] theorem State.elapse_pending (s : State) (dt : Nat) : (s.elapse dt).pending = s.pending := rfl
@[simp] theorem State.elapse_time (s : State) (dt : Nat) :
    (s.elapse dt).time = { s.time with localTime := s.time.localTime + dt } := rfl

@[simp] theorem State.elapse_malformedFrames (s : State) (dt : Nat) :
    (s.elapse dt).malformedFrames = s.malformedFrames := rfl
@[simp] theorem State.elapse_autoClear (s : State) (dt : Nat) : (s.elapse dt).autoClear = s.autoClear := rfl
@[simp] theorem State.elapse_intake (s : State) (dt : Nat) : (s.elapse dt).intake = s.intake := rfl
@[simp] theorem State.elapse_pageSize (s : State) (dt : Nat) : (s.elapse dt).pageSize = s.pageSize := rfl
@[simp] theorem State.elapse_ring (s : State) (dt : Nat) : (s.elapse dt).ring = s.ring := rfl
@[simp] theorem State.elapse_detector (s : State) (dt : Nat) : (s.elapse dt).detector = s.detector := rfl
@[simp] theorem State.elapse_refiner (s : State) (dt : Nat) : (s.elapse dt).refiner = s.refiner := rfl
@[simp] theorem State.elapse_table (s : State) (dt : Nat) : (s.elapse dt).table = s.table := rfl
@[simp] theorem State.elapse_grouper (s : State) (dt : Nat) : (s.elapse dt).grouper = s.grouper := rfl
@[simp] theorem State.elapse_offers (s : State) (dt : Nat) : (s.elapse dt).offers = s.offers := rfl
@[simp] theorem State.elapse_chains (s : State) (dt : Nat) : (s.elapse dt).chains = s.chains := rfl
@[simp] theorem State.elapse_presets (s : State) (dt : Nat) : (s.elapse dt).presets = s.presets := rfl
@[simp] theorem State.elapse_arbiter (s : State) (dt : Nat) : (s.elapse dt).arbiter = s.arbiter := rfl
@[simp] theorem State.elapse_ports (s : State) (dt : Nat) : (s.elapse dt).ports = s.ports := rfl
@[simp] theorem State.elapse_attention (s : State) (dt : Nat) : (s.elapse dt).attention = s.attention := rfl
@[simp] theorem State.elapse_frozen (s : State) (dt : Nat) : (s.elapse dt).frozen = s.frozen := rfl
@[simp] theorem State.elapse_softResets (s : State) (dt : Nat) : (s.elapse dt).softResets = s.softResets := rfl

/-! ### `State.modIntake` -/

@[simp] theorem State.modIntake_pending (s : State) (sen : Sensor) (f : IntakeRecord → IntakeRecord) :
    (s.modIntake sen f).pending = s.pending := rfl
@[simp] theorem State.modIntake_time (s : State) (sen : Sensor) (f : IntakeRecord → IntakeRecord) :
    (s.modIntake sen f).time = s.time := rfl
@[simp] theorem State.modIntake_malformedFrames (s : State) (sen : Sensor) (f : IntakeRecord → IntakeRecord) :
    (s.modIntake sen f).malformedFrames = s.malformedFrames := rfl
@[simp] theorem State.modIntake_autoClear (s : State) (sen : Sensor) (f : IntakeRecord → IntakeRecord) :
    (s.modIntake sen f).autoClear = s.autoClear := rfl
@[simp] theorem State.modIntake_intake (s : State) (sen : Sensor) (f : IntakeRecord → IntakeRecord) :
    (s.modIntake sen f).intake = s.intake.set sen (f (s.intake.get sen)) := rfl

@[simp] theorem State.modIntake_pageSize (s : State) (sen : Sensor) (f : IntakeRecord → IntakeRecord) :
    (s.modIntake sen f).pageSize = s.pageSize := rfl
@[simp] theorem State.modIntake_ring (s : State) (sen : Sensor) (f : IntakeRecord → IntakeRecord) :
    (s.modIntake sen f).ring = s.ring := rfl
@[simp] theorem State.modIntake_detector (s : State) (sen : Sensor) (f : IntakeRecord → IntakeRecord) :
    (s.modIntake sen f).detector = s.detector := rfl
@[simp] theorem State.modIntake_refiner (s : State) (sen : Sensor) (f : IntakeRecord → IntakeRecord) :
    (s.modIntake sen f).refiner = s.refiner := rfl
@[simp] theorem State.modIntake_table (s : State) (sen : Sensor) (f : IntakeRecord → IntakeRecord) :
    (s.modIntake sen f).table = s.table := rfl
@[simp] theorem State.modIntake_grouper (s : State) (sen : Sensor) (f : IntakeRecord → IntakeRecord) :
    (s.modIntake sen f).grouper = s.grouper := rfl
@[simp] theorem State.modIntake_offers (s : State) (sen : Sensor) (f : IntakeRecord → IntakeRecord) :
    (s.modIntake sen f).offers = s.offers := rfl
@[simp] theorem State.modIntake_chains (s : State) (sen : Sensor) (f : IntakeRecord → IntakeRecord) :
    (s.modIntake sen f).chains = s.chains := rfl
@[simp] theorem State.modIntake_presets (s : State) (sen : Sensor) (f : IntakeRecord → IntakeRecord) :
    (s.modIntake sen f).presets = s.presets := rfl
@[simp] theorem State.modIntake_arbiter (s : State) (sen : Sensor) (f : IntakeRecord → IntakeRecord) :
    (s.modIntake sen f).arbiter = s.arbiter := rfl
@[simp] theorem State.modIntake_ports (s : State) (sen : Sensor) (f : IntakeRecord → IntakeRecord) :
    (s.modIntake sen f).ports = s.ports := rfl
@[simp] theorem State.modIntake_attention (s : State) (sen : Sensor) (f : IntakeRecord → IntakeRecord) :
    (s.modIntake sen f).attention = s.attention := rfl
@[simp] theorem State.modIntake_frozen (s : State) (sen : Sensor) (f : IntakeRecord → IntakeRecord) :
    (s.modIntake sen f).frozen = s.frozen := rfl
@[simp] theorem State.modIntake_softResets (s : State) (sen : Sensor) (f : IntakeRecord → IntakeRecord) :
    (s.modIntake sen f).softResets = s.softResets := rfl

/-! ### `State.modRing` -/

@[simp] theorem State.modRing_pending (s : State) (sen : Sensor) (f : RingRecord → RingRecord) :
    (s.modRing sen f).pending = s.pending := rfl
@[simp] theorem State.modRing_time (s : State) (sen : Sensor) (f : RingRecord → RingRecord) :
    (s.modRing sen f).time = s.time := rfl
@[simp] theorem State.modRing_malformedFrames (s : State) (sen : Sensor) (f : RingRecord → RingRecord) :
    (s.modRing sen f).malformedFrames = s.malformedFrames := rfl
@[simp] theorem State.modRing_autoClear (s : State) (sen : Sensor) (f : RingRecord → RingRecord) :
    (s.modRing sen f).autoClear = s.autoClear := rfl
@[simp] theorem State.modRing_intake (s : State) (sen : Sensor) (f : RingRecord → RingRecord) :
    (s.modRing sen f).intake = s.intake := rfl
@[simp] theorem State.modRing_pageSize (s : State) (sen : Sensor) (f : RingRecord → RingRecord) :
    (s.modRing sen f).pageSize = s.pageSize := rfl
@[simp] theorem State.modRing_ring (s : State) (sen : Sensor) (f : RingRecord → RingRecord) :
    (s.modRing sen f).ring = s.ring.set sen (f (s.ring.get sen)) := rfl

@[simp] theorem State.modRing_detector (s : State) (sen : Sensor) (f : RingRecord → RingRecord) :
    (s.modRing sen f).detector = s.detector := rfl
@[simp] theorem State.modRing_refiner (s : State) (sen : Sensor) (f : RingRecord → RingRecord) :
    (s.modRing sen f).refiner = s.refiner := rfl
@[simp] theorem State.modRing_table (s : State) (sen : Sensor) (f : RingRecord → RingRecord) :
    (s.modRing sen f).table = s.table := rfl
@[simp] theorem State.modRing_grouper (s : State) (sen : Sensor) (f : RingRecord → RingRecord) :
    (s.modRing sen f).grouper = s.grouper := rfl
@[simp] theorem State.modRing_offers (s : State) (sen : Sensor) (f : RingRecord → RingRecord) :
    (s.modRing sen f).offers = s.offers := rfl
@[simp] theorem State.modRing_chains (s : State) (sen : Sensor) (f : RingRecord → RingRecord) :
    (s.modRing sen f).chains = s.chains := rfl
@[simp] theorem State.modRing_presets (s : State) (sen : Sensor) (f : RingRecord → RingRecord) :
    (s.modRing sen f).presets = s.presets := rfl
@[simp] theorem State.modRing_arbiter (s : State) (sen : Sensor) (f : RingRecord → RingRecord) :
    (s.modRing sen f).arbiter = s.arbiter := rfl
@[simp] theorem State.modRing_ports (s : State) (sen : Sensor) (f : RingRecord → RingRecord) :
    (s.modRing sen f).ports = s.ports := rfl
@[simp] theorem State.modRing_attention (s : State) (sen : Sensor) (f : RingRecord → RingRecord) :
    (s.modRing sen f).attention = s.attention := rfl
@[simp] theorem State.modRing_frozen (s : State) (sen : Sensor) (f : RingRecord → RingRecord) :
    (s.modRing sen f).frozen = s.frozen := rfl
@[simp] theorem State.modRing_softResets (s : State) (sen : Sensor) (f : RingRecord → RingRecord) :
    (s.modRing sen f).softResets = s.softResets := rfl

/-! ### `State.modDetector` -/

@[simp] theorem State.modDetector_pending (s : State) (sen : Sensor) (f : DetectorRecord → DetectorRecord) :
    (s.modDetector sen f).pending = s.pending := rfl
@[simp] theorem State.modDetector_time (s : State) (sen : Sensor) (f : DetectorRecord → DetectorRecord) :
    (s.modDetector sen f).time = s.time := rfl
@[simp] theorem State.modDetector_malformedFrames (s : State) (sen : Sensor) (f : DetectorRecord → DetectorRecord) :
    (s.modDetector sen f).malformedFrames = s.malformedFrames := rfl
@[simp] theorem State.modDetector_autoClear (s : State) (sen : Sensor) (f : DetectorRecord → DetectorRecord) :
    (s.modDetector sen f).autoClear = s.autoClear := rfl
@[simp] theorem State.modDetector_intake (s : State) (sen : Sensor) (f : DetectorRecord → DetectorRecord) :
    (s.modDetector sen f).intake = s.intake := rfl
@[simp] theorem State.modDetector_pageSize (s : State) (sen : Sensor) (f : DetectorRecord → DetectorRecord) :
    (s.modDetector sen f).pageSize = s.pageSize := rfl
@[simp] theorem State.modDetector_ring (s : State) (sen : Sensor) (f : DetectorRecord → DetectorRecord) :
    (s.modDetector sen f).ring = s.ring := rfl
@[simp] theorem State.modDetector_detector (s : State) (sen : Sensor) (f : DetectorRecord → DetectorRecord) :
    (s.modDetector sen f).detector = s.detector.set sen (f (s.detector.get sen)) := rfl

@[simp] theorem State.modDetector_refiner (s : State) (sen : Sensor) (f : DetectorRecord → DetectorRecord) :
    (s.modDetector sen f).refiner = s.refiner := rfl
@[simp] theorem State.modDetector_table (s : State) (sen : Sensor) (f : DetectorRecord → DetectorRecord) :
    (s.modDetector sen f).table = s.table := rfl
@[simp] theorem State.modDetector_grouper (s : State) (sen : Sensor) (f : DetectorRecord → DetectorRecord) :
    (s.modDetector sen f).grouper = s.grouper := rfl
@[simp] theorem State.modDetector_offers (s : State) (sen : Sensor) (f : DetectorRecord → DetectorRecord) :
    (s.modDetector sen f).offers = s.offers := rfl
@[simp] theorem State.modDetector_chains (s : State) (sen : Sensor) (f : DetectorRecord → DetectorRecord) :
    (s.modDetector sen f).chains = s.chains := rfl
@[simp] theorem State.modDetector_presets (s : State) (sen : Sensor) (f : DetectorRecord → DetectorRecord) :
    (s.modDetector sen f).presets = s.presets := rfl
@[simp] theorem State.modDetector_arbiter (s : State) (sen : Sensor) (f : DetectorRecord → DetectorRecord) :
    (s.modDetector sen f).arbiter = s.arbiter := rfl
@[simp] theorem State.modDetector_ports (s : State) (sen : Sensor) (f : DetectorRecord → DetectorRecord) :
    (s.modDetector sen f).ports = s.ports := rfl
@[simp] theorem State.modDetector_attention (s : State) (sen : Sensor) (f : DetectorRecord → DetectorRecord) :
    (s.modDetector sen f).attention = s.attention := rfl
@[simp] theorem State.modDetector_frozen (s : State) (sen : Sensor) (f : DetectorRecord → DetectorRecord) :
    (s.modDetector sen f).frozen = s.frozen := rfl
@[simp] theorem State.modDetector_softResets (s : State) (sen : Sensor) (f : DetectorRecord → DetectorRecord) :
    (s.modDetector sen f).softResets = s.softResets := rfl

/-! ### `State.modChain` -/

@[simp] theorem State.modChain_pending (s : State) (p : Port) (f : Chain → Chain) :
    (s.modChain p f).pending = s.pending := rfl
@[simp] theorem State.modChain_time (s : State) (p : Port) (f : Chain → Chain) : (s.modChain p f).time = s.time := rfl
@[simp] theorem State.modChain_malformedFrames (s : State) (p : Port) (f : Chain → Chain) :
    (s.modChain p f).malformedFrames = s.malformedFrames := rfl
@[simp] theorem State.modChain_autoClear (s : State) (p : Port) (f : Chain → Chain) :
    (s.modChain p f).autoClear = s.autoClear := rfl
@[simp] theorem State.modChain_intake (s : State) (p : Port) (f : Chain → Chain) :
    (s.modChain p f).intake = s.intake := rfl
@[simp] theorem State.modChain_pageSize (s : State) (p : Port) (f : Chain → Chain) :
    (s.modChain p f).pageSize = s.pageSize := rfl
@[simp] theorem State.modChain_ring (s : State) (p : Port) (f : Chain → Chain) : (s.modChain p f).ring = s.ring := rfl
@[simp] theorem State.modChain_detector (s : State) (p : Port) (f : Chain → Chain) :
    (s.modChain p f).detector = s.detector := rfl
@[simp] theorem State.modChain_refiner (s : State) (p : Port) (f : Chain → Chain) :
    (s.modChain p f).refiner = s.refiner := rfl
@[simp] theorem State.modChain_table (s : State) (p : Port) (f : Chain → Chain) :
    (s.modChain p f).table = s.table := rfl
@[simp] theorem State.modChain_grouper (s : State) (p : Port) (f : Chain → Chain) :
    (s.modChain p f).grouper = s.grouper := rfl
@[simp] theorem State.modChain_offers (s : State) (p : Port) (f : Chain → Chain) :
    (s.modChain p f).offers = s.offers := rfl
@[simp] theorem State.modChain_chains (s : State) (p : Port) (f : Chain → Chain) :
    (s.modChain p f).chains = s.chains.set p (f (s.chains.get p)) := rfl

@[simp] theorem State.modChain_presets (s : State) (p : Port) (f : Chain → Chain) :
    (s.modChain p f).presets = s.presets := rfl
@[simp] theorem State.modChain_arbiter (s : State) (p : Port) (f : Chain → Chain) :
    (s.modChain p f).arbiter = s.arbiter := rfl
@[simp] theorem State.modChain_ports (s : State) (p : Port) (f : Chain → Chain) :
    (s.modChain p f).ports = s.ports := rfl
@[simp] theorem State.modChain_attention (s : State) (p : Port) (f : Chain → Chain) :
    (s.modChain p f).attention = s.attention := rfl
@[simp] theorem State.modChain_frozen (s : State) (p : Port) (f : Chain → Chain) :
    (s.modChain p f).frozen = s.frozen := rfl
@[simp] theorem State.modChain_softResets (s : State) (p : Port) (f : Chain → Chain) :
    (s.modChain p f).softResets = s.softResets := rfl

/-! ### `State.modPort` -/

@[simp] theorem State.modPort_pending (s : State) (p : Port) (f : PortRecord → PortRecord) :
    (s.modPort p f).pending = s.pending := rfl
@[simp] theorem State.modPort_time (s : State) (p : Port) (f : PortRecord → PortRecord) :
    (s.modPort p f).time = s.time := rfl
@[simp] theorem State.modPort_malformedFrames (s : State) (p : Port) (f : PortRecord → PortRecord) :
    (s.modPort p f).malformedFrames = s.malformedFrames := rfl
@[simp] theorem State.modPort_autoClear (s : State) (p : Port) (f : PortRecord → PortRecord) :
    (s.modPort p f).autoClear = s.autoClear := rfl
@[simp] theorem State.modPort_intake (s : State) (p : Port) (f : PortRecord → PortRecord) :
    (s.modPort p f).intake = s.intake := rfl
@[simp] theorem State.modPort_pageSize (s : State) (p : Port) (f : PortRecord → PortRecord) :
    (s.modPort p f).pageSize = s.pageSize := rfl
@[simp] theorem State.modPort_ring (s : State) (p : Port) (f : PortRecord → PortRecord) :
    (s.modPort p f).ring = s.ring := rfl
@[simp] theorem State.modPort_detector (s : State) (p : Port) (f : PortRecord → PortRecord) :
    (s.modPort p f).detector = s.detector := rfl
@[simp] theorem State.modPort_refiner (s : State) (p : Port) (f : PortRecord → PortRecord) :
    (s.modPort p f).refiner = s.refiner := rfl
@[simp] theorem State.modPort_table (s : State) (p : Port) (f : PortRecord → PortRecord) :
    (s.modPort p f).table = s.table := rfl
@[simp] theorem State.modPort_grouper (s : State) (p : Port) (f : PortRecord → PortRecord) :
    (s.modPort p f).grouper = s.grouper := rfl
@[simp] theorem State.modPort_offers (s : State) (p : Port) (f : PortRecord → PortRecord) :
    (s.modPort p f).offers = s.offers := rfl
@[simp] theorem State.modPort_chains (s : State) (p : Port) (f : PortRecord → PortRecord) :
    (s.modPort p f).chains = s.chains := rfl
@[simp] theorem State.modPort_presets (s : State) (p : Port) (f : PortRecord → PortRecord) :
    (s.modPort p f).presets = s.presets := rfl
@[simp] theorem State.modPort_arbiter (s : State) (p : Port) (f : PortRecord → PortRecord) :
    (s.modPort p f).arbiter = s.arbiter := rfl
@[simp] theorem State.modPort_ports (s : State) (p : Port) (f : PortRecord → PortRecord) :
    (s.modPort p f).ports = s.ports.set p (f (s.ports.get p)) := rfl

@[simp] theorem State.modPort_attention (s : State) (p : Port) (f : PortRecord → PortRecord) :
    (s.modPort p f).attention = s.attention := rfl
@[simp] theorem State.modPort_frozen (s : State) (p : Port) (f : PortRecord → PortRecord) :
    (s.modPort p f).frozen = s.frozen := rfl
@[simp] theorem State.modPort_softResets (s : State) (p : Port) (f : PortRecord → PortRecord) :
    (s.modPort p f).softResets = s.softResets := rfl

/-! ### `State.modAttention` -/

@[simp] theorem State.modAttention_pending (s : State) (p : Port) (f : AttnRecord → AttnRecord) :
    (s.modAttention p f).pending = s.pending := rfl
@[simp] theorem State.modAttention_time (s : State) (p : Port) (f : AttnRecord → AttnRecord) :
    (s.modAttention p f).time = s.time := rfl
@[simp] theorem State.modAttention_malformedFrames (s : State) (p : Port) (f : AttnRecord → AttnRecord) :
    (s.modAttention p f).malformedFrames = s.malformedFrames := rfl
@[simp] theorem State.modAttention_autoClear (s : State) (p : Port) (f : AttnRecord → AttnRecord) :
    (s.modAttention p f).autoClear = s.autoClear := rfl
@[simp] theorem State.modAttention_intake (s : State) (p : Port) (f : AttnRecord → AttnRecord) :
    (s.modAttention p f).intake = s.intake := rfl
@[simp] theorem State.modAttention_pageSize (s : State) (p : Port) (f : AttnRecord → AttnRecord) :
    (s.modAttention p f).pageSize = s.pageSize := rfl
@[simp] theorem State.modAttention_ring (s : State) (p : Port) (f : AttnRecord → AttnRecord) :
    (s.modAttention p f).ring = s.ring := rfl
@[simp] theorem State.modAttention_detector (s : State) (p : Port) (f : AttnRecord → AttnRecord) :
    (s.modAttention p f).detector = s.detector := rfl
@[simp] theorem State.modAttention_refiner (s : State) (p : Port) (f : AttnRecord → AttnRecord) :
    (s.modAttention p f).refiner = s.refiner := rfl
@[simp] theorem State.modAttention_table (s : State) (p : Port) (f : AttnRecord → AttnRecord) :
    (s.modAttention p f).table = s.table := rfl
@[simp] theorem State.modAttention_grouper (s : State) (p : Port) (f : AttnRecord → AttnRecord) :
    (s.modAttention p f).grouper = s.grouper := rfl
@[simp] theorem State.modAttention_offers (s : State) (p : Port) (f : AttnRecord → AttnRecord) :
    (s.modAttention p f).offers = s.offers := rfl
@[simp] theorem State.modAttention_chains (s : State) (p : Port) (f : AttnRecord → AttnRecord) :
    (s.modAttention p f).chains = s.chains := rfl
@[simp] theorem State.modAttention_presets (s : State) (p : Port) (f : AttnRecord → AttnRecord) :
    (s.modAttention p f).presets = s.presets := rfl
@[simp] theorem State.modAttention_arbiter (s : State) (p : Port) (f : AttnRecord → AttnRecord) :
    (s.modAttention p f).arbiter = s.arbiter := rfl
@[simp] theorem State.modAttention_ports (s : State) (p : Port) (f : AttnRecord → AttnRecord) :
    (s.modAttention p f).ports = s.ports := rfl
@[simp] theorem State.modAttention_attention (s : State) (p : Port) (f : AttnRecord → AttnRecord) :
    (s.modAttention p f).attention = s.attention.set p (f (s.attention.get p)) := rfl

@[simp] theorem State.modAttention_frozen (s : State) (p : Port) (f : AttnRecord → AttnRecord) :
    (s.modAttention p f).frozen = s.frozen := rfl
@[simp] theorem State.modAttention_softResets (s : State) (p : Port) (f : AttnRecord → AttnRecord) :
    (s.modAttention p f).softResets = s.softResets := rfl

/-! ### `State.modOffers` -/

@[simp] theorem State.modOffers_pending (s : State) (p : Port) (f : OfferRecord → OfferRecord) :
    (s.modOffers p f).pending = s.pending := rfl
@[simp] theorem State.modOffers_time (s : State) (p : Port) (f : OfferRecord → OfferRecord) :
    (s.modOffers p f).time = s.time := rfl
@[simp] theorem State.modOffers_malformedFrames (s : State) (p : Port) (f : OfferRecord → OfferRecord) :
    (s.modOffers p f).malformedFrames = s.malformedFrames := rfl
@[simp] theorem State.modOffers_autoClear (s : State) (p : Port) (f : OfferRecord → OfferRecord) :
    (s.modOffers p f).autoClear = s.autoClear := rfl
@[simp] theorem State.modOffers_intake (s : State) (p : Port) (f : OfferRecord → OfferRecord) :
    (s.modOffers p f).intake = s.intake := rfl
@[simp] theorem State.modOffers_pageSize (s : State) (p : Port) (f : OfferRecord → OfferRecord) :
    (s.modOffers p f).pageSize = s.pageSize := rfl
@[simp] theorem State.modOffers_ring (s : State) (p : Port) (f : OfferRecord → OfferRecord) :
    (s.modOffers p f).ring = s.ring := rfl
@[simp] theorem State.modOffers_detector (s : State) (p : Port) (f : OfferRecord → OfferRecord) :
    (s.modOffers p f).detector = s.detector := rfl
@[simp] theorem State.modOffers_refiner (s : State) (p : Port) (f : OfferRecord → OfferRecord) :
    (s.modOffers p f).refiner = s.refiner := rfl
@[simp] theorem State.modOffers_table (s : State) (p : Port) (f : OfferRecord → OfferRecord) :
    (s.modOffers p f).table = s.table := rfl
@[simp] theorem State.modOffers_grouper (s : State) (p : Port) (f : OfferRecord → OfferRecord) :
    (s.modOffers p f).grouper = s.grouper := rfl
@[simp] theorem State.modOffers_offers (s : State) (p : Port) (f : OfferRecord → OfferRecord) :
    (s.modOffers p f).offers = s.offers.set p (f (s.offers.get p)) := rfl

@[simp] theorem State.modOffers_chains (s : State) (p : Port) (f : OfferRecord → OfferRecord) :
    (s.modOffers p f).chains = s.chains := rfl
@[simp] theorem State.modOffers_presets (s : State) (p : Port) (f : OfferRecord → OfferRecord) :
    (s.modOffers p f).presets = s.presets := rfl
@[simp] theorem State.modOffers_arbiter (s : State) (p : Port) (f : OfferRecord → OfferRecord) :
    (s.modOffers p f).arbiter = s.arbiter := rfl
@[simp] theorem State.modOffers_ports (s : State) (p : Port) (f : OfferRecord → OfferRecord) :
    (s.modOffers p f).ports = s.ports := rfl
@[simp] theorem State.modOffers_attention (s : State) (p : Port) (f : OfferRecord → OfferRecord) :
    (s.modOffers p f).attention = s.attention := rfl
@[simp] theorem State.modOffers_frozen (s : State) (p : Port) (f : OfferRecord → OfferRecord) :
    (s.modOffers p f).frozen = s.frozen := rfl
@[simp] theorem State.modOffers_softResets (s : State) (p : Port) (f : OfferRecord → OfferRecord) :
    (s.modOffers p f).softResets = s.softResets := rfl

/-! ### `State.modQueue` -/

@[simp] theorem State.modQueue_pending (s : State) (sen : Sensor) (f : List RefineRequest → List RefineRequest) :
    (s.modQueue sen f).pending = s.pending := rfl
@[simp] theorem State.modQueue_time (s : State) (sen : Sensor) (f : List RefineRequest → List RefineRequest) :
    (s.modQueue sen f).time = s.time := rfl
@[simp] theorem State.modQueue_malformedFrames (s : State) (sen : Sensor) (f : List RefineRequest → List RefineRequest) :
    (s.modQueue sen f).malformedFrames = s.malformedFrames := rfl
@[simp] theorem State.modQueue_autoClear (s : State) (sen : Sensor) (f : List RefineRequest → List RefineRequest) :
    (s.modQueue sen f).autoClear = s.autoClear := rfl
@[simp] theorem State.modQueue_intake (s : State) (sen : Sensor) (f : List RefineRequest → List RefineRequest) :
    (s.modQueue sen f).intake = s.intake := rfl
@[simp] theorem State.modQueue_pageSize (s : State) (sen : Sensor) (f : List RefineRequest → List RefineRequest) :
    (s.modQueue sen f).pageSize = s.pageSize := rfl
@[simp] theorem State.modQueue_ring (s : State) (sen : Sensor) (f : List RefineRequest → List RefineRequest) :
    (s.modQueue sen f).ring = s.ring := rfl
@[simp] theorem State.modQueue_detector (s : State) (sen : Sensor) (f : List RefineRequest → List RefineRequest) :
    (s.modQueue sen f).detector = s.detector := rfl
@[simp] theorem State.modQueue_refiner (s : State) (sen : Sensor) (f : List RefineRequest → List RefineRequest) :
    (s.modQueue sen f).refiner = { s.refiner with queues := s.refiner.queues.set sen (f (s.refiner.queues.get sen)) } := rfl

@[simp] theorem State.modQueue_table (s : State) (sen : Sensor) (f : List RefineRequest → List RefineRequest) :
    (s.modQueue sen f).table = s.table := rfl
@[simp] theorem State.modQueue_grouper (s : State) (sen : Sensor) (f : List RefineRequest → List RefineRequest) :
    (s.modQueue sen f).grouper = s.grouper := rfl
@[simp] theorem State.modQueue_offers (s : State) (sen : Sensor) (f : List RefineRequest → List RefineRequest) :
    (s.modQueue sen f).offers = s.offers := rfl
@[simp] theorem State.modQueue_chains (s : State) (sen : Sensor) (f : List RefineRequest → List RefineRequest) :
    (s.modQueue sen f).chains = s.chains := rfl
@[simp] theorem State.modQueue_presets (s : State) (sen : Sensor) (f : List RefineRequest → List RefineRequest) :
    (s.modQueue sen f).presets = s.presets := rfl
@[simp] theorem State.modQueue_arbiter (s : State) (sen : Sensor) (f : List RefineRequest → List RefineRequest) :
    (s.modQueue sen f).arbiter = s.arbiter := rfl
@[simp] theorem State.modQueue_ports (s : State) (sen : Sensor) (f : List RefineRequest → List RefineRequest) :
    (s.modQueue sen f).ports = s.ports := rfl
@[simp] theorem State.modQueue_attention (s : State) (sen : Sensor) (f : List RefineRequest → List RefineRequest) :
    (s.modQueue sen f).attention = s.attention := rfl
@[simp] theorem State.modQueue_frozen (s : State) (sen : Sensor) (f : List RefineRequest → List RefineRequest) :
    (s.modQueue sen f).frozen = s.frozen := rfl
@[simp] theorem State.modQueue_softResets (s : State) (sen : Sensor) (f : List RefineRequest → List RefineRequest) :
    (s.modQueue sen f).softResets = s.softResets := rfl

/-! ### `State.respond` -/

@[simp] theorem State.respond_pending (s : State) (p : Port) (code : Byte) (result : Result) (data : List Byte) :
    (s.respond p code result data).pending = s.pending := rfl
@[simp] theorem State.respond_time (s : State) (p : Port) (code : Byte) (result : Result) (data : List Byte) :
    (s.respond p code result data).time = s.time := rfl
@[simp] theorem State.respond_malformedFrames (s : State) (p : Port) (code : Byte) (result : Result) (data : List Byte) :
    (s.respond p code result data).malformedFrames = s.malformedFrames := rfl
@[simp] theorem State.respond_autoClear (s : State) (p : Port) (code : Byte) (result : Result) (data : List Byte) :
    (s.respond p code result data).autoClear = s.autoClear := rfl
@[simp] theorem State.respond_intake (s : State) (p : Port) (code : Byte) (result : Result) (data : List Byte) :
    (s.respond p code result data).intake = s.intake := rfl
@[simp] theorem State.respond_pageSize (s : State) (p : Port) (code : Byte) (result : Result) (data : List Byte) :
    (s.respond p code result data).pageSize = s.pageSize := rfl
@[simp] theorem State.respond_ring (s : State) (p : Port) (code : Byte) (result : Result) (data : List Byte) :
    (s.respond p code result data).ring = s.ring := rfl
@[simp] theorem State.respond_detector (s : State) (p : Port) (code : Byte) (result : Result) (data : List Byte) :
    (s.respond p code result data).detector = s.detector := rfl
@[simp] theorem State.respond_refiner (s : State) (p : Port) (code : Byte) (result : Result) (data : List Byte) :
    (s.respond p code result data).refiner = s.refiner := rfl
@[simp] theorem State.respond_table (s : State) (p : Port) (code : Byte) (result : Result) (data : List Byte) :
    (s.respond p code result data).table = s.table := rfl
@[simp] theorem State.respond_grouper (s : State) (p : Port) (code : Byte) (result : Result) (data : List Byte) :
    (s.respond p code result data).grouper = s.grouper := rfl
@[simp] theorem State.respond_offers (s : State) (p : Port) (code : Byte) (result : Result) (data : List Byte) :
    (s.respond p code result data).offers = s.offers := rfl
@[simp] theorem State.respond_chains (s : State) (p : Port) (code : Byte) (result : Result) (data : List Byte) :
    (s.respond p code result data).chains = s.chains := rfl
@[simp] theorem State.respond_presets (s : State) (p : Port) (code : Byte) (result : Result) (data : List Byte) :
    (s.respond p code result data).presets = s.presets := rfl
@[simp] theorem State.respond_arbiter (s : State) (p : Port) (code : Byte) (result : Result) (data : List Byte) :
    (s.respond p code result data).arbiter = s.arbiter := rfl
@[simp] theorem State.respond_ports (s : State) (p : Port) (code : Byte) (result : Result) (data : List Byte) :
    (s.respond p code result data).ports = s.ports.set p { s.ports.get p with slot := .done ⟨code, result, data⟩ } := rfl

@[simp] theorem State.respond_attention (s : State) (p : Port) (code : Byte) (result : Result) (data : List Byte) :
    (s.respond p code result data).attention = s.attention := rfl
@[simp] theorem State.respond_frozen (s : State) (p : Port) (code : Byte) (result : Result) (data : List Byte) :
    (s.respond p code result data).frozen = s.frozen := rfl
@[simp] theorem State.respond_softResets (s : State) (p : Port) (code : Byte) (result : Result) (data : List Byte) :
    (s.respond p code result data).softResets = s.softResets := rfl

/-! ### `State.raise` -/

@[simp] theorem State.raise_pending (s : State) (p : Port) (c : AttnClass) : (s.raise p c).pending = s.pending := rfl
@[simp] theorem State.raise_time (s : State) (p : Port) (c : AttnClass) : (s.raise p c).time = s.time := rfl
@[simp] theorem State.raise_malformedFrames (s : State) (p : Port) (c : AttnClass) :
    (s.raise p c).malformedFrames = s.malformedFrames := rfl
@[simp] theorem State.raise_autoClear (s : State) (p : Port) (c : AttnClass) :
    (s.raise p c).autoClear = s.autoClear := rfl
@[simp] theorem State.raise_intake (s : State) (p : Port) (c : AttnClass) : (s.raise p c).intake = s.intake := rfl
@[simp] theorem State.raise_pageSize (s : State) (p : Port) (c : AttnClass) :
    (s.raise p c).pageSize = s.pageSize := rfl
@[simp] theorem State.raise_ring (s : State) (p : Port) (c : AttnClass) : (s.raise p c).ring = s.ring := rfl
@[simp] theorem State.raise_detector (s : State) (p : Port) (c : AttnClass) :
    (s.raise p c).detector = s.detector := rfl
@[simp] theorem State.raise_refiner (s : State) (p : Port) (c : AttnClass) : (s.raise p c).refiner = s.refiner := rfl
@[simp] theorem State.raise_table (s : State) (p : Port) (c : AttnClass) : (s.raise p c).table = s.table := rfl
@[simp] theorem State.raise_grouper (s : State) (p : Port) (c : AttnClass) : (s.raise p c).grouper = s.grouper := rfl
@[simp] theorem State.raise_offers (s : State) (p : Port) (c : AttnClass) : (s.raise p c).offers = s.offers := rfl
@[simp] theorem State.raise_chains (s : State) (p : Port) (c : AttnClass) : (s.raise p c).chains = s.chains := rfl
@[simp] theorem State.raise_presets (s : State) (p : Port) (c : AttnClass) : (s.raise p c).presets = s.presets := rfl
@[simp] theorem State.raise_arbiter (s : State) (p : Port) (c : AttnClass) : (s.raise p c).arbiter = s.arbiter := rfl
@[simp] theorem State.raise_ports (s : State) (p : Port) (c : AttnClass) : (s.raise p c).ports = s.ports := rfl
@[simp] theorem State.raise_attention (s : State) (p : Port) (c : AttnClass) :
    (s.raise p c).attention = s.attention.set p ((s.attention.get p).becomePending s.time.localTime c) := rfl

@[simp] theorem State.raise_frozen (s : State) (p : Port) (c : AttnClass) : (s.raise p c).frozen = s.frozen := rfl
@[simp] theorem State.raise_softResets (s : State) (p : Port) (c : AttnClass) :
    (s.raise p c).softResets = s.softResets := rfl

/-! ### `State.raiseBoth` -/

@[simp] theorem State.raiseBoth_pending (s : State) (c : AttnClass) : (s.raiseBoth c).pending = s.pending := rfl
@[simp] theorem State.raiseBoth_time (s : State) (c : AttnClass) : (s.raiseBoth c).time = s.time := rfl
@[simp] theorem State.raiseBoth_malformedFrames (s : State) (c : AttnClass) :
    (s.raiseBoth c).malformedFrames = s.malformedFrames := rfl
@[simp] theorem State.raiseBoth_autoClear (s : State) (c : AttnClass) : (s.raiseBoth c).autoClear = s.autoClear := rfl
@[simp] theorem State.raiseBoth_intake (s : State) (c : AttnClass) : (s.raiseBoth c).intake = s.intake := rfl
@[simp] theorem State.raiseBoth_pageSize (s : State) (c : AttnClass) : (s.raiseBoth c).pageSize = s.pageSize := rfl
@[simp] theorem State.raiseBoth_ring (s : State) (c : AttnClass) : (s.raiseBoth c).ring = s.ring := rfl
@[simp] theorem State.raiseBoth_detector (s : State) (c : AttnClass) : (s.raiseBoth c).detector = s.detector := rfl
@[simp] theorem State.raiseBoth_refiner (s : State) (c : AttnClass) : (s.raiseBoth c).refiner = s.refiner := rfl
@[simp] theorem State.raiseBoth_table (s : State) (c : AttnClass) : (s.raiseBoth c).table = s.table := rfl
@[simp] theorem State.raiseBoth_grouper (s : State) (c : AttnClass) : (s.raiseBoth c).grouper = s.grouper := rfl
@[simp] theorem State.raiseBoth_offers (s : State) (c : AttnClass) : (s.raiseBoth c).offers = s.offers := rfl
@[simp] theorem State.raiseBoth_chains (s : State) (c : AttnClass) : (s.raiseBoth c).chains = s.chains := rfl
@[simp] theorem State.raiseBoth_presets (s : State) (c : AttnClass) : (s.raiseBoth c).presets = s.presets := rfl
@[simp] theorem State.raiseBoth_arbiter (s : State) (c : AttnClass) : (s.raiseBoth c).arbiter = s.arbiter := rfl
@[simp] theorem State.raiseBoth_ports (s : State) (c : AttnClass) : (s.raiseBoth c).ports = s.ports := rfl
@[simp] theorem State.raiseBoth_attention (s : State) (c : AttnClass) :
    (s.raiseBoth c).attention = s.attention.map (AttnRecord.becomePending s.time.localTime c) := rfl

@[simp] theorem State.raiseBoth_frozen (s : State) (c : AttnClass) : (s.raiseBoth c).frozen = s.frozen := rfl
@[simp] theorem State.raiseBoth_softResets (s : State) (c : AttnClass) :
    (s.raiseBoth c).softResets = s.softResets := rfl

/-! ### `State.settingsChanged` -/

@[simp] theorem State.settingsChanged_pending (s : State) (p : Port) :
    (s.settingsChanged p).pending = s.pending := rfl
@[simp] theorem State.settingsChanged_time (s : State) (p : Port) : (s.settingsChanged p).time = s.time := rfl
@[simp] theorem State.settingsChanged_malformedFrames (s : State) (p : Port) :
    (s.settingsChanged p).malformedFrames = s.malformedFrames := rfl
@[simp] theorem State.settingsChanged_autoClear (s : State) (p : Port) :
    (s.settingsChanged p).autoClear = s.autoClear := rfl
@[simp] theorem State.settingsChanged_intake (s : State) (p : Port) : (s.settingsChanged p).intake = s.intake := rfl
@[simp] theorem State.settingsChanged_pageSize (s : State) (p : Port) :
    (s.settingsChanged p).pageSize = s.pageSize := rfl
@[simp] theorem State.settingsChanged_ring (s : State) (p : Port) : (s.settingsChanged p).ring = s.ring := rfl
@[simp] theorem State.settingsChanged_detector (s : State) (p : Port) :
    (s.settingsChanged p).detector = s.detector := rfl
@[simp] theorem State.settingsChanged_refiner (s : State) (p : Port) :
    (s.settingsChanged p).refiner = s.refiner := rfl
@[simp] theorem State.settingsChanged_table (s : State) (p : Port) : (s.settingsChanged p).table = s.table := rfl
@[simp] theorem State.settingsChanged_grouper (s : State) (p : Port) :
    (s.settingsChanged p).grouper = s.grouper := rfl
@[simp] theorem State.settingsChanged_offers (s : State) (p : Port) : (s.settingsChanged p).offers = s.offers := rfl
@[simp] theorem State.settingsChanged_chains (s : State) (p : Port) : (s.settingsChanged p).chains = s.chains := rfl
@[simp] theorem State.settingsChanged_presets (s : State) (p : Port) :
    (s.settingsChanged p).presets = s.presets := rfl
@[simp] theorem State.settingsChanged_arbiter (s : State) (p : Port) :
    (s.settingsChanged p).arbiter = s.arbiter := rfl
@[simp] theorem State.settingsChanged_ports (s : State) (p : Port) : (s.settingsChanged p).ports = s.ports := rfl
@[simp] theorem State.settingsChanged_attention (s : State) (p : Port) :
    (s.settingsChanged p).attention = settingsNews s.time.localTime p s.attention := rfl

@[simp] theorem State.settingsChanged_frozen (s : State) (p : Port) : (s.settingsChanged p).frozen = s.frozen := rfl
@[simp] theorem State.settingsChanged_softResets (s : State) (p : Port) :
    (s.settingsChanged p).softResets = s.softResets := rfl

/-! ### `State.setIntakeFlag` -/

@[simp] theorem State.setIntakeFlag_pending (s : State) (sen : Sensor) (f : IntakeFlag) :
    (s.setIntakeFlag sen f).pending = s.pending := rfl
@[simp] theorem State.setIntakeFlag_time (s : State) (sen : Sensor) (f : IntakeFlag) :
    (s.setIntakeFlag sen f).time = s.time := rfl
@[simp] theorem State.setIntakeFlag_malformedFrames (s : State) (sen : Sensor) (f : IntakeFlag) :
    (s.setIntakeFlag sen f).malformedFrames = s.malformedFrames := rfl
@[simp] theorem State.setIntakeFlag_autoClear (s : State) (sen : Sensor) (f : IntakeFlag) :
    (s.setIntakeFlag sen f).autoClear = s.autoClear := rfl
@[simp] theorem State.setIntakeFlag_intake (s : State) (sen : Sensor) (f : IntakeFlag) :
    (s.setIntakeFlag sen f).intake = s.intake.set sen { s.intake.get sen with flags := (s.intake.get sen).flags.insert f } := rfl

@[simp] theorem State.setIntakeFlag_pageSize (s : State) (sen : Sensor) (f : IntakeFlag) :
    (s.setIntakeFlag sen f).pageSize = s.pageSize := rfl
@[simp] theorem State.setIntakeFlag_ring (s : State) (sen : Sensor) (f : IntakeFlag) :
    (s.setIntakeFlag sen f).ring = s.ring := rfl
@[simp] theorem State.setIntakeFlag_detector (s : State) (sen : Sensor) (f : IntakeFlag) :
    (s.setIntakeFlag sen f).detector = s.detector := rfl
@[simp] theorem State.setIntakeFlag_refiner (s : State) (sen : Sensor) (f : IntakeFlag) :
    (s.setIntakeFlag sen f).refiner = s.refiner := rfl
@[simp] theorem State.setIntakeFlag_table (s : State) (sen : Sensor) (f : IntakeFlag) :
    (s.setIntakeFlag sen f).table = s.table := rfl
@[simp] theorem State.setIntakeFlag_grouper (s : State) (sen : Sensor) (f : IntakeFlag) :
    (s.setIntakeFlag sen f).grouper = s.grouper := rfl
@[simp] theorem State.setIntakeFlag_offers (s : State) (sen : Sensor) (f : IntakeFlag) :
    (s.setIntakeFlag sen f).offers = s.offers := rfl
@[simp] theorem State.setIntakeFlag_chains (s : State) (sen : Sensor) (f : IntakeFlag) :
    (s.setIntakeFlag sen f).chains = s.chains := rfl
@[simp] theorem State.setIntakeFlag_presets (s : State) (sen : Sensor) (f : IntakeFlag) :
    (s.setIntakeFlag sen f).presets = s.presets := rfl
@[simp] theorem State.setIntakeFlag_arbiter (s : State) (sen : Sensor) (f : IntakeFlag) :
    (s.setIntakeFlag sen f).arbiter = s.arbiter := rfl
@[simp] theorem State.setIntakeFlag_ports (s : State) (sen : Sensor) (f : IntakeFlag) :
    (s.setIntakeFlag sen f).ports = s.ports := rfl
@[simp] theorem State.setIntakeFlag_frozen (s : State) (sen : Sensor) (f : IntakeFlag) :
    (s.setIntakeFlag sen f).frozen = s.frozen := rfl
@[simp] theorem State.setIntakeFlag_softResets (s : State) (sen : Sensor) (f : IntakeFlag) :
    (s.setIntakeFlag sen f).softResets = s.softResets := rfl

/-! ### `State.setNotices` -/

@[simp] theorem State.setNotices_pending (s : State) (p : Port) (l : List Notice) :
    (s.setNotices p l).pending = s.pending := rfl
@[simp] theorem State.setNotices_time (s : State) (p : Port) (l : List Notice) :
    (s.setNotices p l).time = s.time := rfl
@[simp] theorem State.setNotices_malformedFrames (s : State) (p : Port) (l : List Notice) :
    (s.setNotices p l).malformedFrames = s.malformedFrames := rfl
@[simp] theorem State.setNotices_autoClear (s : State) (p : Port) (l : List Notice) :
    (s.setNotices p l).autoClear = s.autoClear := rfl
@[simp] theorem State.setNotices_intake (s : State) (p : Port) (l : List Notice) :
    (s.setNotices p l).intake = s.intake := rfl
@[simp] theorem State.setNotices_pageSize (s : State) (p : Port) (l : List Notice) :
    (s.setNotices p l).pageSize = s.pageSize := rfl
@[simp] theorem State.setNotices_ring (s : State) (p : Port) (l : List Notice) :
    (s.setNotices p l).ring = s.ring := rfl
@[simp] theorem State.setNotices_detector (s : State) (p : Port) (l : List Notice) :
    (s.setNotices p l).detector = s.detector := rfl
@[simp] theorem State.setNotices_refiner (s : State) (p : Port) (l : List Notice) :
    (s.setNotices p l).refiner = s.refiner := rfl
@[simp] theorem State.setNotices_table (s : State) (p : Port) (l : List Notice) :
    (s.setNotices p l).table = s.table := rfl
@[simp] theorem State.setNotices_grouper (s : State) (p : Port) (l : List Notice) :
    (s.setNotices p l).grouper = s.grouper := rfl
@[simp] theorem State.setNotices_offers (s : State) (p : Port) (l : List Notice) :
    (s.setNotices p l).offers = s.offers.set p { s.offers.get p with notices := l } := rfl

@[simp] theorem State.setNotices_chains (s : State) (p : Port) (l : List Notice) :
    (s.setNotices p l).chains = s.chains := rfl
@[simp] theorem State.setNotices_presets (s : State) (p : Port) (l : List Notice) :
    (s.setNotices p l).presets = s.presets := rfl
@[simp] theorem State.setNotices_arbiter (s : State) (p : Port) (l : List Notice) :
    (s.setNotices p l).arbiter = s.arbiter := rfl
@[simp] theorem State.setNotices_ports (s : State) (p : Port) (l : List Notice) :
    (s.setNotices p l).ports = s.ports := rfl
@[simp] theorem State.setNotices_attention (s : State) (p : Port) (l : List Notice) :
    (s.setNotices p l).attention = s.attention.set p
      (offerNews s.time.localTime (s.offers.get p).notices l (s.attention.get p)) := rfl

@[simp] theorem State.setNotices_frozen (s : State) (p : Port) (l : List Notice) :
    (s.setNotices p l).frozen = s.frozen := rfl
@[simp] theorem State.setNotices_softResets (s : State) (p : Port) (l : List Notice) :
    (s.setNotices p l).softResets = s.softResets := rfl

/-! ### `State.modPick` -/

@[simp] theorem State.modPick_pending (s : State) (id : Nat) (f : PickRecord → PickRecord) :
    (s.modPick id f).pending = s.pending := rfl
@[simp] theorem State.modPick_time (s : State) (id : Nat) (f : PickRecord → PickRecord) :
    (s.modPick id f).time = s.time := rfl
@[simp] theorem State.modPick_malformedFrames (s : State) (id : Nat) (f : PickRecord → PickRecord) :
    (s.modPick id f).malformedFrames = s.malformedFrames := rfl
@[simp] theorem State.modPick_autoClear (s : State) (id : Nat) (f : PickRecord → PickRecord) :
    (s.modPick id f).autoClear = s.autoClear := rfl
@[simp] theorem State.modPick_intake (s : State) (id : Nat) (f : PickRecord → PickRecord) :
    (s.modPick id f).intake = s.intake := rfl
@[simp] theorem State.modPick_pageSize (s : State) (id : Nat) (f : PickRecord → PickRecord) :
    (s.modPick id f).pageSize = s.pageSize := rfl
@[simp] theorem State.modPick_ring (s : State) (id : Nat) (f : PickRecord → PickRecord) :
    (s.modPick id f).ring = s.ring := rfl
@[simp] theorem State.modPick_detector (s : State) (id : Nat) (f : PickRecord → PickRecord) :
    (s.modPick id f).detector = s.detector := rfl
@[simp] theorem State.modPick_refiner (s : State) (id : Nat) (f : PickRecord → PickRecord) :
    (s.modPick id f).refiner = s.refiner := rfl
@[simp] theorem State.modPick_table (s : State) (id : Nat) (f : PickRecord → PickRecord) :
    (s.modPick id f).table = { s.table with records := s.table.records.map fun r => if r.id = id then f r else r } := rfl

@[simp] theorem State.modPick_grouper (s : State) (id : Nat) (f : PickRecord → PickRecord) :
    (s.modPick id f).grouper = s.grouper := rfl
@[simp] theorem State.modPick_offers (s : State) (id : Nat) (f : PickRecord → PickRecord) :
    (s.modPick id f).offers = s.offers := rfl
@[simp] theorem State.modPick_chains (s : State) (id : Nat) (f : PickRecord → PickRecord) :
    (s.modPick id f).chains = s.chains := rfl
@[simp] theorem State.modPick_presets (s : State) (id : Nat) (f : PickRecord → PickRecord) :
    (s.modPick id f).presets = s.presets := rfl
@[simp] theorem State.modPick_arbiter (s : State) (id : Nat) (f : PickRecord → PickRecord) :
    (s.modPick id f).arbiter = s.arbiter := rfl
@[simp] theorem State.modPick_ports (s : State) (id : Nat) (f : PickRecord → PickRecord) :
    (s.modPick id f).ports = s.ports := rfl
@[simp] theorem State.modPick_attention (s : State) (id : Nat) (f : PickRecord → PickRecord) :
    (s.modPick id f).attention = s.attention := rfl
@[simp] theorem State.modPick_frozen (s : State) (id : Nat) (f : PickRecord → PickRecord) :
    (s.modPick id f).frozen = s.frozen := rfl
@[simp] theorem State.modPick_softResets (s : State) (id : Nat) (f : PickRecord → PickRecord) :
    (s.modPick id f).softResets = s.softResets := rfl

/-! ### `State.modGroup` -/

@[simp] theorem State.modGroup_pending (s : State) (id : Nat) (f : GroupRecord → GroupRecord) :
    (s.modGroup id f).pending = s.pending := rfl
@[simp] theorem State.modGroup_time (s : State) (id : Nat) (f : GroupRecord → GroupRecord) :
    (s.modGroup id f).time = s.time := rfl
@[simp] theorem State.modGroup_malformedFrames (s : State) (id : Nat) (f : GroupRecord → GroupRecord) :
    (s.modGroup id f).malformedFrames = s.malformedFrames := rfl
@[simp] theorem State.modGroup_autoClear (s : State) (id : Nat) (f : GroupRecord → GroupRecord) :
    (s.modGroup id f).autoClear = s.autoClear := rfl
@[simp] theorem State.modGroup_intake (s : State) (id : Nat) (f : GroupRecord → GroupRecord) :
    (s.modGroup id f).intake = s.intake := rfl
@[simp] theorem State.modGroup_pageSize (s : State) (id : Nat) (f : GroupRecord → GroupRecord) :
    (s.modGroup id f).pageSize = s.pageSize := rfl
@[simp] theorem State.modGroup_ring (s : State) (id : Nat) (f : GroupRecord → GroupRecord) :
    (s.modGroup id f).ring = s.ring := rfl
@[simp] theorem State.modGroup_detector (s : State) (id : Nat) (f : GroupRecord → GroupRecord) :
    (s.modGroup id f).detector = s.detector := rfl
@[simp] theorem State.modGroup_refiner (s : State) (id : Nat) (f : GroupRecord → GroupRecord) :
    (s.modGroup id f).refiner = s.refiner := rfl
@[simp] theorem State.modGroup_table (s : State) (id : Nat) (f : GroupRecord → GroupRecord) :
    (s.modGroup id f).table = s.table := rfl
@[simp] theorem State.modGroup_grouper (s : State) (id : Nat) (f : GroupRecord → GroupRecord) :
    (s.modGroup id f).grouper = { s.grouper with groups := s.grouper.groups.map fun g => if g.id = id then f g else g } := rfl

@[simp] theorem State.modGroup_offers (s : State) (id : Nat) (f : GroupRecord → GroupRecord) :
    (s.modGroup id f).offers = s.offers := rfl
@[simp] theorem State.modGroup_chains (s : State) (id : Nat) (f : GroupRecord → GroupRecord) :
    (s.modGroup id f).chains = s.chains := rfl
@[simp] theorem State.modGroup_presets (s : State) (id : Nat) (f : GroupRecord → GroupRecord) :
    (s.modGroup id f).presets = s.presets := rfl
@[simp] theorem State.modGroup_arbiter (s : State) (id : Nat) (f : GroupRecord → GroupRecord) :
    (s.modGroup id f).arbiter = s.arbiter := rfl
@[simp] theorem State.modGroup_ports (s : State) (id : Nat) (f : GroupRecord → GroupRecord) :
    (s.modGroup id f).ports = s.ports := rfl
@[simp] theorem State.modGroup_attention (s : State) (id : Nat) (f : GroupRecord → GroupRecord) :
    (s.modGroup id f).attention = s.attention := rfl
@[simp] theorem State.modGroup_frozen (s : State) (id : Nat) (f : GroupRecord → GroupRecord) :
    (s.modGroup id f).frozen = s.frozen := rfl
@[simp] theorem State.modGroup_softResets (s : State) (id : Nat) (f : GroupRecord → GroupRecord) :
    (s.modGroup id f).softResets = s.softResets := rfl

/-! ### `State.freeGroup` -/

@[simp] theorem State.freeGroup_pending (s : State) (id : Nat) : (s.freeGroup id).pending = s.pending := rfl
@[simp] theorem State.freeGroup_time (s : State) (id : Nat) : (s.freeGroup id).time = s.time := rfl
@[simp] theorem State.freeGroup_malformedFrames (s : State) (id : Nat) :
    (s.freeGroup id).malformedFrames = s.malformedFrames := rfl
@[simp] theorem State.freeGroup_autoClear (s : State) (id : Nat) : (s.freeGroup id).autoClear = s.autoClear := rfl
@[simp] theorem State.freeGroup_intake (s : State) (id : Nat) : (s.freeGroup id).intake = s.intake := rfl
@[simp] theorem State.freeGroup_pageSize (s : State) (id : Nat) : (s.freeGroup id).pageSize = s.pageSize := rfl
@[simp] theorem State.freeGroup_ring (s : State) (id : Nat) : (s.freeGroup id).ring = s.ring := rfl
@[simp] theorem State.freeGroup_detector (s : State) (id : Nat) : (s.freeGroup id).detector = s.detector := rfl
@[simp] theorem State.freeGroup_refiner (s : State) (id : Nat) : (s.freeGroup id).refiner = s.refiner := rfl
@[simp] theorem State.freeGroup_table (s : State) (id : Nat) : (s.freeGroup id).table = s.table := rfl
@[simp] theorem State.freeGroup_grouper (s : State) (id : Nat) :
    (s.freeGroup id).grouper = { s.grouper with groups := s.grouper.groups.filter fun g => g.id != id } := rfl

@[simp] theorem State.freeGroup_offers (s : State) (id : Nat) : (s.freeGroup id).offers = s.offers := rfl
@[simp] theorem State.freeGroup_chains (s : State) (id : Nat) : (s.freeGroup id).chains = s.chains := rfl
@[simp] theorem State.freeGroup_presets (s : State) (id : Nat) : (s.freeGroup id).presets = s.presets := rfl
@[simp] theorem State.freeGroup_arbiter (s : State) (id : Nat) : (s.freeGroup id).arbiter = s.arbiter := rfl
@[simp] theorem State.freeGroup_ports (s : State) (id : Nat) : (s.freeGroup id).ports = s.ports := rfl
@[simp] theorem State.freeGroup_attention (s : State) (id : Nat) : (s.freeGroup id).attention = s.attention := rfl
@[simp] theorem State.freeGroup_frozen (s : State) (id : Nat) : (s.freeGroup id).frozen = s.frozen := rfl
@[simp] theorem State.freeGroup_softResets (s : State) (id : Nat) : (s.freeGroup id).softResets = s.softResets := rfl
/-! ### Performing -/

/-- R189, step 3: a row whose command the slot holds. -/
theorem State.perform_of_holds {s : State} {p : Port} {command : Request} (owner : State → Answer)
    (h : (s.ports.get p).slot = .busy command) :
    s.perform p command owner = (owner s).state.respond p command.code (owner s).result (owner s).data :=
  if_pos h

/-- A row whose command the slot does not hold changes nothing (log 3). -/
theorem State.perform_of_not_holds {s : State} {p : Port} {command : Request} (owner : State → Answer)
    (h : (s.ports.get p).slot ≠ .busy command) : s.perform p command owner = s :=
  if_neg h

end Sys2Proof.Machine
end

