-- ==== Sys2Proof/Laws/Attention.lean ====
section
/-! SUPPORT. The laws of class sets and of the operations on an attention record (10.3). -/

namespace Sys2Proof.Machine

/-! ### Class sets -/

theorem AttnClass.bit_lt (c : AttnClass) : c.bit < 10 := by
  cases c <;> decide

theorem AttnClass.bit_inj {c d : AttnClass} (h : c.bit = d.bit) : c = d := by
  cases c <;> cases d <;> first | rfl | exact absurd h (by decide)

theorem ClassSet.has_only (c d : AttnClass) : ClassSet.has c.only d = decide (d = c) := by
  cases c <;> cases d <;> rfl

@[simp] theorem ClassSet.has_insert (x : ClassSet) (c d : AttnClass) :
    ClassSet.has (ClassSet.insert x c) d = (ClassSet.has x d || decide (d = c)) := by
  rw [← ClassSet.has_only]
  simp [ClassSet.has, ClassSet.insert]

@[simp] theorem ClassSet.has_erase (x : ClassSet) (c d : AttnClass) :
    ClassSet.has (ClassSet.erase x c) d = (ClassSet.has x d && !decide (d = c)) := by
  rw [← ClassSet.has_only]
  simp [ClassSet.has, ClassSet.erase, AttnClass.bit_lt]

@[simp] theorem ClassSet.has_zero (d : AttnClass) : ClassSet.has 0#10 d = false := by
  simp [ClassSet.has]

theorem ClassSet.has_and_not (x y : ClassSet) (d : AttnClass) :
    ClassSet.has (x &&& ~~~ y) d = (ClassSet.has x d && !ClassSet.has y d) := by
  simp [ClassSet.has, AttnClass.bit_lt]

/-! ### The operations on one record -/

/-- A class that becomes pending is pending; the others stay as they were. -/
@[simp] theorem AttnRecord.has_becomePending (now : Nat) (c d : AttnClass) (r : AttnRecord) :
    ClassSet.has (r.becomePending now c).pending d = (ClassSet.has r.pending d || decide (d = c)) :=
  ClassSet.has_insert _ _ _

@[simp] theorem AttnRecord.has_clear (c d : AttnClass) (r : AttnRecord) :
    ClassSet.has (r.clear c).pending d = (ClassSet.has r.pending d && !decide (d = c)) :=
  ClassSet.has_erase _ _ _

/-- R197, R198: OFFER is no latched class and is never cleared with them. -/
@[simp] theorem AttnRecord.offer_clearLatched (which : ClassSet) (r : AttnRecord) :
    ClassSet.has (r.clearLatched which).pending .offer = ClassSet.has r.pending .offer := by
  simp [AttnRecord.clearLatched, ClassSet.has_and_not]

/-- A class that is raised twice in one operation is raised once. -/
theorem AttnRecord.becomePending_twice (now : Nat) (c : AttnClass) (r : AttnRecord) :
    (r.becomePending now c).becomePending now c = r.becomePending now c := by
  have h : ClassSet.has (ClassSet.insert r.pending c) c = true := by simp
  have h' : ClassSet.insert (ClassSet.insert r.pending c) c = ClassSet.insert r.pending c := by
    simp [ClassSet.insert, BitVec.or_assoc]
  simp only [AttnRecord.becomePending, h, h', Bool.true_or, if_true]

/-- What raising classes and offering leave of a record: mask, modes and the changed-by set stay, and no class but OFFER
stops being pending. -/
structure AttnRecord.Grows (r t : AttnRecord) : Prop where
  mask : t.mask = r.mask
  lineMode : t.lineMode = r.lineMode
  clearMode : t.clearMode = r.clearMode
  changedBy : t.changedBy = r.changedBy
  keeps : ∀ c, c ≠ .offer → ClassSet.has r.pending c = true → ClassSet.has t.pending c = true

theorem AttnRecord.Grows.refl (r : AttnRecord) : r.Grows r := ⟨rfl, rfl, rfl, rfl, fun _ _ h => h⟩

theorem AttnRecord.Grows.trans {r t u : AttnRecord} (h : r.Grows t) (k : t.Grows u) : r.Grows u :=
  ⟨k.mask.trans h.mask, k.lineMode.trans h.lineMode, k.clearMode.trans h.clearMode, k.changedBy.trans h.changedBy,
    fun c hc hr => k.keeps c hc (h.keeps c hc hr)⟩

theorem AttnRecord.grows_becomePending (now : Nat) (c : AttnClass) (r : AttnRecord) : r.Grows (r.becomePending now c) :=
  ⟨rfl, rfl, rfl, rfl, fun d _ h => by simp [h]⟩

theorem AttnRecord.grows_offerNews (now : Nat) (old new : List Notice) (r : AttnRecord) :
    r.Grows (offerNews now old new r) := by
  unfold offerNews
  split
  · exact grows_becomePending now _ r
  · exact ⟨rfl, rfl, rfl, rfl, fun d hd h => by simp [h, hd]⟩
  · exact .refl r

/-- R150: after a change of a list, OFFER is pending exactly when the list is not empty, if it was so before. -/
theorem AttnRecord.offer_offerNews {now : Nat} {old new : List Notice} {r : AttnRecord}
    (h : ClassSet.has r.pending .offer = !old.isEmpty) :
    ClassSet.has (offerNews now old new r).pending .offer = !new.isEmpty := by
  cases old <;> cases new <;> simp_all [offerNews]

/-- What a class that is raised at both ports leaves. -/
theorem AttnRecord.grows_map (now : Nat) (c : AttnClass) (v : PerPort AttnRecord) (p : Port) :
    (v.get p).Grows ((v.map (AttnRecord.becomePending now c)).get p) := by
  rw [PerPort.get_map]
  exact grows_becomePending now c _

end Sys2Proof.Machine
end

