-- ==== Sys2Proof/Laws/Picks.lean ====
section
/-! SUPPORT. What the operations of the Offer Lists, the Arrival Table, the Coincidence Grouper and the Onset Refiner can
do, said once: `PicksOnly` for each of them, `GrantsOnly` where the records stay as they are computed, `ReportsOnly`
where the refiner stays too. -/

namespace Sys2Proof.Machine

/-! ### The frames -/

/-- R77, R86: what a refinement queue holds at most. -/
def QueueOk (l : List RefineRequest) : Prop :=
  l.length ≤ Config.queueCapacity ∧ ∀ q ∈ l, q.passOver ≤ Config.passOverMax

/-- Nothing but the refiner, the table, the groups, the lists and the attention records changes, and of these neither
settings nor modes do; no record is added, and no detached port is offered anything. -/
structure PicksOnly (s t : State) : Prop where
  rest : t = { s with
    refiner := t.refiner, table := t.table, grouper := t.grouper, offers := t.offers, attention := t.attention }
  refinement : t.refiner.groups = s.refiner.groups ∧ t.refiner.mode = s.refiner.mode
    ∧ t.refiner.aging = s.refiner.aging
  queues : ∀ sen, QueueOk (s.refiner.queues.get sen) → QueueOk (t.refiner.queues.get sen)
  lost : ∀ sen, s.refiner.lost.get sen ≤ 65535 → t.refiner.lost.get sen ≤ 65535
  work : t.refiner.work.isSome = true →
    s.refiner.work.isSome = true ∨ t.table.records.length < Config.tableCapacity
  nextPick : t.table.nextId = s.table.nextId
  ids : (t.table.records.map (·.id)).Sublist (s.table.records.map (·.id))
  settings : t.grouper.settings = s.grouper.settings
  groups : s.grouper.groups.length ≤ Config.groupCapacity → t.grouper.groups.length ≤ Config.groupCapacity
  groupCounts : s.grouper.fullCount ≤ 65535 ∧ s.grouper.expired ≤ 65535 →
    t.grouper.fullCount ≤ 65535 ∧ t.grouper.expired ≤ 65535
  modes : ∀ p, (t.offers.get p).mode = (s.offers.get p).mode ∧ (t.offers.get p).setting = (s.offers.get p).setting
  detached : ∀ p, s.attached p = false → t.notices p = s.notices p
  attention : ∀ p, (s.attention.get p).Grows (t.attention.get p)
  offer : OfferInv s → OfferInv t

/-- A record that differs at most in its grouping, its flags and its delivery fields. -/
def PickRecord.SameButReports (r r' : PickRecord) : Prop :=
  r = { r' with grouping := r.grouping, flags := r.flags, delivery := r.delivery }

/-- `PicksOnly`, and every record is one of before, changed at most in its grouping, flags and delivery; the gap marks
stay. -/
structure GrantsOnly (s t : State) : Prop extends PicksOnly s t where
  gapCut : t.refiner.gapCut = s.refiner.gapCut
  records : ∀ r ∈ t.table.records, ∃ r' ∈ s.table.records, r.SameButReports r'

/-- `GrantsOnly`, and the refiner stays. -/
structure ReportsOnly (s t : State) : Prop extends GrantsOnly s t where
  refiner : t.refiner = s.refiner

theorem PickRecord.SameButReports.refl (r : PickRecord) : r.SameButReports r := rfl

theorem PickRecord.SameButReports.trans {r r' r'' : PickRecord} (h : r.SameButReports r') (k : r'.SameButReports r'') :
    r.SameButReports r'' := by
  unfold PickRecord.SameButReports at h k ⊢
  rw [h, k]

theorem PicksOnly.refl (s : State) : PicksOnly s s :=
  ⟨rfl, ⟨rfl, rfl, rfl⟩, fun _ h => h, fun _ h => h, .inl, rfl, List.Sublist.refl _, rfl, id, id, fun _ => ⟨rfl, rfl⟩,
    fun _ _ => rfl, fun _ => .refl _, id⟩

theorem State.attached_congr {s t : State} {p : Port} (h : (t.offers.get p).mode = (s.offers.get p).mode) :
    t.attached p = s.attached p := by
  simp [State.attached, h]

theorem PicksOnly.attached {s t : State} (h : PicksOnly s t) (p : Port) : t.attached p = s.attached p :=
  State.attached_congr (h.modes p).1

theorem PicksOnly.length_le {s t : State} (h : PicksOnly s t) : t.table.records.length ≤ s.table.records.length := by
  simpa using h.ids.length_le

theorem PicksOnly.trans {s t u : State} (h : PicksOnly s t) (k : PicksOnly t u) : PicksOnly s u where
  rest := by rw [k.rest, h.rest]
  refinement := ⟨k.refinement.1.trans h.refinement.1, k.refinement.2.1.trans h.refinement.2.1,
    k.refinement.2.2.trans h.refinement.2.2⟩
  queues sen hs := k.queues sen (h.queues sen hs)
  lost sen hs := k.lost sen (h.lost sen hs)
  work hu := by
    rcases k.work hu with ht | hlt
    · rcases h.work ht with hs | hlt
      · exact .inl hs
      · exact .inr (k.length_le.trans_lt hlt)
    · exact .inr hlt
  nextPick := k.nextPick.trans h.nextPick
  ids := k.ids.trans h.ids
  settings := k.settings.trans h.settings
  groups hs := k.groups (h.groups hs)
  groupCounts hs := k.groupCounts (h.groupCounts hs)
  modes p := ⟨(k.modes p).1.trans (h.modes p).1, (k.modes p).2.trans (h.modes p).2⟩
  detached p hs := (k.detached p ((h.attached p).trans hs)).trans (h.detached p hs)
  attention p := (h.attention p).trans (k.attention p)
  offer hs := k.offer (h.offer hs)

theorem GrantsOnly.refl (s : State) : GrantsOnly s s := ⟨.refl s, rfl, fun r hr => ⟨r, hr, .refl r⟩⟩

theorem GrantsOnly.trans {s t u : State} (h : GrantsOnly s t) (k : GrantsOnly t u) : GrantsOnly s u :=
  ⟨h.toPicksOnly.trans k.toPicksOnly, k.gapCut.trans h.gapCut, fun r hr =>
    let ⟨r', hr', e⟩ := k.records r hr
    let ⟨r'', hr'', e'⟩ := h.records r' hr'
    ⟨r'', hr'', e.trans e'⟩⟩

theorem ReportsOnly.refl (s : State) : ReportsOnly s s := ⟨.refl s, rfl⟩

theorem ReportsOnly.trans {s t u : State} (h : ReportsOnly s t) (k : ReportsOnly t u) : ReportsOnly s u :=
  ⟨h.toGrantsOnly.trans k.toGrantsOnly, k.refiner.trans h.refiner⟩

/-- A fold of reports is a report. -/
theorem ReportsOnly.foldl {α : Type} {f : State → α → State} (h : ∀ s x, ReportsOnly s (f s x)) (l : List α) (s : State) :
    ReportsOnly s (l.foldl f s) := by
  induction l generalizing s with
  | nil => exact .refl s
  | cons x rest ih => exact (h s x).trans (ih _)

/-! ### Offer Lists -/

/-- A change of an attached port's list. -/
theorem State.setNotices_reports {s : State} {p : Port} (l : List Notice) (h : s.attached p = true) :
    ReportsOnly s (s.setNotices p l) where
  rest := rfl
  refinement := ⟨rfl, rfl, rfl⟩
  queues _ h := h
  lost _ h := h
  work := .inl
  nextPick := rfl
  ids := List.Sublist.refl _
  settings := rfl
  groups := id
  groupCounts := id
  modes q := by
    rcases Port.eq_or_other p q with rfl | rfl <;> simp
  detached q hq := by
    rcases Port.eq_or_other p q with rfl | rfl
    · rw [h] at hq
      cases hq
    · simp [State.notices]
  attention q := by
    rcases Port.eq_or_other p q with rfl | rfl
    · simpa using AttnRecord.grows_offerNews _ _ _ _
    · simpa using AttnRecord.Grows.refl _
  offer hs q := by
    rcases Port.eq_or_other p q with rfl | rfl
    · simpa [State.notices] using AttnRecord.offer_offerNews (hs q)
    · simpa [State.notices] using hs p.other
  gapCut := rfl
  records r hr := ⟨r, hr, .refl r⟩
  refiner := rfl

theorem State.appendNotice_reports {s : State} {p : Port} (n : Notice) (h : s.attached p = true) :
    ReportsOnly s (s.appendNotice p n) :=
  State.setNotices_reports _ h

/-- A change of a record that keeps what was computed. -/
theorem State.modPick_reports {s : State} {id : Nat} {f : PickRecord → PickRecord}
    (hf : ∀ r, (f r).SameButReports r) : ReportsOnly s (s.modPick id f) where
  rest := rfl
  refinement := ⟨rfl, rfl, rfl⟩
  queues _ h := h
  lost _ h := h
  work := .inl
  nextPick := rfl
  ids := by
    have : ∀ r, (if r.id = id then f r else r).id = r.id := fun r => by
      split
      · rw [hf r]
      · rfl
    simp [Function.comp_def, this]
  settings := rfl
  groups := fun h => h
  groupCounts := fun h => h
  modes _ := ⟨rfl, rfl⟩
  detached _ _ := rfl
  attention _ := .refl _
  offer h := h
  gapCut := rfl
  records r hr := by
    simp only [State.modPick_table, List.mem_map] at hr
    obtain ⟨r', hr', rfl⟩ := hr
    refine ⟨r', hr', ?_⟩
    split
    · exact hf r'
    · exact .refl r'
  refiner := rfl

theorem State.setDelivery_reports (s : State) (p : Port) (id : Nat) (d : Delivery) :
    ReportsOnly s (s.setDelivery p id d) :=
  State.modPick_reports fun _ => rfl

theorem State.setGrouping_reports (s : State) (id : Nat) (g : Grouping) : ReportsOnly s (s.setGrouping id g) :=
  State.modPick_reports fun _ => rfl

theorem State.offerPick_reports {s : State} {p : Port} (id : Nat) (h : s.attached p = true) :
    ReportsOnly s (s.offerPick p id) :=
  (State.appendNotice_reports _ h).trans (State.setDelivery_reports _ _ _ _)

/-- What is done for each attached port is done for ports that are attached. -/
theorem State.eachAttached_reports {s : State} {f : State → Port → OfferMode → State}
    (hf : ∀ t p m, t.attached p = true → ReportsOnly t (f t p m)) : ReportsOnly s (s.eachAttached f) := by
  have one : ∀ (t : State) (p : Port), ReportsOnly t
      (match (t.offers.get p).mode with
        | none => t
        | some m => f t p m) := by
    intro t p
    split
    · exact .refl t
    · rename_i m hm
      exact hf t p m (by simp [State.attached, hm])
  exact (one s .a).trans (one _ .b)

theorem State.offerNew_reports (s : State) (id : Nat) : ReportsOnly s (s.offerNew id) := by
  unfold State.offerNew
  split
  · exact .refl s
  · refine State.eachAttached_reports fun t p m h => ?_
    split
    · exact State.offerPick_reports _ h
    · exact .refl t

theorem State.offerPicks_reports {s : State} {p : Port} (ids : List Nat) (h : s.attached p = true) :
    ReportsOnly s (ids.foldl (fun u id => u.offerPick p id) s) := by
  induction ids generalizing s with
  | nil => exact .refl s
  | cons id rest ih =>
    have h1 := State.offerPick_reports id h
    exact h1.trans (ih ((h1.attached p).trans h))

theorem State.offerDeclaration_reports (s : State) (members : List Nat) (group : Nat) :
    ReportsOnly s (s.offerDeclaration members group) := by
  refine State.eachAttached_reports fun t p m h => ?_
  have h1 := State.offerPicks_reports members h
  exact h1.trans (State.appendNotice_reports _ ((h1.attached p).trans h))

theorem State.offerExpired_reports (s : State) (id : Nat) : ReportsOnly s (s.offerExpired id) := by
  refine State.eachAttached_reports fun t p m h => ?_
  split
  · exact State.offerPick_reports _ h
  · exact .refl t

theorem State.mergeFinal_reports (s : State) (id : Nat) : ReportsOnly s (s.mergeFinal id) := by
  refine State.eachAttached_reports fun t p m h => ?_
  split
  · exact .refl t
  · split
    · exact State.appendNotice_reports _ h
    · exact .refl t

theorem State.mergeRetractionAt_reports {s : State} {p : Port} (id : Nat) (by_ : Port) (h : s.attached p = true) :
    ReportsOnly s (s.mergeRetractionAt id by_ p) := by
  unfold State.mergeRetractionAt
  split
  · dsimp only
    split
    · exact (State.setNotices_reports _ h).trans (State.setDelivery_reports _ _ _ _)
    · exact State.setNotices_reports _ h
  · split <;> exact State.setNotices_reports _ h
  · exact .refl s
  · split
    · exact State.appendNotice_reports _ h
    · exact .refl s

theorem State.mergeRetraction_reports (s : State) (id : Nat) (by_ : Port) : ReportsOnly s (s.mergeRetraction id by_) :=
  State.eachAttached_reports fun _ _ _ h => State.mergeRetractionAt_reports _ _ h

theorem State.mergeClosing_reports (s : State) (group : Nat) : ReportsOnly s (s.mergeClosing group) := by
  refine State.eachAttached_reports fun t p m h => ?_
  split
  · exact State.setNotices_reports _ h
  · exact State.appendNotice_reports _ h

/-! ### Arrival Table -/

/-- R110, R124: a record is freed. -/
theorem State.free_reports (s : State) (id : Nat) : ReportsOnly s { s with table := s.table.free id } where
  rest := rfl
  refinement := ⟨rfl, rfl, rfl⟩
  queues _ h := h
  lost _ h := h
  work := .inl
  nextPick := rfl
  ids := List.filter_sublist.map _
  settings := rfl
  groups := fun h => h
  groupCounts := fun h => h
  modes _ := ⟨rfl, rfl⟩
  detached _ _ := rfl
  attention _ := .refl _
  offer h := h
  gapCut := rfl
  records r hr := ⟨r, (List.mem_filter.1 hr).1, .refl r⟩
  refiner := rfl

theorem State.releaseTest_reports (s : State) (id : Nat) : ReportsOnly s (s.releaseTest id) := by
  unfold State.releaseTest
  split
  · exact .refl s
  · split
    · exact State.free_reports s id
    · exact .refl s

theorem State.releaseTests_reports (s : State) (ids : List Nat) : ReportsOnly s (s.releaseTests ids) :=
  .foldl State.releaseTest_reports ids s

/-! ### Coincidence Grouper -/

/-- A change of the groups and their counts alone. -/
theorem State.grouper_reports {s t : State} (ht : t = { s with grouper := t.grouper })
    (hs : t.grouper.settings = s.grouper.settings)
    (hg : s.grouper.groups.length ≤ Config.groupCapacity → t.grouper.groups.length ≤ Config.groupCapacity)
    (hc : s.grouper.fullCount ≤ 65535 ∧ s.grouper.expired ≤ 65535 →
      t.grouper.fullCount ≤ 65535 ∧ t.grouper.expired ≤ 65535) : ReportsOnly s t := by
  rw [ht]
  exact
    { rest := rfl
      refinement := ⟨rfl, rfl, rfl⟩
      queues := fun _ h => h
      lost := fun _ h => h
      work := .inl
      nextPick := rfl
      ids := List.Sublist.refl _
      settings := hs
      groups := hg
      groupCounts := hc
      modes := fun _ => ⟨rfl, rfl⟩
      detached := fun _ _ => rfl
      attention := fun _ => .refl _
      offer := fun h => h
      gapCut := rfl
      records := fun r hr => ⟨r, hr, .refl r⟩
      refiner := rfl }

theorem State.modGroup_reports (s : State) (id : Nat) (f : GroupRecord → GroupRecord) : ReportsOnly s (s.modGroup id f) :=
  State.grouper_reports rfl rfl (fun h => by simpa using h) fun h => h

theorem State.freeGroup_reports (s : State) (id : Nat) : ReportsOnly s (s.freeGroup id) :=
  State.grouper_reports rfl rfl (fun h => (List.length_filter_le _ _).trans h) fun h => h

theorem bump_le (n : Nat) : bump n ≤ 65535 := min_le_right _ _

theorem State.groupFreeTest_reports (s : State) (id : Nat) : ReportsOnly s (s.groupFreeTest id) := by
  unfold State.groupFreeTest
  split
  · exact .refl s
  · split
    · exact State.freeGroup_reports s id
    · exact .refl s

theorem State.groupFreeTests_reports (s : State) : ReportsOnly s s.groupFreeTests :=
  .foldl State.groupFreeTest_reports _ s

theorem State.expireGroup_reports (s : State) (g : GroupRecord) (handling : Option Nat) :
    ReportsOnly s (s.expireGroup g handling) := by
  have h := ((ReportsOnly.foldl (fun t id => State.setGrouping_reports t id .single) (g.members.map (·.pick)) s).trans
    (.foldl State.offerExpired_reports (g.others handling) _)).trans (State.freeGroup_reports _ g.id)
  refine ReportsOnly.trans ?_ (State.releaseTests_reports _ _)
  refine h.trans (State.grouper_reports rfl rfl (fun h => h) ?_)
  exact fun h => ⟨h.1, bump_le _⟩

theorem State.closeGroup_reports (s : State) (g : GroupRecord) (handling : Option Nat) :
    ReportsOnly s (s.closeGroup g handling) :=
  (((State.modGroup_reports s _ _).trans (State.mergeClosing_reports _ _)).trans
    (State.releaseTests_reports _ _)).trans (State.groupFreeTest_reports _ _)

theorem State.testGroup_reports (s : State) (handling : Option Nat) (id : Nat) :
    ReportsOnly s (s.testGroup handling id) := by
  unfold State.testGroup
  split
  · exact .refl s
  · split <;> try split
    · exact State.expireGroup_reports s _ _
    · exact .refl s
    · exact State.closeGroup_reports s _ _
    · exact .refl s
    · exact .refl s

theorem State.testGroups_reports (s : State) : ReportsOnly s s.testGroups :=
  .foldl (fun t id => State.testGroup_reports t none id) _ s

theorem State.declareGroup_reports (s : State) (g : GroupRecord) (handling : Nat) :
    ReportsOnly s (s.declareGroup g handling) :=
  ((((State.modGroup_reports s _ _).trans
    (.foldl (fun t id => State.setGrouping_reports t id (.grouped g.id)) _ _)).trans
    (State.offerDeclaration_reports _ _ _)).trans (State.releaseTests_reports _ _)).trans
    (State.testGroup_reports _ _ _)

theorem State.declareIfReached_reports (s : State) (groupId handling : Nat) :
    ReportsOnly s (s.declareIfReached groupId handling).1 := by
  unfold State.declareIfReached
  split
  · exact .refl s
  · split
    · exact State.declareGroup_reports s _ _
    · exact .refl s

theorem State.joinGroup_reports (s : State) (r : PickRecord) (g : GroupRecord) (ph : MemberPhase) :
    ReportsOnly s (s.joinGroup r g ph) :=
  (State.modGroup_reports s _ _).trans (State.setGrouping_reports _ _ _)

theorem State.openGroup_reports (s : State) (r : PickRecord) (t : Nat) : ReportsOnly s (s.openGroup r t) := by
  unfold State.openGroup
  split
  · rename_i h
    refine ReportsOnly.trans ?_ (State.setGrouping_reports _ _ _)
    refine State.grouper_reports rfl rfl ?_ fun h => h
    intro _
    simpa using h
  · refine ReportsOnly.trans ?_ (State.modPick_reports fun _ => ?_)
    · exact State.grouper_reports rfl rfl (fun h => h) fun h => ⟨bump_le _, h.2⟩
    · rfl

theorem State.afterJoin_reports (s : State) (pick groupId : Nat) : ReportsOnly s (s.afterJoin pick groupId).1 :=
  (State.declareIfReached_reports s _ _).trans (State.testGroup_reports _ _ _)

/-- R130: what handing a new record to the grouper can do. -/
theorem State.groupPick_reports (s : State) (id : Nat) : ReportsOnly s (s.groupPick id).1 := by
  unfold State.groupPick
  split
  · exact .refl s
  · split
    · exact State.setGrouping_reports s _ _
    · split
      · exact State.setGrouping_reports s _ _
      · split
        · exact State.setGrouping_reports s _ _
        · unfold State.placeP
          split
          · exact (State.joinGroup_reports s _ _ _).trans (State.afterJoin_reports _ _ _)
          · split
            · exact (State.openGroup_reports s _ _).trans (State.afterJoin_reports _ _ _)
            · exact State.openGroup_reports s _ _
        · unfold State.placeS
          split
          · exact (State.joinGroup_reports s _ _ _).trans (State.testGroup_reports _ _ _)
          · exact State.setGrouping_reports s _ _

theorem State.leaveGroup_reports (s : State) (pick groupId : Nat) : ReportsOnly s (s.leaveGroup pick groupId) := by
  unfold State.leaveGroup
  split
  · exact .refl s
  · split
    · exact .refl s
    · dsimp only
      split
      · exact State.freeGroup_reports s _
      · exact State.modGroup_reports s _ _

/-- R143: what handing a retracted record to the grouper can do. -/
theorem State.groupRetract_reports (s : State) (r : PickRecord) : ReportsOnly s (s.groupRetract r) := by
  unfold State.groupRetract
  split
  · exact .refl s
  · exact (State.leaveGroup_reports s _ _).trans (State.setGrouping_reports _ _ _)
  · exact (State.leaveGroup_reports s _ _).trans (State.setGrouping_reports _ _ _)

/-- R112: what handing on a new record can do. -/
theorem State.handOnRecord_reports (s : State) (id : Nat) : ReportsOnly s (s.handOnRecord id) := by
  unfold State.handOnRecord
  dsimp only
  split
  · exact (State.groupPick_reports s id).trans (State.releaseTest_reports _ _)
  · exact ((State.groupPick_reports s id).trans (State.offerNew_reports _ _)).trans (State.releaseTest_reports _ _)

end Sys2Proof.Machine
end

