-- ==== Sys2Proof/Laws/Store.lean ====
section
/-! SUPPORT. The laws of the sparse stores: read after write, and the canonical form that every operation keeps. -/

namespace Sys2Proof.Machine

variable {α : Type}

/-! ### Reading after a change -/

@[simp] theorem Store.read_write (m : Store α) (k : Nat) (v : α) : Store.read (Store.write m k v) k = some v := by
  induction m with
  | nil => simp [Store.write, Store.read]
  | cons x rest ih =>
    obtain ⟨i, y⟩ := x
    unfold Store.write
    split
    · simp [Store.read]
    · split
      · simp [Store.read]
      · rename_i h
        simp [Store.read, Ne.symm h, ih]

theorem Store.read_write_ne (m : Store α) {k j : Nat} (v : α) (h : j ≠ k) :
    Store.read (Store.write m k v) j = Store.read m j := by
  induction m with
  | nil => simp [Store.write, Store.read, Ne.symm h]
  | cons x rest ih =>
    obtain ⟨i, y⟩ := x
    unfold Store.write
    split
    · simp [Store.read, Ne.symm h]
    · split
      · rename_i e
        subst e
        simp [Store.read, Ne.symm h]
      · by_cases e : i = j <;> simp [Store.read, e, ih]

theorem Store.read_erase_ne (m : Store α) {k j : Nat} (h : j ≠ k) :
    Store.read (Store.erase m k) j = Store.read m j := by
  induction m with
  | nil => rfl
  | cons x rest ih =>
    obtain ⟨i, y⟩ := x
    unfold Store.erase
    split
    · rename_i e
      subst e
      simp [Store.read, Ne.symm h]
    · by_cases e : i = j <;> simp [Store.read, e, ih]

/-! ### The canonical form -/

/-- A store above a bound is one above every lower bound. -/
theorem Store.above_mono {m : Store α} {lo hi : Option Nat} (h : Store.above hi m = true)
    (hlo : ∀ l, lo = some l → ∃ u, hi = some u ∧ l ≤ u) : Store.above lo m = true := by
  cases m with
  | nil => rfl
  | cons x rest =>
    obtain ⟨i, y⟩ := x
    simp only [Store.above, Bool.and_eq_true] at h ⊢
    refine ⟨?_, h.2⟩
    cases lo with
    | none => rfl
    | some l =>
      obtain ⟨u, hu, hle⟩ := hlo l rfl
      subst hu
      have := of_decide_eq_true h.1
      simp only [decide_eq_true_eq]
      omega

/-- Every index of a store lies above its bound. -/
theorem Store.lt_of_above {m : Store α} {lo : Nat} (h : Store.above (some lo) m = true) :
    ∀ x ∈ m, lo < x.1 := by
  induction m generalizing lo with
  | nil => simp
  | cons x rest ih =>
    obtain ⟨i, y⟩ := x
    simp only [Store.above, Bool.and_eq_true, decide_eq_true_eq] at h
    intro z hz
    rcases List.mem_cons.1 hz with rfl | hz
    · exact h.1
    · exact h.1.trans (ih h.2 z hz)

theorem Store.above_write {m : Store α} {lo : Option Nat} (k : Nat) (v : α) (h : Store.above lo m = true)
    (hk : ∀ l, lo = some l → l < k) : Store.above lo (Store.write m k v) = true := by
  induction m generalizing lo with
  | nil =>
    cases lo with
    | none => rfl
    | some l => simpa [Store.write, Store.above] using hk l rfl
  | cons x rest ih =>
    obtain ⟨i, y⟩ := x
    simp only [Store.above, Bool.and_eq_true] at h
    unfold Store.write
    split
    · rename_i hki
      simp only [Store.above, Bool.and_eq_true, decide_eq_true_eq]
      refine ⟨?_, hki, h.2⟩
      cases lo with
      | none => rfl
      | some l => simpa using hk l rfl
    · split
      · rename_i hki
        subst hki
        simp only [Store.above, Bool.and_eq_true]
        exact h
      · simp only [Store.above, Bool.and_eq_true]
        refine ⟨h.1, ih h.2 ?_⟩
        intro l hl
        cases hl
        omega

theorem Store.above_erase {m : Store α} {lo : Option Nat} (k : Nat) (h : Store.above lo m = true) :
    Store.above lo (Store.erase m k) = true := by
  induction m generalizing lo with
  | nil => rfl
  | cons x rest ih =>
    obtain ⟨i, y⟩ := x
    have h' := h
    simp only [Store.above, Bool.and_eq_true] at h
    unfold Store.erase
    split
    · refine Store.above_mono h.2 ?_
      intro l hl
      subst hl
      refine ⟨i, rfl, ?_⟩
      have := of_decide_eq_true h.1
      omega
    · simp only [Store.above, Bool.and_eq_true]
      exact ⟨h.1, ih h.2⟩

theorem Store.wf_write {m : Store α} (k : Nat) (v : α) (h : Store.wf m = true) : Store.wf (Store.write m k v) = true :=
  Store.above_write k v h fun _ hl => nomatch hl

theorem Store.wf_erase {m : Store α} (k : Nat) (h : Store.wf m = true) : Store.wf (Store.erase m k) = true :=
  Store.above_erase k h

theorem Store.wf_eraseRange {m : Store α} (start n : Nat) (h : Store.wf m = true) :
    Store.wf (Store.eraseRange m start n) = true := by
  induction n with
  | zero => exact h
  | succ n ih => exact Store.wf_erase _ ih

/-- In a canonical store an index that has been emptied reads as empty. -/
theorem Store.read_erase {m : Store α} {lo : Option Nat} (k : Nat) (h : Store.above lo m = true) :
    Store.read (Store.erase m k) k = none := by
  induction m generalizing lo with
  | nil => rfl
  | cons x rest ih =>
    obtain ⟨i, y⟩ := x
    simp only [Store.above, Bool.and_eq_true] at h
    unfold Store.erase
    split
    · rename_i e
      subst e
      have hlt := Store.lt_of_above h.2
      clear ih h
      induction rest with
      | nil => rfl
      | cons z rest ih =>
        have hz : i < z.1 := hlt z (by simp)
        simp only [Store.read]
        rw [if_neg (by omega)]
        exact ih fun x hx => hlt x (by simp [hx])
    · rename_i e
      simp [Store.read, e, ih h.2]

/-! ### Where the entries stand -/

theorem Store.mem_write {m : Store α} {k : Nat} {v : α} {x : Nat × α} (h : x ∈ Store.write m k v) :
    x = (k, v) ∨ x ∈ m := by
  induction m with
  | nil => simpa [Store.write] using h
  | cons y rest ih =>
    obtain ⟨i, z⟩ := y
    unfold Store.write at h
    split at h
    · simpa using h
    · split at h
      · rcases List.mem_cons.1 h with h | h
        · exact .inl h
        · exact .inr (List.mem_cons_of_mem _ h)
      · rcases List.mem_cons.1 h with h | h
        · exact .inr (h ▸ List.mem_cons_self)
        · rcases ih h with h | h
          · exact .inl h
          · exact .inr (List.mem_cons_of_mem _ h)

theorem Store.mem_erase {m : Store α} {k : Nat} {x : Nat × α} (h : x ∈ Store.erase m k) : x ∈ m := by
  induction m with
  | nil => exact h
  | cons y rest ih =>
    obtain ⟨i, z⟩ := y
    unfold Store.erase at h
    split at h
    · exact List.mem_cons_of_mem _ h
    · rcases List.mem_cons.1 h with h | h
      · exact h ▸ List.mem_cons_self
      · exact List.mem_cons_of_mem _ (ih h)

theorem Store.mem_eraseRange {m : Store α} {start n : Nat} {x : Nat × α} (h : x ∈ Store.eraseRange m start n) :
    x ∈ m := by
  induction n with
  | zero => exact h
  | succ n ih => exact ih (Store.mem_erase h)

end Sys2Proof.Machine
end

