-- ==== Sys2Proof/Laws/Ring.lean ====
section
/-! SUPPORT. What the reads and stores of the Waveform Ring can do (chapter 3). -/

namespace Sys2Proof.Machine

/-! ### Reads of the page time map -/

/-- A ring record that differs at most in what a read of its map changes. -/
structure RingRecord.MapReads (r t : RingRecord) : Prop where
  rest : t = { r with pageMap := t.pageMap, mapCorrected := t.mapCorrected, mapFaults := t.mapFaults }
  wf : Store.wf r.pageMap = true → Store.wf t.pageMap = true
  keys : ∀ x ∈ t.pageMap, ∃ y ∈ r.pageMap, y.1 = x.1
  counts : r.mapCorrected ≤ 65535 ∧ r.mapFaults ≤ 65535 → t.mapCorrected ≤ 65535 ∧ t.mapFaults ≤ 65535

/-- What reads of the page time map can do: correct or invalidate entries, with MAP_FAULT at both ports (R41). -/
structure MapReads (s t : State) : Prop where
  rest : t = { s with ring := t.ring, attention := t.attention }
  ring : ∀ sen, (s.ring.get sen).MapReads (t.ring.get sen)
  attention : t.attention = s.attention
    ∨ t.attention = s.attention.map (AttnRecord.becomePending s.time.localTime .mapFault)

theorem RingRecord.MapReads.refl (r : RingRecord) : r.MapReads r := ⟨rfl, id, fun x h => ⟨x, h, rfl⟩, id⟩

theorem RingRecord.MapReads.trans {r t u : RingRecord} (h : r.MapReads t) (k : t.MapReads u) : r.MapReads u :=
  ⟨by rw [k.rest, h.rest], fun x => k.wf (h.wf x), fun x hx =>
    let ⟨y, hy, e⟩ := k.keys x hx
    let ⟨z, hz, e'⟩ := h.keys y hy
    ⟨z, hz, e'.trans e⟩, fun x => k.counts (h.counts x)⟩

theorem RingRecord.MapReads.slots {r t : RingRecord} (h : r.MapReads t) : t.slots = r.slots := by rw [h.rest]
theorem RingRecord.MapReads.newest {r t : RingRecord} (h : r.MapReads t) : t.newest = r.newest := by rw [h.rest]
theorem RingRecord.MapReads.oldest {r t : RingRecord} (h : r.MapReads t) : t.oldest = r.oldest := by rw [h.rest]

theorem PerPort.map_becomePending_twice (now : Nat) (c : AttnClass) (v : PerPort AttnRecord) :
    (v.map (AttnRecord.becomePending now c)).map (AttnRecord.becomePending now c)
      = v.map (AttnRecord.becomePending now c) := by
  simp [PerPort.map, AttnRecord.becomePending_twice]

theorem MapReads.refl (s : State) : MapReads s s := ⟨rfl, fun _ => .refl _, .inl rfl⟩

theorem MapReads.time {s t : State} (h : MapReads s t) : t.time = s.time := by rw [h.rest]

theorem MapReads.trans {s t u : State} (h : MapReads s t) (k : MapReads t u) : MapReads s u := by
  refine ⟨by rw [k.rest, h.rest], fun sen => (h.ring sen).trans (k.ring sen), ?_⟩
  have ha := h.attention
  have ka := k.attention
  rw [h.time] at ka
  rcases ha with ha | ha <;> rcases ka with ka | ka <;> rw [ka, ha]
  · exact .inl rfl
  · exact .inr rfl
  · exact .inr rfl
  · exact .inr (PerPort.map_becomePending_twice _ _ _)

/-- A list of both ports' records in which only a latched class was raised keeps OFFER. -/
theorem MapReads.offer {s t : State} (h : MapReads s t) (p : Port) :
    ClassSet.has (t.attention.get p).pending .offer = ClassSet.has (s.attention.get p).pending .offer := by
  rcases h.attention with e | e <;> rw [e]
  simp

theorem MapReads.grows {s t : State} (h : MapReads s t) (p : Port) :
    (s.attention.get p).Grows (t.attention.get p) := by
  rcases h.attention with e | e <;> rw [e]
  · exact .refl _
  · exact AttnRecord.grows_map _ _ _ p

theorem State.modRing_mapReads {s : State} {sen : Sensor} {f : RingRecord → RingRecord}
    (hf : ∀ r : RingRecord, r.MapReads (f r)) (i : Sensor) :
    (s.ring.get i).MapReads ((s.modRing sen f).ring.get i) := by
  by_cases e : i = sen
  · subst e
    simpa using hf _
  · simpa [PerSensor.get_set_ne _ _ e] using RingRecord.MapReads.refl _

/-- R41: a read of an entry. -/
theorem State.readEntry_mapReads (s : State) (sen : Sensor) (page : Nat) : MapReads s (s.readEntry sen page).1 := by
  unfold State.readEntry
  dsimp only
  split
  · exact .refl s
  · rename_i e he
    have hmem : ∀ {m : Store MapEntry} {k : Nat} {e : MapEntry}, Store.read m k = some e → ∃ y ∈ m, y.1 = k := by
      intro m k e h
      induction m with
      | nil => cases h
      | cons y rest ih =>
        obtain ⟨i, z⟩ := y
        simp only [Store.read] at h
        split at h
        · rename_i hi
          exact ⟨(i, z), by simp, hi⟩
        · obtain ⟨y, hy, hk⟩ := ih h
          exact ⟨y, List.mem_cons_of_mem _ hy, hk⟩
    split
    · exact .refl s
    · refine ⟨rfl, fun i => ?_, .inl rfl⟩
      by_cases hi : i = sen
      · subst hi
        simp only [State.modRing_ring, PerSensor.get_set]
        refine ⟨rfl, fun h => Store.wf_write _ _ h, fun x hx => ?_, fun h => ⟨min_le_right _ _, h.2⟩⟩
        rcases Store.mem_write hx with rfl | hx
        · exact hmem he
        · exact ⟨x, hx, rfl⟩
      · simpa [PerSensor.get_set_ne _ _ hi] using RingRecord.MapReads.refl _
    · refine ⟨rfl, fun i => ?_, .inr rfl⟩
      simp only [State.raiseBoth_ring]
      refine State.modRing_mapReads (fun r => ?_) i
      exact ⟨rfl, fun h => Store.wf_erase _ h, fun x hx => ⟨x, Store.mem_erase hx, rfl⟩,
        fun h => ⟨h.1, min_le_right _ _⟩⟩

/-- R43: the time of a sample. -/
theorem State.timeOf_mapReads (s : State) (sen : Sensor) (n : Nat) : MapReads s (s.timeOf sen n).1 := by
  unfold State.timeOf
  dsimp only
  split
  · exact State.readEntry_mapReads s sen _
  · exact State.readEntry_mapReads s sen _
  · exact .refl s

/-- R44 to R46: the search of a translation. -/
theorem searchPages_mapReads (sen : Sensor) (t : StartTime) (pages : List Nat) (f : Search) (s : State) :
    MapReads s (searchPages sen t pages f s).1 := by
  induction pages generalizing f s with
  | nil => exact .refl s
  | cons page rest ih =>
    have h := State.readEntry_mapReads s sen page
    unfold searchPages
    dsimp only
    split
    · exact h.trans (ih _ _)
    · split
      · exact h.trans (ih _ _)
      · split
        · exact h
        · split
          · exact h
          · exact h.trans (ih _ _)

theorem State.translate_mapReads (s : State) (sen : Sensor) (t : StartTime) : MapReads s (s.translate sen t).1 :=
  searchPages_mapReads _ _ _ _ _

/-! ### Stores of sets -/

/-- What storing sets of one sensor can do: change its ring, and the map as reads do. -/
structure StoresSets (sen : Sensor) (s t : State) : Prop where
  rest : t = { s with ring := t.ring, attention := t.attention }
  others : ∀ i, i ≠ sen → t.ring.get i = s.ring.get i
  attention : t.attention = s.attention
    ∨ t.attention = s.attention.map (AttnRecord.becomePending s.time.localTime .mapFault)

theorem StoresSets.refl (sen : Sensor) (s : State) : StoresSets sen s s := ⟨rfl, fun _ _ => rfl, .inl rfl⟩

theorem StoresSets.time {sen : Sensor} {s t : State} (h : StoresSets sen s t) : t.time = s.time := by rw [h.rest]

theorem StoresSets.trans {sen : Sensor} {s t u : State} (h : StoresSets sen s t) (k : StoresSets sen t u) :
    StoresSets sen s u := by
  refine ⟨by rw [k.rest, h.rest], fun i hi => (k.others i hi).trans (h.others i hi), ?_⟩
  have ha := h.attention
  have ka := k.attention
  rw [h.time] at ka
  rcases ha with ha | ha <;> rcases ka with ka | ka <;> rw [ka, ha]
  · exact .inl rfl
  · exact .inr rfl
  · exact .inr rfl
  · exact .inr (PerPort.map_becomePending_twice _ _ _)

theorem State.modRing_stores (s : State) (sen : Sensor) (f : RingRecord → RingRecord) :
    StoresSets sen s (s.modRing sen f) :=
  ⟨rfl, fun i hi => by simp [PerSensor.get_set_ne _ _ hi], .inl rfl⟩

/-- A read of a sensor's map touches that sensor's ring alone. -/
theorem State.readEntry_stores (s : State) (sen : Sensor) (page : Nat) : StoresSets sen s (s.readEntry sen page).1 := by
  refine ⟨(State.readEntry_mapReads s sen page).rest, fun i hi => ?_, (State.readEntry_mapReads s sen page).attention⟩
  unfold State.readEntry
  dsimp only
  split
  · rfl
  · split
    · rfl
    · simp [PerSensor.get_set_ne _ _ hi]
    · simp [PerSensor.get_set_ne _ _ hi]

theorem State.timeOf_stores (s : State) (sen : Sensor) (n : Nat) : StoresSets sen s (s.timeOf sen n).1 := by
  unfold State.timeOf
  dsimp only
  split
  · exact State.readEntry_stores s sen _
  · exact State.readEntry_stores s sen _
  · exact .refl sen s

theorem State.raiseFill_stores (s : State) (sen : Sensor) (page : Nat) : StoresSets sen s (s.raiseFill sen page) := by
  have h := State.readEntry_stores s sen page
  unfold State.raiseFill
  split <;> rename_i e <;> rw [e] at h
  · exact h
  · exact h.trans (State.modRing_stores _ _ _)

theorem State.openPage_stores (s : State) (sen : Sensor) (set : SampleSet) (n arrival : Nat) :
    StoresSets sen s (s.openPage sen set n arrival) := by
  unfold State.openPage
  exact State.modRing_stores _ _ _

theorem State.appendSet_stores (s : State) (sen : Sensor) (set : SampleSet) (n : Nat) :
    StoresSets sen s (s.appendSet sen set n) := by
  unfold State.appendSet
  exact (State.modRing_stores _ _ _).trans (State.raiseFill_stores _ _ _)

/-- R39: a page that is closed short. -/
theorem State.closePageShort_stores (s : State) (sen : Sensor) : StoresSets sen s (s.closePageShort sen) :=
  State.modRing_stores _ _ _

/-- R36, R38: what placing a set can do. -/
theorem State.placeSet_stores (s : State) (sen : Sensor) (set : SampleSet) (start : Bool) (arrival : Nat) :
    StoresSets sen s (s.placeSet sen set start arrival) := by
  unfold State.placeSet
  dsimp only
  split
  · exact (State.closePageShort_stores _ _).trans (State.openPage_stores _ _ _ _ _)
  · split
    · exact State.openPage_stores _ _ _ _ _
    · exact State.appendSet_stores _ _ _ _
  · exact State.openPage_stores _ _ _ _ _

/-- R36 to R40: what taking a set can do at the ring. -/
theorem State.storeSet_stores (s : State) (sen : Sensor) (set : SampleSet) (start : Bool) (arrival : Nat) :
    StoresSets sen s (s.storeSet sen set start arrival) := by
  unfold State.storeSet State.updateNewestLocal
  refine StoresSets.trans ?_ (State.modRing_stores _ _ _)
  exact (State.placeSet_stores s sen set start arrival).trans (State.timeOf_stores _ _ _)

end Sys2Proof.Machine
end

