-- ==== Sys2Proof/Laws/Excerpt.lean ====
section
/-! SUPPORT. What the operations of the Excerpt Engine can do at one port (chapter 9): `ChainOnly`, and `ChainKeeps`
where the excerpt buffer stays. -/

namespace Sys2Proof.Machine

/-! ### The frames -/

/-- Nothing but port `p`'s chain, its attention record and the maps that were read changes; the other port hears at most
of a map fault. -/
structure ChainOnly (p : Port) (s t : State) : Prop where
  rest : t = { s with ring := t.ring, chains := t.chains, attention := t.attention }
  other : t.chain p.other = s.chain p.other
  ring : ∀ sen, (s.ring.get sen).MapReads (t.ring.get sen)
  otherAttention : t.attention.get p.other = s.attention.get p.other
    ∨ t.attention.get p.other = (s.attention.get p.other).becomePending s.time.localTime .mapFault
  attention : (s.attention.get p).Grows (t.attention.get p)
  offer : ClassSet.has (t.attention.get p).pending .offer = ClassSet.has (s.attention.get p).pending .offer
  elements : (t.chain p).elements = (s.chain p).elements
  capacity : (s.chain p).buffer.length ≤ Config.bufferCapacity → (t.chain p).buffer.length ≤ Config.bufferCapacity

/-- `ChainOnly`, and the buffer stays. -/
structure ChainKeeps (p : Port) (s t : State) : Prop extends ChainOnly p s t where
  buffer : (t.chain p).buffer = (s.chain p).buffer

theorem ChainOnly.time {p : Port} {s t : State} (h : ChainOnly p s t) : t.time = s.time := by rw [h.rest]

theorem ChainOnly.refl (p : Port) (s : State) : ChainOnly p s s :=
  ⟨rfl, rfl, fun _ => .refl _, .inl rfl, .refl _, rfl, rfl, id⟩

theorem ChainOnly.trans {p : Port} {s t u : State} (h : ChainOnly p s t) (k : ChainOnly p t u) : ChainOnly p s u where
  rest := by rw [k.rest, h.rest]
  other := k.other.trans h.other
  ring sen := (h.ring sen).trans (k.ring sen)
  otherAttention := by
    have ha := h.otherAttention
    have ka := k.otherAttention
    rw [h.time] at ka
    rcases ha with ha | ha <;> rcases ka with ka | ka <;> rw [ka, ha]
    · exact .inl rfl
    · exact .inr rfl
    · exact .inr rfl
    · exact .inr (AttnRecord.becomePending_twice _ _ _)
  attention := h.attention.trans k.attention
  offer := k.offer.trans h.offer
  elements := k.elements.trans h.elements
  capacity x := k.capacity (h.capacity x)

theorem ChainKeeps.refl (p : Port) (s : State) : ChainKeeps p s s := ⟨.refl p s, rfl⟩

theorem ChainKeeps.trans {p : Port} {s t u : State} (h : ChainKeeps p s t) (k : ChainKeeps p t u) : ChainKeeps p s u :=
  ⟨h.toChainOnly.trans k.toChainOnly, k.buffer.trans h.buffer⟩

/-- The other port's OFFER stays with its record. -/
theorem ChainOnly.offer_other {p : Port} {s t : State} (h : ChainOnly p s t) :
    ClassSet.has (t.attention.get p.other).pending .offer = ClassSet.has (s.attention.get p.other).pending .offer := by
  rcases h.otherAttention with e | e <;> rw [e]
  simp

theorem ChainOnly.grows {p : Port} {s t : State} (h : ChainOnly p s t) (q : Port) :
    (s.attention.get q).Grows (t.attention.get q) := by
  rcases Port.eq_or_other p q with rfl | rfl
  · exact h.attention
  · rcases h.otherAttention with e | e <;> rw [e]
    · exact .refl _
    · exact AttnRecord.grows_becomePending _ _ _

/-! ### Elementary changes -/

@[simp] theorem State.chain_modChain (s : State) (p : Port) (f : Chain → Chain) :
    (s.modChain p f).chain p = f (s.chain p) := by
  simp [State.chain]

@[simp] theorem State.chain_modChain_other (s : State) (p : Port) (f : Chain → Chain) :
    (s.modChain p f).chain p.other = s.chain p.other := by
  simp [State.chain]

@[simp] theorem State.chain_raise (s : State) (p q : Port) (c : AttnClass) : (s.raise p c).chain q = s.chain q := rfl

/-- A change of the chain that keeps its elements and its buffer. -/
theorem State.modChain_keeps {s : State} {p : Port} {f : Chain → Chain}
    (he : (f (s.chain p)).elements = (s.chain p).elements) (hb : (f (s.chain p)).buffer = (s.chain p).buffer) :
    ChainKeeps p s (s.modChain p f) where
  rest := rfl
  other := State.chain_modChain_other s p f
  ring _ := .refl _
  otherAttention := .inl rfl
  attention := .refl _
  offer := rfl
  elements := by simpa using he
  capacity h := by simpa [hb] using h
  buffer := by simpa using hb

/-- A latched class is raised at the chain's port. -/
theorem State.raise_keeps (s : State) (p : Port) {c : AttnClass} (hc : c ≠ .offer) : ChainKeeps p s (s.raise p c) where
  rest := rfl
  other := rfl
  ring _ := .refl _
  otherAttention := .inl (by simp)
  attention := by simpa using AttnRecord.grows_becomePending _ _ _
  offer := by simp [Ne.symm hc]
  elements := rfl
  capacity h := h
  buffer := rfl

theorem MapReads.keeps {s t : State} (h : MapReads s t) (p : Port) : ChainKeeps p s t where
  rest := by rw [h.rest]
  other := by rw [h.rest]; rfl
  ring := h.ring
  otherAttention := by
    rcases h.attention with e | e <;> rw [e]
    · exact .inl rfl
    · exact .inr (by simp)
  attention := h.grows p
  offer := h.offer p
  elements := by rw [h.rest]; rfl
  capacity x := by rw [h.rest]; exact x
  buffer := by rw [h.rest]; rfl

/-! ### Termination, pressure, waits -/

theorem State.terminate_keeps (s : State) (p : Port) (status : ChainStatus) : ChainKeeps p s (s.terminate p status) := by
  unfold State.terminate
  split
  · exact .refl p s
  · exact ChainKeeps.trans (State.modChain_keeps rfl rfl) (State.raise_keeps _ _ (by decide))

theorem State.evaluateLevel_keeps (s : State) (p : Port) : ChainKeeps p s (s.evaluateLevel p) := by
  unfold State.evaluateLevel
  split
  · split
    · exact .refl p s
    · dsimp only
      split
      · exact ChainKeeps.trans (State.modChain_keeps rfl rfl) (State.raise_keeps _ _ (by decide))
      · exact State.modChain_keeps rfl rfl
  · exact .refl p s

/-- R48, R49: what the evaluation of a reader position can do. -/
theorem State.evalReader_keeps (s : State) (p : Port) : ChainKeeps p s (s.evalReader p) := by
  unfold State.evalReader
  split
  · exact State.terminate_keeps s p _
  · exact State.evaluateLevel_keeps s p

theorem State.waitIfBeyond_keeps (s : State) (p : Port) : ChainKeeps p s (s.waitIfBeyond p) := by
  unfold State.waitIfBeyond
  split
  · split
    · exact State.modChain_keeps rfl rfl
    · exact .refl p s
  · exact .refl p s

/-! ### Elements -/

/-- R175: what the end of an element can do. -/
theorem State.endElement_keeps (s : State) (p : Port) : ChainKeeps p s (s.endElement p).1 := by
  unfold State.endElement
  dsimp only
  split
  · exact .refl p s
  · split
    · exact .refl p s
    · rename_i el _
      have h1 : ChainKeeps p s (if el.notify then s.raise p .excerptEnd else s) := by
        split
        · exact State.raise_keeps _ _ (by decide)
        · exact .refl p s
      generalize (if el.notify then s.raise p .excerptEnd else s) = s1 at h1
      have h2 := h1.trans (State.modChain_keeps (f := fun x => { x with
        plan := none, run := none, pendingStart := none, wait := none, pausePoint := none }) rfl rfl)
      split
      · refine h2.trans ?_
        dsimp only
        exact State.modChain_keeps rfl rfl
      · split
        · exact h2
        · refine h2.trans ?_
          dsimp only
          exact State.modChain_keeps rfl rfl

theorem State.placeStart_keeps (s : State) (p : Port) (plan : ElementPlan) (n : Nat) (note : StartNote)
    (level : Pressure) : ChainKeeps p s (s.placeStart p plan n note level).1 := by
  unfold State.placeStart
  split
  · exact State.endElement_keeps s p
  · exact ((State.modChain_keeps rfl rfl).trans (State.evalReader_keeps _ _)).trans (State.waitIfBeyond_keeps _ _)

theorem State.waitStart_keeps (s : State) (p : Port) (t : StartTime) : ChainKeeps p s (s.waitStart p t) :=
  State.modChain_keeps rfl rfl

theorem State.resolve_mapReads (s : State) (sen : Sensor) (start : StartPoint) : MapReads s (s.resolve sen start).1 := by
  cases start with
  | sample n => exact .refl s
  | time t => exact State.translate_mapReads s sen t

/-- R167: what the beginning of an element can do. -/
theorem State.beginElement_keeps (fuel : Nat) (s : State) (p : Port) (i : Nat) (carried : Option (Sensor × Pressure)) :
    ChainKeeps p s (s.beginElement fuel p i carried) := by
  induction fuel generalizing s i carried with
  | zero => exact .refl p s
  | succ fuel ih =>
    unfold State.beginElement
    split
    · exact .refl p s
    · dsimp only
      have h1 : ChainKeeps p s (s.modChain p fun c =>
          { c with current := some i, plan := none, run := none, pendingStart := none, wait := none
                   pausePoint := none }) := State.modChain_keeps rfl rfl
      split
      · exact h1.trans (State.terminate_keeps _ _ _)
      · rename_i plan start _
        have h2 := h1.trans (State.modChain_keeps (f := fun c => { c with plan := some plan }) rfl rfl)
        have h3 := h2.trans ((State.resolve_mapReads _ plan.sensor start).keeps p)
        have go : ∀ (u : State) (n : Nat) (note : StartNote) (level : Pressure), ChainKeeps p s u →
            ChainKeeps p s (if (u.placeStart p plan n note level).2
              then State.beginElement fuel (u.placeStart p plan n note level).1 p (i + 1) none
              else (u.placeStart p plan n note level).1) := by
          intro u n note level hu
          have hp := hu.trans (State.placeStart_keeps u p plan n note level)
          split
          · exact hp.trans (ih _ _ _)
          · exact hp
        split
        · exact go _ _ _ _ h3
        · exact h3.trans (State.waitStart_keeps _ _ _)
        · exact h3

theorem State.finishElement_keeps (s : State) (p : Port) (carried : Option (Sensor × Pressure)) :
    ChainKeeps p s (s.finishElement p carried) := by
  unfold State.finishElement
  dsimp only
  split
  · exact (State.endElement_keeps s p).trans (State.beginElement_keeps _ _ _ _ _)
  · exact State.endElement_keeps s p

theorem State.retryStart_keeps {s : State} {p : Port} {again : State → StartTime → State}
    (ha : ∀ t x, ChainKeeps p t (again t x)) : ChainKeeps p s (s.retryStart p again) := by
  unfold State.retryStart
  split
  · rename_i plan x _ _
    have h := (State.translate_mapReads s plan.sensor x).keeps p
    dsimp only
    split
    · exact h.trans (ha _ _)
    · split
      · exact (h.trans (State.placeStart_keeps _ _ _ _ _ _)).trans (State.beginElement_keeps _ _ _ _ _)
      · exact h.trans (State.placeStart_keeps _ _ _ _ _ _)
  · exact .refl p s

/-! ### The ring's report -/

theorem State.reportToWait_keeps (s : State) (p : Port) : ChainKeeps p s (s.reportToWait p) := by
  unfold State.reportToWait
  split
  · exact State.retryStart_keeps fun t _ => .refl p t
  · split
    · split
      · exact .refl p s
      · exact State.modChain_keeps rfl rfl
    · exact .refl p s
  · exact .refl p s

/-- R40, R48, R49: what the ring's report can do at one chain. -/
theorem State.chainReport_keeps (s : State) (sen : Sensor) (p : Port) : ChainKeeps p s (s.chainReport sen p) := by
  unfold State.chainReport
  split
  · dsimp only
    split
    · exact (State.reportToWait_keeps s p).trans (State.evalReader_keeps _ _)
    · exact State.reportToWait_keeps s p
  · exact .refl p s

/-! ### Block reads -/

theorem blockSize_le_room (ps : PageSize) (r : RingRecord) (left room u : Nat) : blockSize ps r left room u ≤ room :=
  (min_le_right _ _).trans (min_le_left _ _)

theorem State.takeBlock_only (s : State) (p : Port) (plan : ElementPlan) (run : ElementRun) :
    ChainOnly p s (s.takeBlock p plan run) := by
  have h := (State.readEntry_mapReads s plan.sensor (run.next / s.pageSize.active.sets)).keeps p
  unfold State.takeBlock
  dsimp only
  refine ChainOnly.trans (h.toChainOnly.trans ?_) (State.evaluateLevel_keeps _ _).toChainOnly
  refine ⟨rfl, State.chain_modChain_other _ _ _, fun _ => .refl _, .inl rfl, .refl _, rfl, by simp, fun hb => ?_⟩
  have hroom := blockSize_le_room s.pageSize.active (s.ring.get plan.sensor) (plan.length - run.progress)
    (Config.bufferCapacity - (s.chain p).buffer.length) run.next
  rw [h.buffer] at hb
  simp only [State.chain_modChain, List.length_append, List.length_map, List.length_range, h.buffer]
  omega

/-- R173: what a block read for a chain can do. -/
theorem State.chainBlock_only (s : State) (p : Port) : ChainOnly p s (s.chainBlock p) := by
  unfold State.chainBlock
  split
  · rename_i plan run _ _
    refine (State.takeBlock_only s p plan run).trans ?_
    unfold State.afterBlock
    split
    · split
      · exact (State.finishElement_keeps _ _ _).toChainOnly
      · exact (State.waitIfBeyond_keeps _ _).toChainOnly
    · exact .refl p _
  · exact .refl p s

/-! ### Waits and commands -/

theorem State.waitTimeout_keeps (s : State) (p : Port) (kind : WaitKind) : ChainKeeps p s (s.waitTimeout p kind) := by
  unfold State.waitTimeout
  split
  · exact State.terminate_keeps s p _
  · exact .refl p s

/-- R177: what a resumption can do. -/
theorem State.resume_keeps (s : State) (p : Port) : ChainKeeps p s (s.resume p) := by
  unfold State.resume
  split
  · exact ChainKeeps.trans (State.modChain_keeps rfl rfl) (State.waitIfBeyond_keeps _ _)
  · exact State.retryStart_keeps fun _ _ => State.waitStart_keeps _ _ _
  · unfold State.resumeBetween
    dsimp only
    split
    · exact State.beginElement_keeps _ _ _ _ _
    · exact State.modChain_keeps rfl rfl
  · exact .refl p s

/-- R166: what START_CHAIN can do. -/
theorem State.answerStart_keeps (s : State) (p : Port) : ChainKeeps p s (s.answerStart p).state := by
  unfold State.answerStart
  dsimp only
  split <;> try exact .refl p s
  · exact State.beginElement_keeps _ _ _ _ _
  · exact State.resume_keeps s p

end Sys2Proof.Machine
end

