-- ==== Sys2Proof/Laws/Refine.lean ====
section
/-! SUPPORT. What the operations of the Onset Refiner can do (chapter 5), said once in the frames of Laws/Picks. -/

namespace Sys2Proof.Machine

/-! ### Elementary changes -/

/-- A latched class is raised at both ports. -/
theorem State.raiseBoth_reports (s : State) {c : AttnClass} (hc : c ≠ .offer) : ReportsOnly s (s.raiseBoth c) where
  rest := rfl
  refinement := ⟨rfl, rfl, rfl⟩
  queues _ h := h
  lost _ h := h
  work := .inl
  nextPick := rfl
  ids := List.Sublist.refl _
  settings := rfl
  groups := fun h => h
  groupCounts := fun h => h
  modes _ := ⟨rfl, rfl⟩
  detached _ _ := rfl
  attention p := AttnRecord.grows_map _ _ _ p
  offer h p := by
    have := h p
    simp only [State.notices] at this
    simp [State.notices, this, Ne.symm hc]
  gapCut := rfl
  records r hr := ⟨r, hr, .refl r⟩
  refiner := rfl

/-- A change of the refiner alone, other than of its settings and its gap marks. -/
theorem State.refiner_grants {s t : State} (ht : t = { s with refiner := t.refiner })
    (hr : t.refiner.groups = s.refiner.groups ∧ t.refiner.mode = s.refiner.mode ∧ t.refiner.aging = s.refiner.aging)
    (hq : ∀ sen, QueueOk (s.refiner.queues.get sen) → QueueOk (t.refiner.queues.get sen))
    (hl : ∀ sen, s.refiner.lost.get sen ≤ 65535 → t.refiner.lost.get sen ≤ 65535)
    (hw : t.refiner.work.isSome = true →
      s.refiner.work.isSome = true ∨ s.table.records.length < Config.tableCapacity)
    (hc : t.refiner.gapCut = s.refiner.gapCut) : GrantsOnly s t := by
  rw [ht]
  exact
    { rest := rfl
      refinement := hr
      queues := hq
      lost := hl
      work := hw
      nextPick := rfl
      ids := List.Sublist.refl _
      settings := rfl
      groups := fun h => h
      groupCounts := fun h => h
      modes := fun _ => ⟨rfl, rfl⟩
      detached := fun _ _ => rfl
      attention := fun _ => .refl _
      offer := fun h => h
      gapCut := hc
      records := fun r hr => ⟨r, hr, .refl r⟩ }

theorem QueueOk.set {v : PerSensor (List RefineRequest)} {sen : Sensor} {l : List RefineRequest}
    (hl : QueueOk (v.get sen) → QueueOk l) (i : Sensor) (h : QueueOk (v.get i)) : QueueOk ((v.set sen l).get i) := by
  by_cases e : i = sen
  · subst e
    simpa using hl h
  · simpa [PerSensor.get_set_ne _ _ e] using h

/-- A change of one queue. -/
theorem State.modQueue_grants {s : State} {sen : Sensor} {f : List RefineRequest → List RefineRequest}
    (hf : ∀ l, QueueOk l → QueueOk (f l)) : GrantsOnly s (s.modQueue sen f) :=
  State.refiner_grants rfl ⟨rfl, rfl, rfl⟩ (QueueOk.set (hf _)) (fun _ h => h) .inl rfl

/-! ### Queues -/

/-- A change of the requests that keeps their pass-over counts. -/
theorem QueueOk.map {f : RefineRequest → RefineRequest} (hf : ∀ q, (f q).passOver = q.passOver)
    {l : List RefineRequest} (h : QueueOk l) : QueueOk (l.map f) := by
  refine ⟨by simpa using h.1, fun q hq => ?_⟩
  obtain ⟨q', hq', rfl⟩ := List.mem_map.1 hq
  rw [hf]
  exact h.2 q' hq'

/-- A change of the requests of one queue that keeps their pass-over counts. -/
theorem State.mapQueue_grants {s : State} {sen : Sensor} {f : RefineRequest → RefineRequest}
    (hf : ∀ q, (f q).passOver = q.passOver) : GrantsOnly s (s.modQueue sen fun l => l.map f) :=
  State.modQueue_grants fun _ h => h.map hf

theorem QueueOk.sublist {l l' : List RefineRequest} (hs : l'.Sublist l) (h : QueueOk l) : QueueOk l' :=
  ⟨hs.length_le.trans h.1, fun q hq => h.2 q (hs.subset hq)⟩

theorem QueueOk.passOverHead {l : List RefineRequest} (h : QueueOk l) : QueueOk (passOverHead l) := by
  cases l with
  | nil => exact h
  | cons q rest =>
    refine ⟨h.1, fun x hx => ?_⟩
    rcases List.mem_cons.1 hx with rfl | hx
    · exact min_le_right _ _
    · exact h.2 x (List.mem_cons_of_mem _ hx)

theorem QueueOk.modHead {f : RefineRequest → RefineRequest} (hf : ∀ q, (f q).passOver = q.passOver)
    {l : List RefineRequest} (h : QueueOk l) : QueueOk (modHead f l) := by
  cases l with
  | nil => exact h
  | cons q rest =>
    refine ⟨h.1, fun x hx => ?_⟩
    rcases List.mem_cons.1 hx with rfl | hx
    · rw [hf]
      exact h.2 q (by simp)
    · exact h.2 x (List.mem_cons_of_mem _ hx)

theorem State.readyIf_passOver (s : State) (sen : Sensor) (q : RefineRequest) :
    (s.readyIf sen q).passOver = q.passOver := by
  unfold State.readyIf
  split <;> rfl

theorem State.testPosted_passOver (s : State) (sen : Sensor) (q : RefineRequest) :
    (s.testPosted sen q).passOver = q.passOver := by
  unfold State.testPosted
  split
  · exact State.readyIf_passOver s sen q
  · split
    · rfl
    · exact State.readyIf_passOver s sen q

/-! ### Losing requests, grant decisions -/

theorem State.loseRequest_grants (s : State) (sen : Sensor) : GrantsOnly s (s.loseRequest sen) := by
  refine GrantsOnly.trans ?_ (State.raiseBoth_reports _ (by decide)).toGrantsOnly
  refine State.refiner_grants rfl ⟨rfl, rfl, rfl⟩ (fun _ h => h) (fun i h => ?_) .inl rfl
  by_cases e : i = sen
  · subst e
    simpa using bump_le _
  · simpa [PerSensor.get_set_ne _ _ e] using h

/-- R80, R82: what the loss of a request can do. -/
theorem State.discardBy_grants (s : State) (sen : Sensor) {leave : List RefineRequest → List RefineRequest}
    (h : ∀ l, (leave l).Sublist l) : GrantsOnly s (s.discardBy sen leave) :=
  ((State.modQueue_grants fun l k => k.sublist (h l)).trans (State.loseRequest_grants _ _)).trans
    (State.testGroups_reports _).toGrantsOnly

theorem State.discardOverwritten_grants (s : State) (sen : Sensor) : GrantsOnly s (s.discardOverwritten sen) := by
  unfold State.discardOverwritten
  generalize (s.refiner.queues.get sen).filter (s.overwritten sen) = gone
  induction gone generalizing s with
  | nil => exact .refl s
  | cons q rest ih => exact (State.discardBy_grants s sen fun l => List.erase_sublist).trans (ih _)

theorem State.passOthers_grants (s : State) (sen : Sensor) : GrantsOnly s (s.passOthers sen) := by
  refine State.refiner_grants rfl ⟨rfl, rfl, rfl⟩ (fun i h => ?_) (fun _ h => h) .inl rfl
  simp only [State.passOthers, PerSensor.get_map]
  split
  · exact h.passOverHead
  · exact h

theorem State.discardHead_grants (s : State) (sen : Sensor) : GrantsOnly s (s.discardHead sen) :=
  State.discardBy_grants s sen List.tail_sublist

theorem State.beginWork_grants {s : State} (sen : Sensor) (q : RefineRequest)
    (h : s.table.records.length < Config.tableCapacity) : GrantsOnly s (s.beginWork sen q) :=
  State.refiner_grants rfl ⟨rfl, rfl, rfl⟩ (QueueOk.set fun h => by
    refine h.modHead ?_
    exact fun _ => rfl) (fun _ h => h)
    (fun _ => .inr h) rfl

theorem State.stall_grants (s : State) : GrantsOnly s s.stall := by
  unfold State.stall
  split
  · exact .refl s
  · refine GrantsOnly.trans ?_ (State.raiseBoth_reports _ (by decide)).toGrantsOnly
    exact State.refiner_grants rfl ⟨rfl, rfl, rfl⟩ (fun _ h => h) (fun _ h => h) .inl rfl

/-- R86 to R90: what a grant decision can do. -/
theorem State.grantDecision_grants (fuel : Nat) (s : State) : GrantsOnly s (s.grantDecision fuel) := by
  induction fuel generalizing s with
  | zero => exact .refl s
  | succ fuel ih =>
    unfold State.grantDecision
    split
    · exact State.refiner_grants rfl ⟨rfl, rfl, rfl⟩ (fun _ h => h) (fun _ h => h) .inl rfl
    · rename_i sen hsen
      split
      · exact State.stall_grants s
      · rename_i hlen
        split
        · exact .refl s
        · rename_i q hq
          have h2 : GrantsOnly s { s.passOthers sen with
              refiner := { (s.passOthers sen).refiner with lastGranted := sen } } :=
            (State.passOthers_grants s sen).trans
              (State.refiner_grants rfl ⟨rfl, rfl, rfl⟩ (fun _ h => h) (fun _ h => h) .inl rfl)
          dsimp only
          split
          · exact (h2.trans (State.discardHead_grants _ _)).trans (ih _)
          · exact h2.trans (State.beginWork_grants _ _ (by simpa [State.passOthers] using hlen))

/-- R86, R89: what the end of an operation can do, besides the operation. -/
theorem State.settle_grants (before s : State) : GrantsOnly s (State.settle before s) := by
  unfold State.settle
  split
  · exact .refl s
  · split
    · exact State.grantDecision_grants _ s
    · split
      · exact State.refiner_grants rfl ⟨rfl, rfl, rfl⟩ (fun _ h => h) (fun _ h => h) .inl rfl
      · exact .refl s

/-- A refiner that is BUSY makes no grant decision. -/
theorem State.settle_of_busy {before s : State} (h : s.refiner.work.isSome = true) : State.settle before s = s := by
  unfold State.settle
  rw [if_pos h]

theorem State.retest_grants (s : State) : GrantsOnly s s.retest :=
  (State.testGroups_reports s).toGrantsOnly.trans (State.settle_grants _ _)

/-! ### Reports, requests and detrigger information -/

/-- A change of the refiner's gap marks alone. -/
theorem State.gapMark_picks (s : State) (v : PerSensor (Option Nat)) :
    PicksOnly s { s with refiner := { s.refiner with gapCut := v } } where
  rest := rfl
  refinement := ⟨rfl, rfl, rfl⟩
  queues _ h := h
  lost _ h := h
  work := .inl
  nextPick := rfl
  ids := List.Sublist.refl _
  settings := rfl
  groups := fun h => h
  groupCounts := fun h => h
  modes _ := ⟨rfl, rfl⟩
  detached _ _ := rfl
  attention _ := .refl _
  offer h := h

/-- R79: what the GAP announcement can do at the refiner. -/
theorem State.refinerGap_picks (s : State) (sen : Sensor) : PicksOnly s (s.refinerGap sen) := by
  refine PicksOnly.trans (State.mapQueue_grants fun q => ?_).toPicksOnly (State.gapMark_picks _ _)
  split <;> rfl

theorem State.clearGapMark_picks (s : State) (sen : Sensor) : PicksOnly s (s.clearGapMark sen) := by
  unfold State.clearGapMark
  split
  · split
    · exact State.gapMark_picks _ _
    · exact .refl s
  · exact .refl s

/-- R78 to R80: what the ring's report can do at the refiner. -/
theorem State.refinerReport_picks (s : State) (sen : Sensor) (raised : Bool) : PicksOnly s (s.refinerReport sen raised) := by
  have h2 := (State.clearGapMark_picks s sen).trans (State.mapQueue_grants (s := s.clearGapMark sen) (sen := sen)
    ((s.clearGapMark sen).readyIf_passOver sen)).toPicksOnly
  unfold State.refinerReport
  dsimp only
  cases raised with
  | false => exact h2.trans (State.settle_grants s _).toPicksOnly
  | true =>
    exact (h2.trans (State.discardOverwritten_grants _ _).toPicksOnly).trans (State.settle_grants s _).toPicksOnly

/-- R63, R77: what the posting of a request can do. -/
theorem State.postRequest_grants (s : State) (sen : Sensor) (ch : Channel) (trigger triggerLocal : Nat) :
    GrantsOnly s (s.postRequest sen ch trigger triggerLocal).1 := by
  unfold State.postRequest
  split
  · rename_i hlen
    refine GrantsOnly.trans ?_ (State.settle_grants s _)
    refine State.refiner_grants rfl ⟨rfl, rfl, rfl⟩ (fun i h => ?_) (fun _ h => h) .inl rfl
    by_cases e : i = sen
    · subst e
      refine ⟨?_, fun q hq => ?_⟩
      · simpa using hlen
      · simp only [State.modQueue_refiner, PerSensor.get_set, List.mem_append, List.mem_singleton] at hq
        rcases hq with hq | rfl
        · exact h.2 q hq
        · rw [State.testPosted_passOver]
          exact Nat.zero_le _
    · simpa [PerSensor.get_set_ne _ _ e] using h
  · exact (State.raiseBoth_reports s (by decide)).toGrantsOnly

/-- A change of a record that keeps its id. -/
theorem State.modPick_picks {s : State} {id : Nat} {f : PickRecord → PickRecord} (hf : ∀ r, (f r).id = r.id) :
    PicksOnly s (s.modPick id f) where
  rest := rfl
  refinement := ⟨rfl, rfl, rfl⟩
  queues _ h := h
  lost _ h := h
  work := fun h => .inl h
  nextPick := rfl
  ids := by
    have : ∀ r, (if r.id = id then f r else r).id = r.id := fun r => by
      split
      · exact hf r
      · rfl
    simp [Function.comp_def, this]
  settings := rfl
  groups := fun h => h
  groupCounts := fun h => h
  modes _ := ⟨rfl, rfl⟩
  detached _ _ := rfl
  attention _ := .refl _
  offer h := h

/-- R114: what detrigger information can do at the Arrival Table. -/
theorem State.finalize_picks (s : State) (sen : Sensor) (ch : Channel) (trigger : Nat) (info : EndInfo) :
    PicksOnly s (s.finalize sen ch trigger info) := by
  unfold State.finalize
  split
  · exact .refl s
  · split
    · refine PicksOnly.trans ?_ (State.releaseTest_reports _ _).toPicksOnly
      refine PicksOnly.trans ?_ (State.mergeFinal_reports _ _).toPicksOnly
      exact State.modPick_picks fun _ => rfl
    · exact .refl s

/-- R81: what detrigger information can do at the refiner. -/
theorem State.detriggerInfo_picks (s : State) (sen : Sensor) (ch : Channel) (trigger : Nat) (info : EndInfo) :
    PicksOnly s (s.detriggerInfo sen ch trigger info) := by
  unfold State.detriggerInfo
  split
  · refine (State.mapQueue_grants fun q => ?_).toPicksOnly
    split <;> rfl
  · exact (State.finalize_picks s _ _ _ _).trans (State.settle_grants s _).toPicksOnly

/-! ### Block reads -/

/-- R91: what a block read for the refiner can do. -/
theorem State.refinerBlock_grants (s : State) : GrantsOnly s s.refinerBlock := by
  unfold State.refinerBlock
  split
  · exact .refl s
  · rename_i w hw
    split
    · exact .refl s
    · split
      · exact State.refiner_grants rfl ⟨rfl, rfl, rfl⟩ (QueueOk.set fun h => by
    refine h.modHead ?_
    exact fun _ => rfl) (fun _ h => h)
          (fun _ => .inl (by simp [hw])) rfl
      · refine GrantsOnly.trans (GrantsOnly.trans ?_ (State.discardHead_grants _ _)) (State.grantDecision_grants _ _)
        exact State.refiner_grants rfl ⟨rfl, rfl, rfl⟩ (fun _ h => h) (fun _ h => h) (fun h => nomatch h) rfl

/-! ### Commands of the catalogue -/

/-- R117: what handing on a retracted record can do. -/
theorem State.handOnRetraction_reports (s : State) (p : Port) (r : PickRecord) :
    ReportsOnly s (s.handOnRetraction p r) :=
  ((State.groupRetract_reports s r).trans (State.mergeRetraction_reports _ _ _)).trans (State.releaseTest_reports _ _)

end Sys2Proof.Machine
end

