-- ==== Sys2Proof/Laws/Intake.lean ====
section
/-! SUPPORT. What handing on a set, a GAP and a copy of the correction group can do (chapters 1 and 4): `WorksOn`. -/

namespace Sys2Proof.Machine

/-! ### The frame -/

/-- What the part does on its own with samples: no setting as SET stores it, no mode, no port record and no status of
the whole part changes; no pick record is added, and nothing grows past its capacity. -/
structure WorksOn (s t : State) : Prop where
  rest : t = { s with
    intake := t.intake, ring := t.ring, detector := t.detector, refiner := t.refiner, table := t.table
    grouper := t.grouper, offers := t.offers, chains := t.chains, attention := t.attention }
  staged : ∀ sen, (t.intake.get sen).correction.staged = (s.intake.get sen).correction.staged
    ∧ (t.detector.get sen).group.staged = (s.detector.get sen).group.staged
  refinement : t.refiner.groups = s.refiner.groups ∧ t.refiner.mode = s.refiner.mode
    ∧ t.refiner.aging = s.refiner.aging
  queues : ∀ sen, QueueOk (s.refiner.queues.get sen) → QueueOk (t.refiner.queues.get sen)
  lost : ∀ sen, s.refiner.lost.get sen ≤ 65535 → t.refiner.lost.get sen ≤ 65535
  work : t.refiner.work.isSome = true →
    s.refiner.work.isSome = true ∨ t.table.records.length < Config.tableCapacity
  nextPick : t.table.nextId = s.table.nextId
  ids : (t.table.records.map (·.id)).Sublist (s.table.records.map (·.id))
  settings : t.grouper.settings = s.grouper.settings
  groups : s.grouper.groups.length ≤ Config.groupCapacity → t.grouper.groups.length ≤ Config.groupCapacity
  groupCounts : s.grouper.fullCount ≤ 65535 ∧ s.grouper.expired ≤ 65535 →
    t.grouper.fullCount ≤ 65535 ∧ t.grouper.expired ≤ 65535
  modes : ∀ p, (t.offers.get p).mode = (s.offers.get p).mode ∧ (t.offers.get p).setting = (s.offers.get p).setting
  detached : ∀ p, s.attached p = false → t.notices p = s.notices p
  attention : ∀ p, (s.attention.get p).Grows (t.attention.get p)
  offer : OfferInv s → OfferInv t
  chains : ∀ p, (t.chain p).elements = (s.chain p).elements ∧ (t.chain p).buffer = (s.chain p).buffer

theorem WorksOn.attached {s t : State} (h : WorksOn s t) (p : Port) : t.attached p = s.attached p :=
  State.attached_congr (h.modes p).1

theorem WorksOn.length_le {s t : State} (h : WorksOn s t) : t.table.records.length ≤ s.table.records.length := by
  simpa using h.ids.length_le

theorem WorksOn.refl (s : State) : WorksOn s s :=
  ⟨rfl, fun _ => ⟨rfl, rfl⟩, ⟨rfl, rfl, rfl⟩, fun _ h => h, fun _ h => h, .inl, rfl, List.Sublist.refl _, rfl, id, id,
    fun _ => ⟨rfl, rfl⟩, fun _ _ => rfl, fun _ => .refl _, id, fun _ => ⟨rfl, rfl⟩⟩

theorem WorksOn.trans {s t u : State} (h : WorksOn s t) (k : WorksOn t u) : WorksOn s u where
  rest := by rw [k.rest, h.rest]
  staged sen := ⟨(k.staged sen).1.trans (h.staged sen).1, (k.staged sen).2.trans (h.staged sen).2⟩
  refinement := ⟨k.refinement.1.trans h.refinement.1, k.refinement.2.1.trans h.refinement.2.1,
    k.refinement.2.2.trans h.refinement.2.2⟩
  queues sen hs := k.queues sen (h.queues sen hs)
  lost sen hs := k.lost sen (h.lost sen hs)
  work hu := by
    rcases k.work hu with ht | hlt
    · rcases h.work ht with hs | hlt
      · exact .inl hs
      · exact .inr (k.length_le.trans_lt hlt)
    · exact .inr hlt
  nextPick := k.nextPick.trans h.nextPick
  ids := k.ids.trans h.ids
  settings := k.settings.trans h.settings
  groups hs := k.groups (h.groups hs)
  groupCounts hs := k.groupCounts (h.groupCounts hs)
  modes p := ⟨(k.modes p).1.trans (h.modes p).1, (k.modes p).2.trans (h.modes p).2⟩
  detached p hs := (k.detached p ((h.attached p).trans hs)).trans (h.detached p hs)
  attention p := (h.attention p).trans (k.attention p)
  offer hs := k.offer (h.offer hs)
  chains p := ⟨(k.chains p).1.trans (h.chains p).1, (k.chains p).2.trans (h.chains p).2⟩

/-! ### The frames of the blocks are frames of the whole -/

theorem PicksOnly.works {s t : State} (h : PicksOnly s t) : WorksOn s t where
  rest := by rw [h.rest]
  staged _ := by rw [h.rest]; exact ⟨rfl, rfl⟩
  refinement := h.refinement
  queues := h.queues
  lost := h.lost
  work := h.work
  nextPick := h.nextPick
  ids := h.ids
  settings := h.settings
  groups := h.groups
  groupCounts := h.groupCounts
  modes := h.modes
  detached := h.detached
  attention := h.attention
  offer := h.offer
  chains _ := by rw [h.rest]; exact ⟨rfl, rfl⟩

/-- A change of intake, rings, detector, chains and attention that keeps what `WorksOn` keeps of them. -/
theorem WorksOn.of_rest {s t : State}
    (hr : t = { s with
      intake := t.intake, ring := t.ring, detector := t.detector, chains := t.chains, attention := t.attention })
    (hs : ∀ sen, (t.intake.get sen).correction.staged = (s.intake.get sen).correction.staged
      ∧ (t.detector.get sen).group.staged = (s.detector.get sen).group.staged)
    (ha : ∀ p, (s.attention.get p).Grows (t.attention.get p))
    (ho : ∀ p, ClassSet.has (t.attention.get p).pending .offer = ClassSet.has (s.attention.get p).pending .offer)
    (hc : ∀ p, (t.chain p).elements = (s.chain p).elements ∧ (t.chain p).buffer = (s.chain p).buffer) :
    WorksOn s t := by
  have hn : ∀ p, t.notices p = s.notices p := fun p => by rw [hr]; rfl
  exact
    { rest := by rw [hr]
      staged := hs
      refinement := by rw [hr]; exact ⟨rfl, rfl, rfl⟩
      queues := fun _ h => by rw [hr]; exact h
      lost := fun _ h => by rw [hr]; exact h
      work := fun h => by rw [hr] at h; exact .inl h
      nextPick := by rw [hr]
      ids := by rw [hr]
      settings := by rw [hr]
      groups := fun h => by rw [hr]; exact h
      groupCounts := fun h => by rw [hr]; exact h
      modes := fun _ => by rw [hr]; exact ⟨rfl, rfl⟩
      detached := fun p _ => hn p
      attention := ha
      offer := fun h p => by rw [ho, h p, hn]
      chains := hc }

theorem StoresSets.works {sen : Sensor} {s t : State} (h : StoresSets sen s t) : WorksOn s t := by
  refine .of_rest (by rw [h.rest]) (fun _ => by rw [h.rest]; exact ⟨rfl, rfl⟩) (fun p => ?_) (fun p => ?_)
    fun p => by rw [h.rest]; exact ⟨rfl, rfl⟩
  · rcases h.attention with e | e <;> rw [e]
    · exact .refl _
    · exact AttnRecord.grows_map _ _ _ p
  · rcases h.attention with e | e <;> rw [e]
    simp

theorem ChainKeeps.works {p : Port} {s t : State} (h : ChainKeeps p s t) : WorksOn s t := by
  refine .of_rest (by rw [h.rest]) (fun _ => by rw [h.rest]; exact ⟨rfl, rfl⟩) h.grows (fun q => ?_) fun q => ?_
  · rcases Port.eq_or_other p q with rfl | rfl
    · exact h.offer
    · exact h.offer_other
  · rcases Port.eq_or_other p q with rfl | rfl
    · exact ⟨h.elements, h.buffer⟩
    · rw [h.other]
      exact ⟨rfl, rfl⟩

theorem State.modDetector_works {s : State} {sen : Sensor} {f : DetectorRecord → DetectorRecord}
    (hf : ∀ d, (f d).group.staged = d.group.staged) : WorksOn s (s.modDetector sen f) := by
  refine .of_rest rfl (fun i => ⟨rfl, ?_⟩) (fun _ => .refl _) (fun _ => rfl) fun _ => ⟨rfl, rfl⟩
  by_cases e : i = sen
  · subst e
    simpa using hf _
  · simp [PerSensor.get_set_ne _ _ e]

theorem State.modIntake_works {s : State} {sen : Sensor} {f : IntakeRecord → IntakeRecord}
    (hf : ∀ r, (f r).correction.staged = r.correction.staged) : WorksOn s (s.modIntake sen f) := by
  refine .of_rest rfl (fun i => ⟨?_, rfl⟩) (fun _ => .refl _) (fun _ => rfl) fun _ => ⟨rfl, rfl⟩
  by_cases e : i = sen
  · subst e
    simpa using hf _
  · simp [PerSensor.get_set_ne _ _ e]

theorem State.setIntakeFlag_works (s : State) (sen : Sensor) (f : IntakeFlag) : WorksOn s (s.setIntakeFlag sen f) := by
  refine .of_rest rfl (fun i => ⟨?_, rfl⟩) (fun p => ?_) (fun p => ?_) fun _ => ⟨rfl, rfl⟩
  · by_cases e : i = sen
    · subst e
      simp
    · simp [PerSensor.get_set_ne _ _ e]
  · simp only [State.setIntakeFlag]
    split
    · exact .refl _
    · exact AttnRecord.grows_map _ _ _ p
  · simp only [State.setIntakeFlag]
    split <;> simp

/-! ### The Detector -/

theorem State.modChannel_works (s : State) (sen : Sensor) (ch : Channel) (f : ChannelRecord → ChannelRecord) :
    WorksOn s (s.modChannel sen ch f) :=
  State.modDetector_works fun _ => rfl

theorem State.handOnEpisode_picks (s : State) (sen : Sensor) (ch : Channel) (e : Episode) (n : Nat) (c : EndCause) :
    PicksOnly s (s.handOnEpisode sen ch e n c) := by
  unfold State.handOnEpisode
  split
  · exact State.detriggerInfo_picks s _ _ _ _
  · exact .refl s

theorem State.handOnBlind_picks (s : State) (sen : Sensor) (ch : Channel) (c : ChannelRecord) :
    PicksOnly s (s.handOnBlind sen ch c) := by
  unfold State.handOnBlind
  split
  · exact State.handOnEpisode_picks s _ _ _ _ _
  · exact .refl s

theorem State.endEpisodes_works (s : State) (sen : Sensor) (f : ChannelRecord → ChannelRecord) :
    WorksOn s (s.endEpisodes sen f) := by
  unfold State.endEpisodes
  refine WorksOn.trans ?_ (State.handOnBlind_picks _ _ _ _).works
  refine WorksOn.trans ?_ (State.handOnBlind_picks _ _ _ _).works
  exact State.modDetector_works fun _ => rfl

/-- R67: what the GAP announcement can do at the Detector. -/
theorem State.detectorGap_works (s : State) (sen : Sensor) : WorksOn s (s.detectorGap sen) := by
  unfold State.detectorGap
  split
  · exact .refl s
  · exact (State.endEpisodes_works s sen _).trans (State.retest_grants _).toPicksOnly.works

theorem State.trigger_works (s : State) (sen : Sensor) (ch : Channel) (n localTime : Nat) :
    WorksOn s (s.trigger sen ch n localTime) := by
  unfold State.trigger
  exact (State.postRequest_grants s sen ch n localTime).toPicksOnly.works.trans (State.modChannel_works _ _ _ _)

theorem State.episodeSet_works (s : State) (sen : Sensor) (ch : Channel) (n : Nat) (e : Episode) :
    WorksOn s (s.episodeSet sen ch n e) := by
  unfold State.episodeSet
  dsimp only
  split
  · exact State.modChannel_works _ _ _ _
  · exact (State.handOnEpisode_picks _ _ _ _ _ _).works.trans (State.modChannel_works _ _ _ _)

/-- R54, step 4: what a channel's step can do. -/
theorem State.evaluate_works (s : State) (sen : Sensor) (ch : Channel) (suspended : Bool) (n localTime : Nat) :
    WorksOn s (s.evaluate sen ch suspended n localTime) := by
  unfold State.evaluate
  dsimp only
  split
  · exact State.modChannel_works _ _ _ _
  · split
    · exact State.trigger_works s _ _ _ _
    · exact .refl s
  · split
    · exact State.episodeSet_works s _ _ _ _
    · exact .refl s
  · exact State.modChannel_works _ _ _ _
  · exact .refl s

/-- R54: what the handling of a set can do. -/
theorem State.detectorSet_works (s : State) (sen : Sensor) (x : SampleSet) (start : Bool) :
    WorksOn s (s.detectorSet sen x start) := by
  have h1 : WorksOn s (s.detectorStart sen start) := by
    unfold State.detectorStart
    split
    · exact State.endEpisodes_works s _ _
    · exact .refl s
  have h2 : ∀ u : State, WorksOn u
      (if (u.detector.get sen).appliesNow then u.modDetector sen DetectorRecord.apply else u) := fun u => by
    split
    · exact State.modDetector_works fun _ => rfl
    · exact .refl u
  unfold State.detectorSet
  refine WorksOn.trans ?_ (State.evaluate_works _ _ _ _ _ _)
  refine WorksOn.trans ?_ (State.evaluate_works _ _ _ _ _ _)
  refine WorksOn.trans (h1.trans (h2 _)) ?_
  exact State.modDetector_works fun _ => rfl

/-! ### Handing on, gaps and copies -/

/-- R40: what the reports of a stored set can do. -/
theorem State.ringReport_works (s : State) (sen : Sensor) (raised : Bool) : WorksOn s (s.ringReport sen raised) := by
  unfold State.ringReport State.excerptReport
  exact (((State.refinerReport_picks s sen raised).works.trans (State.retest_grants _).toPicksOnly.works).trans
    (State.chainReport_keeps _ _ _).works).trans (State.chainReport_keeps _ _ _).works

/-- R4: what handing on a set can do. -/
theorem State.handOn_works (s : State) (sen : Sensor) (set : SampleSet) (start : Bool) (arrival : Nat) :
    WorksOn s (s.handOn sen set start arrival) := by
  unfold State.handOn
  exact ((State.storeSet_stores s sen set start arrival).works.trans (State.ringReport_works _ _ _)).trans
    (State.detectorSet_works _ _ _ _)

/-- R11: what a GAP declaration can do. -/
theorem State.declareGap_works (s : State) (sen : Sensor) (flag : Bool) : WorksOn s (s.declareGap sen flag) := by
  have h2 := (((State.closePageShort_stores s sen).works.trans (State.detectorGap_works _ sen)).trans
    (State.refinerGap_picks _ sen).works).trans
    (State.settle_grants ((s.closePageShort sen).detectorGap sen) _).toPicksOnly.works
  unfold State.declareGap
  refine WorksOn.trans ?_ (State.modIntake_works fun _ => rfl)
  cases flag with
  | false => exact h2
  | true => exact h2.trans (State.setIntakeFlag_works _ _ _)

/-- R17, R18: what a copy of the correction group can do. -/
theorem State.copyCorrection_works (s : State) (sen : Sensor) : WorksOn s (s.copyCorrection sen) := by
  have h1 : WorksOn s (s.modIntake sen .copyGroup) := State.modIntake_works fun _ => rfl
  have hoff : ∀ u : State, WorksOn u (u.enterOff sen) := fun u => by
    refine WorksOn.trans ?_ (State.retest_grants _).toPicksOnly.works
    exact State.modIntake_works fun _ => rfl
  unfold State.copyCorrection
  dsimp only
  split
  · exact h1
  · split
    · exact (h1.trans (State.declareGap_works _ _ _)).trans (hoff _)
    · exact h1.trans (State.declareGap_works _ _ _)
    · exact h1.trans (hoff _)
    · exact h1.trans (hoff _)
    · exact h1.trans (hoff _)
    · exact h1.trans (State.modIntake_works fun _ => rfl)
    · exact h1

/-! ### Frames -/

theorem State.startStream_works (s : State) (f : Frame) : WorksOn s (s.startStream f) :=
  (State.handOn_works s _ _ _ _).trans (State.modIntake_works fun _ => rfl)

theorem State.fill_works (s : State) (sen : Sensor) (held : SampleSet) (d : Nat) : WorksOn s (s.fill sen held d) := by
  have go : ∀ (l : List Nat) (u : State), WorksOn u (l.foldl
      (fun t i => t.handOn sen held false (s.time.localTime - (d - i) * (s.rate sen).period)) u) := by
    intro l
    induction l with
    | nil => exact WorksOn.refl
    | cons i rest ih => exact fun u => (State.handOn_works u _ _ _ _).trans (ih _)
  exact go _ s

/-- R6 to R8: what a good frame can do in RUNNING. -/
theorem State.goodRunning_works (s : State) (f : Frame) : WorksOn s (s.goodRunning f) := by
  unfold State.goodRunning
  dsimp only
  split
  · exact (State.handOn_works s _ _ _ _).trans (State.modIntake_works fun _ => rfl)
  · split
    · exact (((State.setIntakeFlag_works s _ _).trans (State.fill_works _ _ _ _)).trans
        (State.handOn_works _ _ _ _ _)).trans (State.modIntake_works fun _ => rfl)
    · exact ((State.setIntakeFlag_works s _ _).trans (State.declareGap_works _ _ _)).trans (State.startStream_works _ _)

/-- R9: what a bad frame can do in RUNNING. -/
theorem State.badRunning_works (s : State) (sen : Sensor) : WorksOn s (s.badRunning sen) := by
  have h1 : ∀ f : IntakeRecord → IntakeRecord, (∀ r, (f r).correction.staged = r.correction.staged) →
      WorksOn s ((s.modIntake sen f).setIntakeFlag sen .parity) := fun f hf =>
    (State.modIntake_works hf).trans (State.setIntakeFlag_works _ _ _)
  unfold State.badRunning
  dsimp only
  split
  · refine WorksOn.trans ?_ (State.modIntake_works fun _ => rfl)
    refine WorksOn.trans ?_ (State.handOn_works _ _ _ _ _)
    exact h1 _ fun _ => rfl
  · refine WorksOn.trans ?_ (State.declareGap_works _ _ _)
    exact h1 _ fun _ => rfl

/-- R2, R5 to R10: what a frame can do, once it is a frame. -/
theorem State.handleFrame_works (s : State) (f : Frame) : WorksOn s (s.handleFrame f) := by
  unfold State.handleFrame
  split
  · exact State.modIntake_works fun _ => rfl
  · exact State.startStream_works s f
  · exact State.startStream_works s f
  · exact State.goodRunning_works s f
  · exact State.badRunning_works s _
  · exact State.setIntakeFlag_works s _ _

theorem State.copyAtFrame_works (s : State) (sen : Sensor) : WorksOn s (s.copyAtFrame sen) := by
  unfold State.copyAtFrame
  split
  · exact State.copyCorrection_works s sen
  · exact .refl s

/-- R1: what a frame of 12 bytes can do. -/
theorem State.frame_works {s : State} {bytes : List Byte} {f : Frame} (h : parseFrame bytes = some f) :
    WorksOn s (s.frame bytes) := by
  unfold State.frame
  rw [h]
  exact (State.copyAtFrame_works s _).trans (State.handleFrame_works _ _)

/-- R11: what the end of a sensor's silence can do. -/
theorem State.frameSilence_works (s : State) (sen : Sensor) : WorksOn s (s.frameSilence sen) := by
  unfold State.frameSilence
  split
  · exact State.declareGap_works s _ _
  · exact .refl s

end Sys2Proof.Machine
end

