-- ==== Sys2Proof/Laws/PerInstr.lean ====
section
/-! SUPPORT. The statements made for every row, one lemma for each constructor of `Instr`. -/

namespace Sys2Proof.Laws

/-- A well-formed row that performs a command is the row that performs it (R189, step 3). -/
def PerformedByRow.Statement (i : Instr) : Prop :=
  ∀ (p : Port) (r : Request), i.wf = true → i.performs = some (p, r) → performingRow i.elapsed p r = some i

theorem PerformedByRow.hardwareReset : PerformedByRow.Statement .hardwareReset := by
  intro p r _ h
  cases h

theorem PerformedByRow.sampleLinkFrame (dt : Nat) (bytes : List Byte) :
    PerformedByRow.Statement (.sampleLinkFrame dt bytes) := by
  intro p r _ h
  cases h

theorem PerformedByRow.frameSilenceExpiry (dt : Nat) (sen : Sensor) :
    PerformedByRow.Statement (.frameSilenceExpiry dt sen) := by
  intro p r _ h
  cases h

theorem PerformedByRow.ringReadGrant (dt : Nat) :
    PerformedByRow.Statement (.ringReadGrant dt) := by
  intro p r _ h
  cases h

theorem PerformedByRow.pickWrite (dt : Nat) :
    PerformedByRow.Statement (.pickWrite dt) := by
  intro p r _ h
  cases h

theorem PerformedByRow.startWaitTimeout (dt : Nat) (p : Port) :
    PerformedByRow.Statement (.startWaitTimeout dt p) := by
  intro p r _ h
  cases h

theorem PerformedByRow.dataWaitTimeout (dt : Nat) (p : Port) :
    PerformedByRow.Statement (.dataWaitTimeout dt p) := by
  intro p r _ h
  cases h

theorem PerformedByRow.timeLinkMessage (dt : Nat) (chars : List TimedChar) :
    PerformedByRow.Statement (.timeLinkMessage dt chars) := by
  intro p r _ h
  cases h

theorem PerformedByRow.pendingMessageExpiry (dt : Nat) :
    PerformedByRow.Statement (.pendingMessageExpiry dt) := by
  intro p r _ h
  cases h

theorem PerformedByRow.secondMark (dt : Nat) :
    PerformedByRow.Statement (.secondMark dt) := by
  intro p r _ h
  cases h

theorem PerformedByRow.markLoss (dt : Nat) :
    PerformedByRow.Statement (.markLoss dt) := by
  intro p r _ h
  cases h

theorem PerformedByRow.commandTransaction (dt : Nat) (p : Port) (message : List Byte) :
    PerformedByRow.Statement (.commandTransaction dt p message) := by
  intro p r _ h
  cases h

theorem PerformedByRow.responseTransaction (dt : Nat) (p : Port) (clocked : Nat) :
    PerformedByRow.Statement (.responseTransaction dt p clocked) := by
  intro p r _ h
  cases h

theorem PerformedByRow.silenceTimeout (dt : Nat) (p : Port) :
    PerformedByRow.Statement (.silenceTimeout dt p) := by
  intro p r _ h
  cases h

theorem PerformedByRow.attentionPulseEnd (dt : Nat) (p : Port) :
    PerformedByRow.Statement (.attentionPulseEnd dt p) := by
  intro p r _ h
  cases h

theorem PerformedByRow.attach (dt : Nat) (p : Port) :
    PerformedByRow.Statement (.attach dt p) := by
  intro p r _ h
  injection h with h
  cases h
  rfl

theorem PerformedByRow.detach (dt : Nat) (p : Port) :
    PerformedByRow.Statement (.detach dt p) := by
  intro p r _ h
  injection h with h
  cases h
  rfl

theorem PerformedByRow.status (dt : Nat) (p : Port) :
    PerformedByRow.Statement (.status dt p) := by
  intro p r _ h
  injection h with h
  cases h
  rfl

theorem PerformedByRow.take (dt : Nat) (p : Port) :
    PerformedByRow.Statement (.take dt p) := by
  intro p r _ h
  injection h with h
  cases h
  rfl

theorem PerformedByRow.readPick (dt : Nat) (p : Port) (id : BitVec 16) :
    PerformedByRow.Statement (.readPick dt p id) := by
  intro p r _ h
  injection h with h
  cases h
  rfl

theorem PerformedByRow.readGroup (dt : Nat) (p : Port) (id : BitVec 16) :
    PerformedByRow.Statement (.readGroup dt p id) := by
  intro p r _ h
  injection h with h
  cases h
  rfl

theorem PerformedByRow.retract (dt : Nat) (p : Port) (id : BitVec 16) :
    PerformedByRow.Statement (.retract dt p id) := by
  intro p r _ h
  injection h with h
  cases h
  rfl

theorem PerformedByRow.set (dt : Nat) (p : Port) (index : BitVec 16) (value : BitVec 32) :
    PerformedByRow.Statement (.set dt p index value) := by
  intro p r hw h
  injection h with h
  cases h
  simp only [Instr.wf, plainSetIndex] at hw
  simp only [performingRow, Instr.elapsed]
  split <;> simp_all

theorem PerformedByRow.setQualityThreshold (dt : Nat) (p : Port) (sen : Sensor) (which : Threshold) (value : BitVec 32) :
    PerformedByRow.Statement (.setQualityThreshold dt p sen which value) := by
  intro p r _ h
  injection h with h
  cases h
  cases sen <;> cases which <;> rfl

theorem PerformedByRow.setPageSize (dt : Nat) (p : Port) (value : BitVec 32) :
    PerformedByRow.Statement (.setPageSize dt p value) := by
  intro p r _ h
  injection h with h
  cases h
  rfl

theorem PerformedByRow.setArbiterMode (dt : Nat) (p : Port) (value : BitVec 32) :
    PerformedByRow.Statement (.setArbiterMode dt p value) := by
  intro p r _ h
  injection h with h
  cases h
  rfl

theorem PerformedByRow.setAgingLimit (dt : Nat) (p : Port) (value : BitVec 32) :
    PerformedByRow.Statement (.setAgingLimit dt p value) := by
  intro p r _ h
  injection h with h
  cases h
  rfl

theorem PerformedByRow.setRingReadPolicy (dt : Nat) (p : Port) (value : BitVec 32) :
    PerformedByRow.Statement (.setRingReadPolicy dt p value) := by
  intro p r _ h
  injection h with h
  cases h
  rfl

theorem PerformedByRow.setIntakeAutoClear (dt : Nat) (p : Port) (value : BitVec 32) :
    PerformedByRow.Statement (.setIntakeAutoClear dt p value) := by
  intro p r _ h
  injection h with h
  cases h
  rfl

theorem PerformedByRow.setMask (dt : Nat) (p : Port) (value : BitVec 32) :
    PerformedByRow.Statement (.setMask dt p value) := by
  intro p r _ h
  injection h with h
  cases h
  rfl

theorem PerformedByRow.setLineMode (dt : Nat) (p : Port) (value : BitVec 32) :
    PerformedByRow.Statement (.setLineMode dt p value) := by
  intro p r _ h
  injection h with h
  cases h
  rfl

theorem PerformedByRow.setClearMode (dt : Nat) (p : Port) (value : BitVec 32) :
    PerformedByRow.Statement (.setClearMode dt p value) := by
  intro p r _ h
  injection h with h
  cases h
  rfl

theorem PerformedByRow.setSilenceTimeout (dt : Nat) (p : Port) (value : BitVec 32) :
    PerformedByRow.Statement (.setSilenceTimeout dt p value) := by
  intro p r _ h
  injection h with h
  cases h
  rfl

theorem PerformedByRow.setOfferMode (dt : Nat) (p : Port) (value : BitVec 32) :
    PerformedByRow.Statement (.setOfferMode dt p value) := by
  intro p r _ h
  injection h with h
  cases h
  rfl

theorem PerformedByRow.get (dt : Nat) (p : Port) (index : BitVec 16) :
    PerformedByRow.Statement (.get dt p index) := by
  intro p r hw h
  injection h with h
  cases h
  simp only [Instr.wf, plainGetIndex] at hw
  simp only [performingRow, Instr.elapsed]
  split <;> simp_all

theorem PerformedByRow.getIntakeStatus (dt : Nat) (p : Port) (sen : Sensor) :
    PerformedByRow.Statement (.getIntakeStatus dt p sen) := by
  intro p r _ h
  injection h with h
  cases h
  cases sen <;> rfl

theorem PerformedByRow.applyCorrection (dt : Nat) (p : Port) (sen : Sensor) :
    PerformedByRow.Statement (.applyCorrection dt p sen) := by
  intro p r _ h
  injection h with h
  cases h
  cases sen <;> rfl

theorem PerformedByRow.applyDetector (dt : Nat) (p : Port) (sen : Sensor) :
    PerformedByRow.Statement (.applyDetector dt p sen) := by
  intro p r _ h
  injection h with h
  cases h
  cases sen <;> rfl

theorem PerformedByRow.applyRefinement (dt : Nat) (p : Port) (sen : Sensor) :
    PerformedByRow.Statement (.applyRefinement dt p sen) := by
  intro p r _ h
  injection h with h
  cases h
  cases sen <;> rfl

theorem PerformedByRow.applyGrouping (dt : Nat) (p : Port) :
    PerformedByRow.Statement (.applyGrouping dt p) := by
  intro p r _ h
  injection h with h
  cases h
  rfl

theorem PerformedByRow.applyPresets (dt : Nat) (p : Port) :
    PerformedByRow.Statement (.applyPresets dt p) := by
  intro p r _ h
  injection h with h
  cases h
  rfl

theorem PerformedByRow.freeze (dt : Nat) (p : Port) :
    PerformedByRow.Statement (.freeze dt p) := by
  intro p r _ h
  injection h with h
  cases h
  rfl

theorem PerformedByRow.loadChain (dt : Nat) (p : Port) (count : Byte) (elements : List ElementWords) :
    PerformedByRow.Statement (.loadChain dt p count elements) := by
  intro p r _ h
  injection h with h
  cases h
  rfl

theorem PerformedByRow.startChain (dt : Nat) (p : Port) :
    PerformedByRow.Statement (.startChain dt p) := by
  intro p r _ h
  injection h with h
  cases h
  rfl

theorem PerformedByRow.pauseChain (dt : Nat) (p : Port) :
    PerformedByRow.Statement (.pauseChain dt p) := by
  intro p r _ h
  injection h with h
  cases h
  rfl

theorem PerformedByRow.resetChain (dt : Nat) (p : Port) :
    PerformedByRow.Statement (.resetChain dt p) := by
  intro p r _ h
  injection h with h
  cases h
  rfl

theorem PerformedByRow.readExcerpt (dt : Nat) (p : Port) (maximum : Byte) :
    PerformedByRow.Statement (.readExcerpt dt p maximum) := by
  intro p r _ h
  injection h with h
  cases h
  rfl

theorem PerformedByRow.attnDone (dt : Nat) (p : Port) (classes : BitVec 16) :
    PerformedByRow.Statement (.attnDone dt p classes) := by
  intro p r _ h
  injection h with h
  cases h
  rfl

theorem PerformedByRow.softReset (dt : Nat) (p : Port) :
    PerformedByRow.Statement (.softReset dt p) := by
  intro p r _ h
  injection h with h
  cases h
  rfl

theorem PerformedByRow.ignoredTransaction (dt : Nat) (p : Port) (bytes : List Byte) :
    PerformedByRow.Statement (.ignoredTransaction dt p bytes) := by
  intro p r _ h
  cases h

end Sys2Proof.Laws
end

