-- ==== Sys2Proof/Laws/Timebase.lean ====
section
/-! SUPPORT. What the Time Link's operations can do (R22, R27), said once. -/

namespace Sys2Proof.Machine

/-- What the characters and the messages of the Time Link change: the line, the pending message and the bad-message
count, and at most once the Timebase loses its time. -/
structure TimeOnly (s t : State) : Prop where
  rest : t = { s with time := t.time, attention := t.attention }
  localTime : t.time.localTime = s.time.localTime
  anchor : t.time.anchor = s.time.anchor
  lastValidMark : t.time.lastValidMark = s.time.lastValidMark
  missedMarks : t.time.missedMarks = s.time.missedMarks
  stepSize : t.time.stepSize = s.time.stepSize
  badMessages : s.time.badMessages ≤ 65535 → t.time.badMessages ≤ 65535
  lost : (t.time.state = s.time.state ∧ t.time.lastFault = s.time.lastFault ∧ t.attention = s.attention)
    ∨ (s.time.state = .locked ∧ t.time.state = .holdover ∧ t.time.lastFault = .lost
      ∧ t.attention = s.attention.map (AttnRecord.becomePending s.time.localTime .timeFault))

theorem TimeOnly.refl (s : State) : TimeOnly s s := ⟨rfl, rfl, rfl, rfl, rfl, rfl, id, .inl ⟨rfl, rfl, rfl⟩⟩

theorem TimeOnly.trans {s t u : State} (h : TimeOnly s t) (k : TimeOnly t u) : TimeOnly s u where
  rest := by
    rw [k.rest, h.rest]
  localTime := k.localTime.trans h.localTime
  anchor := k.anchor.trans h.anchor
  lastValidMark := k.lastValidMark.trans h.lastValidMark
  missedMarks := k.missedMarks.trans h.missedMarks
  stepSize := k.stepSize.trans h.stepSize
  badMessages := k.badMessages ∘ h.badMessages
  lost := by
    rcases h.lost with ⟨h1, h2, h3⟩ | ⟨h1, h2, h3, h4⟩ <;> rcases k.lost with ⟨k1, k2, k3⟩ | ⟨k1, k2, k3, k4⟩
    · exact .inl ⟨k1.trans h1, k2.trans h2, k3.trans h3⟩
    · exact .inr ⟨h1 ▸ k1, k2, k3, by rw [k4, h3, h.localTime]⟩
    · exact .inr ⟨h1, k1.trans h2, k2.trans h3, k3.trans h4⟩
    · rw [h2] at k1; cases k1

/-- A change of the line alone. -/
theorem State.line_times (s : State) (line : Option (List LineChar)) (since : Nat) :
    TimeOnly s { s with time := { s.time with line := line, idleSince := since } } :=
  ⟨rfl, rfl, rfl, rfl, rfl, rfl, id, .inl ⟨rfl, rfl, rfl⟩⟩

theorem State.timeMessage_times (s : State) (chars : List LineChar) (arrival : Nat) :
    TimeOnly s (s.timeMessage chars arrival) := by
  unfold State.timeMessage
  split
  · exact ⟨rfl, rfl, rfl, rfl, rfl, rfl, fun _ => Nat.min_le_right _ _, .inl ⟨rfl, rfl, rfl⟩⟩
  · dsimp only
    split
    · next h => exact ⟨rfl, rfl, rfl, rfl, rfl, rfl, id, .inr ⟨h.2, rfl, rfl, rfl⟩⟩
    · exact ⟨rfl, rfl, rfl, rfl, rfl, rfl, id, .inl ⟨rfl, rfl, rfl⟩⟩

theorem State.endMessage_times (s : State) : TimeOnly s s.endMessage := by
  unfold State.endMessage
  split
  · exact .refl s
  · exact (State.line_times s none s.time.idleSince).trans (State.timeMessage_times _ _ _)

theorem State.lineChar_times (s : State) (c : TimedChar) : TimeOnly s (s.lineChar c) := by
  unfold State.lineChar
  dsimp only
  split
  · exact (State.endMessage_times s).trans (State.line_times s.endMessage _ _)
  · exact State.line_times s _ _

theorem State.lineChars_times (s : State) (chars : List TimedChar) : TimeOnly s (chars.foldl State.lineChar s) := by
  induction chars generalizing s with
  | nil => exact .refl s
  | cons c rest ih => exact (State.lineChar_times s c).trans (ih _)

/-- What a row TIME_LINK_MESSAGE changes beside local time. -/
theorem State.timeLink_times (s : State) (chars : List TimedChar) : TimeOnly s (s.timeLink chars) := by
  unfold State.timeLink
  dsimp only
  split
  · exact (State.lineChars_times s chars).trans (State.endMessage_times _)
  · exact State.lineChars_times s chars

end Sys2Proof.Machine
end

