-- ==== Sys2Proof/Tests/Slice0.lean ====
section
/-! SUPPORT. Tests: ill-formed rows that the check refuses, and steps whose results the manual's worked examples or its
rules give; and for each statement with hypotheses a witness that meets them. -/

namespace Sys2Proof.Tests

open Sys2Proof.Machine

/-! ### States to start from -/

/-- The state that a step leaves. -/
def after (i : Instr) (s : State) : State :=
  match exec i s with
  | .next t => t
  | _ => s

/-- The state after several steps. -/
def afterAll (l : List Instr) (s : State) : State := l.foldl (fun t i => after i t) s

/-- The response that a slot holds. -/
def answer (p : Port) (s : State) : Option (Result × List Byte) :=
  match (s.ports.get p).slot with
  | .done r => some (r.result, r.data)
  | _ => none

/-- Both ports ATTACHED in ALL mode, all else as after reset. -/
def attachedBoth : State :=
  { State.reset with offers := .all { OfferRecord.reset with mode := some .all } }

/-- A command in port A's slot. -/
def busy (r : Request) (s : State) : State :=
  { s with ports := s.ports.set .a { PortRecord.reset with slot := .busy r } }

/-- An intake record with an active and staged rate of 100 sets per second. -/
def record100 (state : IntakeState) : IntakeRecord :=
  { IntakeRecord.reset with state := state, correction := .both { CorrectionGroup.default with rate := .r100 } }

/-- Sensor 2 of 1.8 before its sequence of events. -/
def broken : State :=
  { State.reset with
    autoClear := true
    intake := State.reset.intake.set .s2 { record100 .running with
      expected := some 40#8, consecutiveGood := 10, silenceTimer := some 0 } }

/-- A frame of sensor 2 with a sequence number and no signal; `flip` spoils its check byte. -/
def frame2 (sequence : Byte) (flip : Byte) : List Byte :=
  [0x02#8, sequence, 0#8, 0#8, 0#8, 0#8, 0#8, 0#8, 0#8, 0#8, 0#8, 0x02#8 ^^^ sequence ^^^ flip]

/-- The intake fields of 1.8's table: expected, bad, good, flags and state. -/
def shown (s : State) : Option (BitVec 8) × Nat × Nat × IntakeFlags × IntakeState :=
  let r := s.intake.get .s2
  (r.expected, r.consecutiveBad, r.consecutiveGood, r.flags, r.state)

/-- A provisional pick of sensor 0's P-channel. -/
def pick (id : Nat) : PickRecord :=
  { id := id, sensor := .s0, channel := .p, phase := .p, state := .provisional, retractedBy := none, trigger := 1000
    onset := 990, onsetLocal := some 9900000, onsetAbs := none, quality := .none, qualityClass := 1, sharpness := 3000
    vertical := 200, polarity := some .up, sector := some 15, amplitude := 9800, peak := 1800, ending := none
    flags := .empty, grouping := .single, delivery := .all .none }

/-- One waiting pick at both ports, with its notices. -/
def offered : State :=
  { attachedBoth with
    table := { records := [{ pick 7 with delivery := .all .waiting }], nextId := 8 }
    offers := .all { OfferRecord.reset with mode := some .all, notices := [.pickNew 7] }
    attention := .all { AttnRecord.reset with pending := 1#10 } }

/-- An element that reads 200 sets of sensor 0 from sample number 0. -/
def element : Element :=
  { kind := .bySample .s0 0 200 ⟨true, false, false⟩, goOn := false, pauseAfter := false, notify := true }

/-- Sensor 0's ring with samples 0 to 299, of which only 0 and 299 are stored. -/
def ringed : State :=
  { attachedBoth with
    ring := State.reset.ring.set .s0 { RingRecord.reset with
      slots := [(0, ⟨1, 2, 3, false, false, false⟩), (299, ⟨4, 5, 6, false, false, false⟩)]
      newest := some 299, oldest := some 0, newestLocal := some 2990000, page := some .opened, setsInPage := some 44 } }

/-- Port A's chain over that ring, in a state. -/
def chained (state : ChainState) : State :=
  { ringed with chains := State.reset.chains.set .a { Chain.reset with state := state, elements := [element] } }

/-- Port A's chain RUNNING at its first set. -/
def running : State :=
  { ringed with chains := State.reset.chains.set .a { Chain.reset with
      state := .running, elements := [element], current := some 0
      plan := some { sensor := .s0, length := 200, mask := ⟨true, false, false⟩ }
      run := some { first := 0, note := .none, next := 0, progress := 0, level := some .none } } }

/-! ### Ill-formed rows -/

theorem test_refuses_characters_out_of_order :
    (Instr.timeLinkMessage 0 [⟨2000, 1000, ⟨0xD4#8, false⟩⟩, ⟨1001, 0, ⟨0#8, false⟩⟩]).wf = false := by decide
theorem test_refuses_ignored_command : (Instr.ignoredTransaction 0 .a [0xA1#8, 0x03#8, 0#8]).wf = false := by decide
theorem test_refuses_ignored_response : (Instr.ignoredTransaction 0 .a [0xA2#8]).wf = false := by decide
theorem test_refuses_set_of_mask : (Instr.set 0 .a 0x6000#16 0#32).wf = false := by decide
theorem test_refuses_set_of_threshold : (Instr.set 0 .a 0x3103#16 0#32).wf = false := by decide
theorem test_refuses_get_of_intake_status : (Instr.get 0 .b 0x7200#16).wf = false := by decide
theorem test_refuses_chain_of_wrong_count : (Instr.loadChain 0 .a 1#8 []).wf = false := by decide
theorem test_refuses_chain_of_sixteen :
    (Instr.loadChain 0 .a 16#8 (List.replicate 16 ⟨0#8, 0#8, 0#64, 1#16, 7#8, 0#8⟩)).wf = false := by decide
theorem test_refuses_request_of_wrong_count : (Request.loadChain 2#8 []).wf = false := by decide

/-! ### Resets and the queue -/

theorem test_step_takes_front : step { State.reset with pending := [.markLoss 5, .secondMark 2] }
    = .next { State.reset with pending := [.secondMark 2], time := { Timebase.reset with localTime := 5 } } := rfl
theorem test_hardware_reset : after .hardwareReset broken = State.reset := by decide
theorem test_soft_reset_keeps_rate :
    ((after (.softReset 0 .a) (busy .softReset broken)).intake.get .s2).state = .starting := by decide

/-! ### Timebase: the events of 2.6, with seconds counted from 1,700,000,000 -/

/-- Characters of 1,000 µs each without a framing error, one after another, the last of which ended `idle` µs ago. -/
def sent (idle : Nat) : List Byte → List TimedChar
  | [] => []
  | b :: rest => ⟨idle + 1000 * (rest.length + 1), idle + 1000 * rest.length, ⟨b, false⟩⟩ :: sent idle rest

/-- The bytes of a message that names 1,700,000,000 s (0x6553F100) + `n`, with its flag set. -/
def messageBytes (n : Byte) (flip : Byte) : List Byte :=
  [0xD4#8, 0x65#8, 0x53#8, 0xF1#8, n, 1#8, 0xD4#8 ^^^ 0x65#8 ^^^ 0x53#8 ^^^ 0xF1#8 ^^^ n ^^^ 1#8 ^^^ flip]

/-- That message as it arrives: the line has just been idle for 5,000 µs. -/
def message (n : Byte) (flip : Byte) : List TimedChar := sent 5000 (messageBytes n flip)

/-- The Timebase of 2.6 after its second mark. -/
def locked26 : State :=
  { State.reset with time := { Timebase.reset with
      state := .locked, localTime := 2000300, lastValidMark := some 2000300
      anchor := some { localTime := 2000300, absTime := { seconds := 1700000001, micros := 0 } } } }

theorem test_time_message : ((after (.timeLinkMessage 400000 (message 0#8 0#8)) State.reset).time.pendingMessage)
    = some { seconds := 1700000000, locked := true, arrival := 400000 } := by decide
theorem test_bad_time_message :
    (after (.timeLinkMessage 599700 (message 2#8 8#8)) locked26).time.badMessages = 1 := by decide
theorem test_message_waits_for_idle_time :
    ((after (.timeLinkMessage 400000 (sent 4999 (messageBytes 0#8 0#8))) State.reset).time.pendingMessage,
      (afterAll [.timeLinkMessage 400000 (sent 4999 (messageBytes 0#8 0#8)), .timeLinkMessage 1 []]
        State.reset).time.pendingMessage)
      = (none, some { seconds := 1700000000, locked := true, arrival := 400001 }) := by decide
theorem test_idle_time_divides_messages :
    let t := (after (.timeLinkMessage 400000 (sent 17000 (messageBytes 0#8 8#8) ++ message 1#8 0#8)) State.reset).time
    (t.badMessages, t.pendingMessage) = (1, some { seconds := 1700000001, locked := true, arrival := 400000 }) := by
  decide
theorem test_second_mark_locks :
    ((afterAll [.timeLinkMessage 400000 (message 0#8 0#8), .secondMark 600000] State.reset).time.anchor)
      = some { localTime := 1000000, absTime := { seconds := 1700000000, micros := 0 } } := by decide
theorem test_second_mark_steps :
    let t := (afterAll [.timeLinkMessage 2699700 (message 4#8 0#8), .secondMark 301500] locked26).time
    (t.lastFault, t.stepSize) = (.step, 1200) := by decide
theorem test_mark_loss : (after (.markLoss 2500000) locked26).time.state = .holdover := by decide
theorem test_message_expiry :
    (afterAll [.timeLinkMessage 1599700 (message 3#8 0#8), .pendingMessageExpiry 1000000] locked26).time.pendingMessage
      = none := by decide

/-! ### Sample Intake: 1.7 and 1.8 -/

/-- Sensor 1 of 1.7, whose settings are active. -/
def correcting : State :=
  { State.reset with intake := State.reset.intake.set .s1 { record100 .starting with
      correction := .both { CorrectionGroup.default with
        rate := .r100, offsetZ := 2000, gainZ := 16800, cosine := 14189, sine := 8192 } } }

theorem test_frame_is_corrected :
    ((after (.sampleLinkFrame 1 [0x01#8, 0x00#8, 0x0F#8, 0x42#8, 0x40#8, 0x01#8, 0x86#8, 0xA0#8, 0xFF#8, 0x3C#8, 0xB0#8,
      0x58#8]) correcting).intake.get .s1).lastGood = some ⟨1023340, 111603, 6699, false, false, false⟩ := by decide
theorem test_negative_tie_rounds_away : gained (-3) 0 8192 = -2 := by decide
theorem test_broken_stream : shown (afterAll
    [.sampleLinkFrame 0 (frame2 40#8 0#8), .sampleLinkFrame 10000 (frame2 41#8 1#8),
    .sampleLinkFrame 10000 (frame2 42#8 0#8), .sampleLinkFrame 30000 (frame2 45#8 0#8)] broken)
      = (some 46#8, 0, 0, ⟨true, true, false⟩, .running) := by decide +kernel
theorem test_silence_declares_gap : shown (after (.frameSilenceExpiry 40000 .s2) broken)
    = (none, 0, 0, ⟨false, false, true⟩, .gap) := by decide

/-! ### Ring: the map's check bits, and the translation of 3.4 -/

/-- An entry of 3.4's table. -/
def entry34 (start localStart fill : Nat) : MapEntry :=
  MapEntry.withCheck
    { startSample := BitVec.ofNat 48 start, localStart := BitVec.ofNat 64 localStart, absSeconds := 0#32
      absMicros := 0#20, quality := 2#2, fill := BitVec.ofNat 10 fill, period := 10000#15, check := 0#9 }

/-- The ring of 3.4, with the one stored set that its answers ask for besides the map. -/
def ring34 : State :=
  { State.reset with
    intake := State.reset.intake.set .s2 (record100 .running)
    ring := State.reset.ring.set .s2 { RingRecord.reset with
      slots := [(255, ⟨0, 0, 0, false, false, false⟩)], newest := some 521, oldest := some 0
      pageMap := [(0, entry34 0 10000000 256), (1, entry34 256 12560040 44), (2, entry34 512 15000000 10)] } }

theorem test_translations : [15095000, 15040000, 13500000, 12995000, 12700000, 12560020, 9000000].map
    (fun t => (ring34.translate .s2 (.localTime t)).2)
      = [none, some (516, .none), some (512, .gapSkipped), some (512, .gapSkipped), some (270, .none),
        some (256, .none), some (0, .clippedStart)] := by decide
theorem test_retired_page_gives_no_time :
    let s := { State.reset with ring := State.reset.ring.set .s0 { RingRecord.reset with
      slots := [(0, ⟨0, 0, 0, false, false, false⟩)], newest := some 32768, oldest := some 256
      pageMap := [(0, entry34 32768 327680000 1)] } }
    ((s.timeOf .s0 0).2, (s.timeOf .s0 32768).2.localTime) = (⟨none, none, .none⟩, some 327680000) := by decide
theorem test_one_bit_is_repaired :
    mapTest { entry34 256 12560040 44 with fill := 45#10 } = .corrected (entry34 256 12560040 44) := by decide
theorem test_two_bits_are_reported : mapTest { entry34 256 12560040 44 with fill := 47#10 } = .faulty := by decide

/-! ### Detector and refiner: 4.2, 4.3, 5.3 and 5.6 -/

theorem test_energies : (energyOf .p (1000, 0, 0), energyOf .s (0, -700, 300)) = (976, 283) := by decide
theorem test_averaging_step : (average 3 1000 9000, average 7 800 9000, ratioOf 2000 864 1000, ratioOf 2000 864 500)
    = (2000, 864, 512, 592) := by decide
theorem test_onset_and_sharpness :
    let e := [2, 3, 1, 2, 40, 55, 60, 48]
    (onsetPosition e, sharpnessOf e 4, qualityOf .default false 6496) = (4, 6496, 1) := by decide
theorem test_sector : sectorOf (-120000) 300000 = 15 := by decide

/-- A READY request with a trigger and a pass-over count. -/
def ready (trigger passOver : Nat) : RefineRequest :=
  { channel := .p, trigger := trigger, triggerLocal := 10 * trigger, period := 10000, state := .ready, cut := none
    info := none, flags := .empty, passOver := passOver }

/-- 5.3's third decision: P0c of sensor 0 against S3a of sensor 3, which has been passed over twice. -/
def aged : State :=
  { ringed with refiner := { Refiner.reset with
      mode := .fixed, aging := 2, queues := ⟨[ready 100 0], [], [], [ready 100 2]⟩ } }

theorem test_promoted_head_is_granted :
    let t := aged.grantDecision decisionFuel
    ((t.refiner.work.map (·.sensor)), (t.refiner.queues.get .s0).map (·.passOver)) = (some .s3, [1]) := by decide

/-- A refinement of sensor 0 that has been read: one window of two sets at the trigger 299. -/
def refined : State :=
  { ringed with
    refiner := { Refiner.reset with
      queues := ⟨[{ ready 299 0 with state := .inProgress }], [], [], []⟩
      work := some { sensor := .s0, group := .default, windowStart := 298, windowEnd := 299, readEnd := 299
                     next := 300
                     read := [(298, some ⟨0, 0, 0, false, false, false⟩),
                       (299, some ⟨4, 5, 6, false, false, false⟩)] } } }

theorem test_pick_write :
    (after (.pickWrite 3) refined).table.records.map (fun r => (r.id, r.onset, r.state, r.delivery))
    = [(1, 298, .provisional, .all .waiting)] := by decide

/-! ### Excerpt chains and grants -/

theorem test_grant_reads_a_block :
    let c := (after (.ringReadGrant 1) running).chain .a
    (c.buffer.length, c.run.map (·.next), c.buffer.head?.map (·.content))
      = (128, some 128, some (some ⟨1, 2, 3, false, false, false⟩)) := by decide +kernel
theorem test_load_chain : ((after (.loadChain 0 .a 1#8 [⟨0#8, 0#8, 0#64, 200#16, 1#8, 4#8⟩])
    (busy (.loadChain 1#8 [⟨0#8, 0#8, 0#64, 200#16, 1#8, 4#8⟩]) ringed)).chain .a)
      = (chained .loaded).chain .a := by decide +kernel
theorem test_start_chain : ((after (.startChain 0 .a) (busy .startChain (chained .loaded))).chain .a)
    = running.chain .a := by decide +kernel
theorem test_pause_chain : ((after (.pauseChain 0 .a) (busy .pauseChain running)).chain .a).pausePoint
    = some .inElement := by decide
theorem test_reset_chain : ((after (.resetChain 0 .a) (busy .resetChain running)).chain .a) = Chain.reset := by decide

/-- Port A's chain waits for data since local time 0. -/
def waiting (kind : WaitKind) : State :=
  { running with chains := running.chains.set .a { running.chain .a with state := .waiting, wait := some (kind, 0) } }

theorem test_start_wait_ends : ((after (.startWaitTimeout 60000000 .a) (waiting .start)).chain .a).lastStatus
    = .timeout := by decide
theorem test_data_wait_stays : ((after (.dataWaitTimeout 59999999 .a) (waiting .data)).chain .a).state
    = .waiting := by decide
theorem test_read_excerpt : answer .a (after (.readExcerpt 0 .a 1#8) (busy (.readExcerpt 1#8)
    { running with chains := running.chains.set .a { running.chain .a with buffer :=
      [{ element := 0, sensor := .s0, sample := 0, mask := ⟨true, false, false⟩
         content := some ⟨-2, 2, 3, true, false, false⟩, page := none, firstNote := .clippedStart
         lastOfElement := false }] } }))
      = some (.ok, [0#8, 0#8, 1#8, 1#8, 0#8, 2#8] ++ List.replicate 22 0#8
          ++ [1#8, 1#8, 0xFF#8, 0xFF#8, 0xFE#8, 0#8, 0#8, 2#8, 0#8, 0#8]) := by decide

/-! ### Ports and attention: 10.4's example begins so -/

theorem test_command_fills_slot :
    ((after (.commandTransaction 0 .b [0x08#8, 6#8, 0x20#8, 0x02#8, 0#8, 0#8, 7#8, 0xD0#8])
    attachedBoth).ports.get .b).slot = .busy (.set 0x2002#16 2000#32) := by decide
theorem test_start_with_arguments_carries_chain_state :
    ((after (.commandTransaction 0 .a [0x0D#8, 1#8, 0#8]) running).ports.get .a).slot
      = .done { code := 0x0D#8, result := .badArg, data := [2#8] } := by decide
theorem test_second_command_is_rejected : ((after (.commandTransaction 0 .a [0x0A#8, 1#8, 0x20#8])
    (busy .take attachedBoth)).ports.get .a).reject = true := by decide
theorem test_response_is_collected :
    let s := after (.take 0 .a) (busy .take attachedBoth)
    let t := after (.responseTransaction 0 .a 5) s
    ((t.ports.get .a).slot, (t.ports.get .a).sent) = (.idle, [0x12#8, 0x04#8, 7#8, 0#8, 1#8, 0#8]) := by decide
theorem test_ignored_transaction : ((after (.ignoredTransaction 9 .a [0x55#8]) attachedBoth).ports.get .a).sent
    = [0x10#8] := by decide
theorem test_silence_detaches :
    let s := { attachedBoth with ports := attachedBoth.ports.set .a { PortRecord.reset with timer := some 0 } }
    ((after (.silenceTimeout 29999999 .a) s).attached .a, (after (.silenceTimeout 30000000 .a) s).attached .a)
      = (true, false) := by decide
theorem test_pulse_ends :
    let s := { attachedBoth with attention := .all { AttnRecord.reset with lineMode := .pulse, pulse := some 0 } }
    ((after (.attentionPulseEnd 19 .a) s).attentionLine .a, (after (.attentionPulseEnd 20 .a) s).attentionLine .a)
      = (true, false) := by decide
theorem test_status : answer .a (after (.status 0 .a) (busy .status offered))
    = some (.ok, [0#8, 1#8, 3#8, 0xFF#8, 0#8, 0#8, 0#8, 1#8, 1#8, 0#8, 0#8, 0#8]) := by decide
theorem test_attn_done : answer .a (after (.attnDone 0 .a 0x0103#16) (busy (.attnDone 0x0103#16)
    { offered with attention := .all { AttnRecord.reset with pending := 0x103#10 } }))
      = some (.ok, [0#8, 1#8]) := by decide

/-! ### Catalogue -/

theorem test_attach_catches_up : answer .a (after (.attach 0 .a) (busy .attach
    { offered with offers := .all .reset })) = some (.ok, [1#8]) := by decide
theorem test_detach : (after (.detach 0 .a) (busy .detach offered)).notices .a = [] := by decide
theorem test_take : (after (.take 0 .a) (busy .take offered)).table.records.map (·.delivery)
    = [⟨.takenProvisional, .waiting⟩] := by decide
theorem test_take_of_nothing :
    answer .a (after (.take 0 .a) (busy .take attachedBoth)) = some (.empty, [0#8]) := by decide
theorem test_read_pick : ((answer .a (after (.readPick 0 .a 7#16) (busy (.readPick 7#16) offered))).map
    fun x => (x.1, x.2.length, x.2.take 8)) = some (.ok, 66, [0#8, 7#8, 0#8, 0#8, 0#8, 0#8, 0#8, 0x1A#8]) := by decide
theorem test_read_group : answer .a (after (.readGroup 0 .a 1#16) (busy (.readGroup 1#16) offered))
    = some (.noSuchGroup, []) := by decide
theorem test_retract_frees : (after (.retract 0 .a 7#16) (busy (.retract 7#16) offered)).table.records = [] := by decide

/-! ### Settings -/

theorem test_set_clamps : answer .a (after (.set 0 .a 0x2002#16 100#32) (busy (.set 0x2002#16 100#32) attachedBoth))
    = some (.ok, [0x20#8, 2#8, 0#8, 0#8, 1#8, 0#8]) := by decide
theorem test_set_offset : answer .a (after (.set 0 .a 0x1001#16 0x80000000#32)
    (busy (.set 0x1001#16 0x80000000#32) attachedBoth))
      = some (.ok, [0x10#8, 1#8, 0xFF#8, 0xF0#8, 0#8, 0#8]) := by decide
theorem test_set_quality_threshold : answer .a (after (.setQualityThreshold 0 .a .s1 .q1 9000#32)
    (busy (.set 0x3104#16 9000#32) attachedBoth)) = some (.ok, [0x31#8, 4#8, 0#8, 0#8, 0x1F#8, 0xFF#8]) := by decide
theorem test_set_page_size : (after (.setPageSize 0 .a 200#32) (busy (.set 0x5000#16 200#32) attachedBoth)).pageSize
    = ⟨.p256, .p256⟩ := by decide
theorem test_set_arbiter_mode : (after (.setArbiterMode 0 .a 1#32)
    (busy (.set 0x5001#16 1#32) attachedBoth)).refiner.mode = .fixed := by decide
theorem test_set_aging_limit : (after (.setAgingLimit 0 .a 99#32)
    (busy (.set 0x5002#16 99#32) attachedBoth)).refiner.aging = 15 := by decide
theorem test_set_ring_read_policy : (after (.setRingReadPolicy 0 .a 1#32)
    (busy (.set 0x5003#16 1#32) attachedBoth)).arbiter.policy = .equal := by decide
theorem test_set_intake_auto_clear : (after (.setIntakeAutoClear 0 .a 1#32)
    (busy (.set 0x5004#16 1#32) attachedBoth)).autoClear = true := by decide
theorem test_set_mask_pulses :
    let s := { attachedBoth with attention := .all { AttnRecord.reset with pending := 1#10, lineMode := .pulse } }
    ((after (.setMask 5 .a 0x3FE#32) (busy (.set 0x6000#16 0x3FE#32) s)).attention.get .a).pulse = some 5 := by decide
theorem test_set_line_mode : ((after (.setLineMode 0 .a 1#32)
    (busy (.set 0x6001#16 1#32) attachedBoth)).attention.get .a).lineMode = .pulse := by decide
theorem test_set_clear_mode : answer .a (after (.setClearMode 0 .a 2#32)
    (busy (.set 0x6002#16 2#32) attachedBoth)) = some (.badArg, []) := by decide
theorem test_set_silence_timeout : ((after (.setSilenceTimeout 8 .a 300#32)
    (busy (.set 0x6003#16 300#32) attachedBoth)).ports.get .a).timeout = 255 := by decide
theorem test_set_offer_mode :
    let o := (after (.setOfferMode 0 .a 1#32) (busy (.set 0x6004#16 1#32) attachedBoth)).offers.get .a
    (o.setting, o.mode) = (.grouped, some .all) := by decide
theorem test_get : answer .a (after (.get 0 .a 0x2002#16) (busy (.get 0x2002#16) attachedBoth))
    = some (.ok, [0x20#8, 2#8, 4#8, 0#8, 4#8, 0#8]) := by decide
theorem test_get_intake_status :
    let r := { IntakeRecord.reset with flags := ⟨true, false, true⟩, offFrames := 258 }
    let s := { attachedBoth with intake := .all r }
    let t := after (.getIntakeStatus 0 .a .s3) (busy (.get 0x7300#16) s)
    (answer .a t, (t.intake.get .s3).flags)
      = (some (.ok, [0x73#8, 0#8, 0#8, 5#8, 1#8, 2#8, 0#8, 0#8, 0#8]), ⟨false, false, false⟩) := by decide
theorem test_apply_correction_waits : answer .a (after (.applyCorrection 0 .a .s2) (busy (.apply 0x12#8)
    { broken with offers := attachedBoth.offers })) = some (.ok, [1#8]) := by decide
theorem test_apply_detector_resolves :
    let s := { attachedBoth with detector := .all { DetectorRecord.reset with group :=
      { DetectorRecord.reset.group with staged := { DetectorGroup.default with
        p := { DetectorGroup.default.p with staShift := 8, ltaShift := 3 } } } } }
    ((after (.applyDetector 0 .a .s0) (busy (.apply 0x20#8) s)).detector.get .s0).group.active.p.ltaShift
      = 10 := by decide
theorem test_apply_refinement : answer .a (after (.applyRefinement 0 .a .s0) (busy (.apply 0x30#8) attachedBoth))
    = some (.ok, [0#8]) := by decide
theorem test_apply_grouping : answer .a (after (.applyGrouping 0 .a) (busy (.apply 0x40#8)
    { attachedBoth with frozen := true })) = some (.frozen, []) := by decide
theorem test_apply_presets :
    let s := { attachedBoth with presets := { Staged.both PresetGroup.default with
      staged := { PresetGroup.default with p2 := ⟨10000, 4096, ⟨true, false, false⟩⟩ } } }
    (after (.applyPresets 0 .a) (busy (.apply 0x48#8) s)).presets.active.p2.length = 4096 := by decide
theorem test_freeze : (after (.freeze 0 .a) (busy .freeze attachedBoth)).frozen = true := by decide

/-! ### Witnesses: the hypotheses of each statement, met by a concrete state, at the boundaries of its clauses -/

theorem witness_StepRunsFrontCommand : State.reset.pending = [] := rfl

theorem witness_TimeRunsOnThroughEveryRow :
    Instr.markLoss 5 ≠ .hardwareReset ∧ locked26.time.state ≠ .noTime := by decide

/-- The gaps between the characters that `sent` gives. -/
theorem sent_gaps (idle : Nat) (l : List Byte) (i : Nat) (c e : TimedChar) (hc : (sent idle l)[i]? = some c)
    (he : (sent idle l)[i + 1]? = some e) : c.ended < e.began + 5000 := by
  induction l generalizing i with
  | nil => cases hc
  | cons b rest ih =>
    cases i with
    | zero =>
      cases rest with
      | nil => cases he
      | cons b' rest' =>
        cases hc
        cases he
        exact Nat.lt_add_of_pos_right (by decide)
    | succ i => exact ih i hc he

/-- A message from reset on that has just been followed by 5,000 µs of idle time; one that goes on with a message under
way, 4,999 µs after its character; and characters on a line that has not been idle and carries none. -/
theorem witness_TimeLinkMessagePendsOrIsCounted :
    let x : Timebase := { Timebase.reset with line := some [⟨0xD4#8, false⟩], idleSince := 100000 }
    LineCarries .reset 400000 (message 4#8 0#8) (some ((message 4#8 0#8).map (·.char))) 395000
      ∧ 395000 + 5000 ≤ 400000
      ∧ LineCarries x 111998 (sent 4999 (List.replicate 2 0#8)) (some [⟨0xD4#8, false⟩, ⟨0#8, false⟩, ⟨0#8, false⟩])
          106999
      ∧ 111998 < 106999 + 5000
      ∧ LineCarries { x with line := none } 111999 (sent 5000 (List.replicate 2 0#8)) none 106999
      ∧ locked26.time.state = .locked ∧ (messageBytes 4#8 0#8).length = 7 ∧ ((messageBytes 4#8 0#8).take 6).length ≠ 7
      ∧ (∃ c ∈ [LineChar.mk 0xD4#8 true], c.framingError = true)
      ∧ (messageBytes 4#8 0#8).tail.head? ≠ some 0xD4#8 ∧ (messageBytes 4#8 1#8).foldl (· ^^^ ·) 0#8 ≠ 0#8
      ∧ ((message 4#8 0#8).getLast?.map fun c => decide (0 + 5000 ≤ c.ended ∧ c.ended ≤ 12000)) = some true :=
  ⟨⟨by decide, by decide, by decide, sent_gaps 5000 (messageBytes 4#8 0#8), .inl ⟨by decide, rfl, rfl⟩⟩, by decide,
    ⟨by decide, by decide, by decide, sent_gaps 4999 (List.replicate 2 0#8), .inr ⟨by decide, rfl⟩⟩, by decide,
    ⟨by decide, by decide, by decide, sent_gaps 5000 (List.replicate 2 0#8), .inr ⟨by decide, rfl⟩⟩, by decide⟩

/-- The mark at 5,001,500 finds +4 s against a time held of +4 s 1,200 µs; the marks at 5,001,300 and 2,000,300 find
differences of exactly 1,000 and of 300. -/
theorem witness_SecondMarkRenewsAnchorOrIsIgnored :
    let m : TimeMessage := { seconds := 1700000004, locked := true, arrival := 4700000 }
    let s := { locked26 with time := { locked26.time with localTime := 5000000, pendingMessage := some m } }
    let a : Anchor := { localTime := 2000300, absTime := { seconds := 1700000001, micros := 0 } }
    s.time.pendingMessage = some m ∧ m.locked = true ∧ s.time.anchor = some a ∧ s.time.state ≠ .noTime
      ∧ 1000 < AbsTime.distance (a.absAt 5001500) { seconds := 1700000004, micros := 0 }
      ∧ AbsTime.distance (a.absAt 5001300) { seconds := 1700000004, micros := 0 } = 1000
      ∧ locked26.time.pendingMessage = none := by decide

theorem witness_TimebaseExpiriesActWhenDue :
    let m : TimeMessage := { seconds := 0, locked := true, arrival := 1000300 }
    ({ locked26 with time := { locked26.time with pendingMessage := some m } }).time.pendingMessage = some m
      ∧ m.arrival + 1000000 ≤ 2000300 + 0
      ∧ locked26.time.state = .locked ∧ locked26.time.lastValidMark = some 2000300
      ∧ 2000300 + 2500000 ≤ locked26.time.localTime + 2500000
      ∧ (∀ m, locked26.time.lastValidMark = some m → locked26.time.localTime + 2499999 < m + 2500000)
      ∧ State.reset.time.state ≠ .locked := by
  refine ⟨rfl, by decide, rfl, rfl, by decide, ?_, by decide⟩
  intro m h
  cases h
  decide

theorem witness_RoundingIsToNearestTiesAway :
    0 < 16384 ∧ 2 * (-24576 - roundDiv (-24576) 16384 * 16384).natAbs = 16384 := by decide

/-- Sensor 2 RUNNING with an OPEN page that is not full. -/
def storing : State :=
  { broken with ring := State.reset.ring.set .s2 { RingRecord.reset with
      newest := some 254, oldest := some 0, newestLocal := some 0, page := some .opened, setsInPage := some 255 } }

/-- The fields of `frame2 40`. -/
def parsed40 : Frame := ⟨.s2, 40#8, 0, 0, 0, false, false, true⟩

theorem storing_pageInv : PageInv storing := by
  intro sen
  cases sen
  case s2 =>
    refine ⟨fun h => (nomatch h), fun n h => ?_⟩
    cases h
    exact ⟨⟨0, rfl, by decide⟩, fun _ => by decide, fun _ => .inl rfl⟩
  all_goals exact ⟨fun _ => by decide, fun n h => (nomatch h)⟩

theorem witness_GoodFrameInTurnIsStored :
    parseFrame (frame2 41#8 0#8) = some { parsed40 with sequence := 41#8 } ∧ (41#8 - 40#8).toNat = 1
      ∧ parseFrame (frame2 55#8 0#8) = some { parsed40 with sequence := 55#8 } ∧ (55#8 - 40#8).toNat = 15
      ∧ parseFrame (frame2 40#8 1#8) = some { parsed40 with good := false }
      ∧ (storing.intake.get .s2).consecutiveBad < 7 ∧ (storing.intake.get .s2).flags.sequence = false ∧
    parseFrame (frame2 40#8 0#8) = some parsed40 ∧ parsed40.good = true ∧ (storing.intake.get .s2).state = .running
      ∧ (storing.intake.get .s2).applyPending = false ∧ (storing.intake.get .s2).expected = some parsed40.sequence
      ∧ (storing.ring.get .s2).newest = some 254 ∧ (storing.ring.get .s2).page = some .opened
      ∧ (254 + 1) % storing.pageSize.active.sets ≠ 0 := by decide

theorem witness_DiscardedFramesHandOnNothing :
    ((frame2 40#8 0#8).take 11).length ≠ 12 ∧ (frame2 40#8 0#8 ++ [0#8]).length ≠ 12
      ∧ parseFrame (frame2 40#8 1#8) = some { parsed40 with good := false }
      ∧ (State.reset.intake.get .s2).applyPending = false ∧ (State.reset.intake.get .s2).state = .off
      ∧ (correcting.intake.get .s1).state = .starting
      ∧ ((PerSensor.all (record100 .gap)).get .s2).state = .gap := by decide

theorem witness_FrameSilenceDeclaresGap :
    (storing.intake.get .s2).state = .running ∧ (storing.intake.get .s2).silenceTimer = some 0
      ∧ 0 + 4 * (storing.rate .s2).period ≤ storing.time.localTime + 40000
      ∧ (storing.ring.get .s2).page = some .opened ∧ (storing.ring.get .s2).newest ≠ none
      ∧ (storing.intake.get .s2).flags.gap = false
      ∧ parseFrame (frame2 40#8 1#8) = some { parsed40 with good := false }
      ∧ (storing.intake.get .s2).applyPending = false
      ∧ ({ record100 .running with consecutiveBad := 7 }).consecutiveBad = 7 := by decide

theorem witness_QuietChannelTriggersAtThreshold :
    let c : ChannelRecord := { ChannelRecord.reset with state := .quiet, ratio := 1024 }
    let s := { aged with detector := .all { DetectorRecord.reset with channels := ⟨c, { c with ratio := 1023 }⟩ } }
    (s.channel .s0 .p).state = .quiet ∧ (s.channel .s0 .s).state = .quiet
      ∧ ((s.detector.get .s0).group.active.get .p).onThreshold ≤ (s.channel .s0 .p).ratio
      ∧ (s.channel .s0 .s).ratio < ((s.detector.get .s0).group.active.get .s).onThreshold
      ∧ (s.refiner.queues.get .s0).length < 4 ∧ ¬ (List.replicate 4 (ready 100 0)).length < 4
      ∧ (s.ring.get .s0).below 299 = false ∧ s.refiner.gapCut.get .s0 = none ∧ (s.ring.get .s0).newest = some 299
      ∧ 299 < 299 + (s.activeRefinement .s0).post + (s.activeRefinement .s0).pol := by decide

theorem witness_AssignedIdIsFirstFree :
    [65535, 1].length ≤ 64 ∧ 1 ≤ 65535 ∧ firstFree [65535, 1] (Config.tableCapacity + 1) 65535 = 2 := by decide

theorem witness_PickWriteCreatesRecord :
    (refined.refiner.work.map fun w => (w.sensor, decide (w.readEnd < w.next))) = some (.s0, true)
      ∧ refined.refiner.queues.get .s0 = [{ ready 299 0 with state := .inProgress }]
      ∧ refined.table.records.length < 64 ∧ 1 ≤ refined.table.nextId ∧ refined.table.nextId ≤ 65535 := by decide

/-- A pick with an onset that the grouper takes, in a table of its own. -/
def ungrouped : State := { attachedBoth with table := { records := [pick 7], nextId := 8 } }

theorem single_not_pending (g : Nat) : Grouping.single ≠ .pending g := fun h => (nomatch h)

/-- A group of one PENDING pick, and a SINGLE pick of sensor 1 that is being handed to the grouper. -/
def joining (state : GroupState) (count : Nat) : State :=
  { attachedBoth with
    table := { records := [{ pick 7 with grouping := if state = .opened then .pending 1 else .grouped 1 },
      { pick 8 with sensor := .s1, trigger := 1010, onsetLocal := some 9950000 }], nextId := 9 }
    grouper := { Grouper.reset with
      groups := [{ attachedBoth.newGroup (pick 7) 9900000 with state := state, count := count }], nextId := 2 } }

theorem joining_noticeInv (state : GroupState) (h : state = .opened ∨ state = .declared) :
    NoticeInv (joining state 2) := by
  rcases h with rfl | rfl
  all_goals
    refine ⟨fun p => ?_, fun r hr _ p => ?_, by decide, by decide, fun g hg => ?_⟩
    · cases p <;> exact ⟨by decide, by decide, fun n hn => (nomatch hn)⟩
    · rcases List.mem_cons.1 hr with rfl | hr
      · cases p <;> rfl
      · cases List.mem_singleton.1 hr
        cases p <;> rfl
    · cases List.mem_singleton.1 hg
      exact ⟨by decide, by decide, fun _ => ⟨by decide, by decide⟩⟩

/-- No window that begins after the requests of `aged` is complete; without requests, and with every sensor OFF, each is. -/
theorem witness_NewPicksAreGrouped :
    ungrouped.findPick 7 = some (pick 7) ∧ (pick 7).onsetLocal = some 9900000
      ∧ (pick 7).qualityClass ≤ ungrouped.grouper.settings.active.qmax ∧ (pick 7).phase = .p
      ∧ ungrouped.grouper.groups = [] ∧ 2 ≤ ungrouped.grouper.settings.active.count
      ∧ ({ ungrouped with refiner := aged.refiner }).windowComplete
          (9900000 + ungrouped.grouper.settings.active.pWindow * 1000) = false
      ∧ ungrouped.windowComplete (9900000 + ungrouped.grouper.settings.active.pWindow * 1000) = true
      ∧ ({ GroupingGroup.default with count := 1 }).count = 1
      ∧ ({ ungrouped with refiner := aged.refiner }).windowComplete (9900000 + max 1500 20000 * 1000) = false
      ∧ ungrouped.grouper.settings.active.qmax < ({ pick 7 with qualityClass := 3 }).qualityClass
      ∧ 8 ≤ (List.replicate 8 (ungrouped.newGroup (pick 7) 0)).length
      ∧ (0 : Nat) + 1500 * 1000 < 9900000 := by decide

theorem witness_NewPicksAreGrouped_join :
    let s := { joining .opened 3 with refiner := aged.refiner }
    let g := { attachedBoth.newGroup (pick 7) 9900000 with count := 3 }
    (s.findPick 8).map (fun r => (r.onsetLocal, r.sensor, r.phase, r.grouping)) = some (some 9950000, .s1, .p, .single)
      ∧ s.grouper.groups = [] ++ g :: [] ∧ (s.grouper.groups.map (·.id)).Nodup ∧ Admits g .s1 .p 9950000
      ∧ Admits g .s1 .p (9900000 + 1500 * 1000) ∧ Admits g .s0 .s 9900000 ∧ g.pCount + 1 < g.count
      ∧ s.windowComplete (9900000 + 1500 * 1000) = false ∧ s.windowComplete (9900000 + max 1500 20000 * 1000) = false := by
  unfold Admits
  decide

theorem witness_NewPicksAreGrouped_declare :
    let s := { joining .opened 2 with refiner := aged.refiner }
    NoticeInv s ∧ (s.table.records.map (·.id)).Nodup ∧ (s.grouper.groups.map fun g => (g.state, g.pCount, g.count))
      = [(.opened, 1, 2)] ∧ s.windowComplete (9900000 + max 1500 20000 * 1000) = false :=
  ⟨joining_noticeInv .opened (.inl rfl), by decide⟩

theorem witness_NewPicksAreGrouped_end :
    let s := joining .opened 2
    let t := joining .declared 2
    NoticeInv s ∧ NoticeInv t ∧ (s.findGroup 1).map (·.state) = some .opened
      ∧ (t.findGroup 1).map (·.state) = some .declared ∧ (t.table.records.map (·.id)).Nodup
      ∧ s.windowComplete (9900000 + 1500 * 1000) = true ∧ t.windowComplete (9900000 + max 1500 20000 * 1000) = true :=
  ⟨joining_noticeInv .opened (.inl rfl), joining_noticeInv .declared (.inr rfl), by decide⟩

/-- The refiner's request stands beside both chains'. -/
def contended : State :=
  { running with
    chains := .all (running.chain .a)
    refiner := { refined.refiner with work := refined.refiner.work.map fun w => { w with next := 299 } } }

theorem witness_RingReadPolicyChoosesReader :
    contended.arbiter.policy = .refinerFirst ∧ contended.refinerRequests = true ∧ running.refinerRequests = false
      ∧ contended.chainRequests .a = true ∧ contended.chainRequests .b = true ∧ running.chainRequests .a = true
      ∧ running.chainRequests .b = false ∧ attachedBoth.chainRequests .a = false
      ∧ (State.reset.arbiter.lastGrant = .chain .b) := by decide

theorem witness_GrantReadsChainBlock :
    running.arbiter.path = .free ∧ running.grantee = some (.chain .a)
      ∧ (running.chain .a).plan = some { sensor := .s0, length := 200, mask := ⟨true, false, false⟩ }
      ∧ (running.chain .a).run = some { first := 0, note := .none, next := 0, progress := 0, level := some .none }
      ∧ (running.ring.get .s0).newest = some 299 := by decide

theorem witness_GrantReadsRefinerBlock :
    contended.arbiter.path = .free ∧ contended.grantee = some .refiner
      ∧ (contended.refiner.work.map fun w => (w.sensor, w.next, w.readEnd)) = some (.s0, 299, 299)
      ∧ contended.refiner.queues.get .s0 ≠ []
      ∧ (contended.ring.get .s0).answer 299 = .found ⟨4, 5, 6, false, false, false⟩ := by decide

theorem witness_ChainWaitEndsInTimeout :
    ((waiting .data).chain .a).state = .waiting ∧ ((waiting .data).chain .a).wait = some (.data, 0)
      ∧ ((waiting .start).chain .a).wait = some (.start, 0)
      ∧ 0 + 60000000 ≤ (waiting .data).time.localTime + 60000000 := by decide

theorem witness_CommandTransactionFillsSlot :
    (attachedBoth.ports.get .a).slot = .idle ∧ (Request.apply 0x48#8).wf = true ∧ (groupOfArea 0x48#8).isSome = true
      ∧ attachedBoth.attached .a = true ∧ State.reset.attached .a = false
      ∧ (Request.loadChain 15#8 (List.replicate 15 ⟨0#8, 0#8, 0#64, 1#16, 7#8, 0#8⟩)).wf = true := by decide

theorem witness_CommandTransactionRefuses :
    ((busy .take attachedBoth).ports.get .a).slot ≠ .idle ∧ (State.reset.ports.get .a).slot = .idle
      ∧ [0x04#8].length < 2 ∧ (0x00#8).toNat = 0 ∧ 18 < (0x13#8).toNat ∧ [0#8].length ≠ (2#8).toNat
      ∧ State.reset.attached .a = false ∧ Request.take.wf = true
      ∧ [0#8].length = (1#8).toNat ∧ (attachedBoth.ports.get .a).slot = .idle ∧ attachedBoth.attached .a = true
      ∧ [0#8].length ≠ 0 ∧ List.length ([] : List Byte) ≠ 1 ∧ [1#8, 2#8].length ≠ 1 := by decide

theorem witness_ResponseTransactionCollects :
    let s := after (.take 0 .a) (busy .take attachedBoth)
    (s.ports.get .a).slot = .done { code := 0x04#8, result := .empty, data := [0#8] }
      ∧ 4 + [0#8].length ≤ 5 ∧ 4 < 4 + [0#8].length
      ∧ (∀ r, (State.reset.ports.get .a).slot ≠ .done r)
      ∧ ∀ r, ((busy .take attachedBoth).ports.get .a).slot ≠ .done r :=
  ⟨by decide, by decide, by decide, fun _ h => (nomatch h), fun _ h => (nomatch h)⟩

theorem witness_DetachLeavesNothingWaiting :
    Holds (busy .detach offered) .a .detach ∧ (busy .detach offered).attached .a = true
      ∧ (({ offered with ports := .all { PortRecord.reset with timer := some 0 } }).ports.get .a).timer = some 0
      ∧ 0 + (offered.ports.get .a).timeout * 1000000 ≤ offered.time.localTime + 30000000 := by decide

theorem witness_StatusReportsAndClears :
    Holds (busy .status offered) .a .status ∧ (offered.attention.get .a).clearMode = .explicit
      ∧ ({ AttnRecord.reset with clearMode := .onRead }).clearMode = .onRead := by decide

theorem witness_AttentionIsClearedAsNamed :
    Holds (busy (.attnDone 0x3FF#16) offered) .a (.attnDone 0x3FF#16) ∧ (0x3FF#16).toNat < 1024
      ∧ Holds (busy (.attnDone 0x400#16) offered) .a (.attnDone 0x400#16) ∧ 1024 ≤ (0x400#16).toNat
      ∧ ({ AttnRecord.reset with pulse := some 0 }).pulse = some 0
      ∧ (offered.attention.get .a).lineMode = .level := by decide

theorem witness_AttachCatchesUp :
    Holds (busy .attach offered) .a .attach ∧ (busy .attach offered).attached .a = true
      ∧ Holds (busy .attach { offered with offers := .all .reset }) .a .attach
      ∧ (busy .attach { offered with offers := .all .reset }).attached .a = false
      ∧ (busy .attach { offered with offers := .all .reset }).notices .a = [] := by decide

theorem witness_TakeAnswersOldestNotice :
    Holds (busy .take attachedBoth) .a .take ∧ (busy .take attachedBoth).notices .a = []
      ∧ Holds (busy .take offered) .a .take ∧ (busy .take offered).notices .a = [.pickNew 7]
      ∧ (busy .take offered).candidates = [] ∧ (busy .take offered).findPick 7 ≠ none := by decide

/-- One OPEN group. -/
def grouped : State := { offered with grouper := { Grouper.reset with groups := [offered.newGroup (pick 7) 9900000] } }

theorem witness_SnapshotsAreReadWithoutChange :
    Holds (busy (.readPick 7#16) grouped) .a (.readPick 7#16) ∧ grouped.findPick 7 ≠ none
      ∧ Holds (busy (.readGroup 1#16) grouped) .a (.readGroup 1#16) ∧ grouped.findGroup 1 ≠ none
      ∧ (∀ r ∈ grouped.table.records, r.id ≠ 0) ∧ (∀ g ∈ grouped.grouper.groups, g.id ≠ 0) := by decide

theorem witness_RetractWithdrawsRecord :
    Holds (busy (.retract 7#16) offered) .a (.retract 7#16)
      ∧ offered.findPick 7 = some { pick 7 with delivery := .all .waiting }
      ∧ (pick 7).state ≠ .retracted ∧ (offered.table.records.map (·.id)).Nodup
      ∧ (busy (.retract 7#16) offered).candidates = [] ∧ offered.attached .a = true ∧ State.reset.attached .b = false
      ∧ ((offered.notices .b).filter (Notice.namesPick 7)).length ≤ 1 ∧ .pickNew 7 ∈ offered.notices .b
      ∧ .pickFinal 7 ∈ ({ OfferRecord.reset with notices := [.pickFinal 7] }).notices
      ∧ (∀ n ∈ attachedBoth.notices .a, n.namesPick 7 = false)
      ∧ offered.findEpisode .s0 .p 1000 = some { pick 7 with delivery := .all .waiting }
      ∧ (pick 7).state = .provisional ∧ (pick 7).grouping = .single
      ∧ (∀ x ∈ offered.table.records, x.sensor = .s0 → x.channel = .p → x.trigger = 999 → x.state ≠ .provisional)
      ∧ ({ ungrouped with table := { records := [{ pick 7 with state := .retracted }], nextId := 8 } }).findPick 7
          = some { pick 7 with state := .retracted }
      ∧ ∀ r ∈ offered.table.records, r.id ≠ 0 := by decide

/-- The slot holds a SET of an index. -/
def setting (i : SettingIndex) (v : BitVec 32) : State := busy (.set (encodeIndex i) v) attachedBoth

theorem witness_SetClampsIntoStagedCopy :
    (setting (.detector .s3 .s .ltaFloor) 0#32).frozen = false
      ∧ Holds (setting (.detector .s3 .s .ltaFloor) 0#32) .a (.set (encodeIndex (.detector .s3 .s .ltaFloor)) 0#32)
      ∧ Holds (setting (.refinement .s0 .pre) 1025#32) .a (.set (encodeIndex (.refinement .s0 .pre)) 1025#32)
      ∧ Holds (setting (.grouping .count) 4#32) .a (.set (encodeIndex (.grouping .count)) 4#32) := by decide

theorem witness_SetReadsSignedAndMaskValues :
    let correction := fun item v => setting (.correction .s0 item) v
    let mask := fun v => setting (.preset 7 .mask) v
    Holds (correction .offsetZ 0x80000000#32) .a (.set (encodeIndex (.correction .s0 .offsetZ)) 0x80000000#32)
      ∧ Holds (correction .sine 0xFFFFC000#32) .a (.set (encodeIndex (.correction .s0 .sine)) 0xFFFFC000#32)
      ∧ Holds (correction .delay 65536#32) .a (.set (encodeIndex (.correction .s0 .delay)) 65536#32)
      ∧ Holds (correction .rate 3#32) .a (.set (encodeIndex (.correction .s0 .rate)) 3#32)
      ∧ Holds (correction .rate 4#32) .a (.set (encodeIndex (.correction .s0 .rate)) 4#32)
      ∧ Holds (setting (.preset 0 .lead) 60001#32) .a (.set (encodeIndex (.preset 0 .lead)) 60001#32)
      ∧ Holds (mask 0#32) .a (.set (encodeIndex (.preset 7 .mask)) 0#32)
      ∧ Holds (mask 7#32) .a (.set (encodeIndex (.preset 7 .mask)) 7#32)
      ∧ Holds (mask 8#32) .a (.set (encodeIndex (.preset 7 .mask)) 8#32)
      ∧ (mask 0#32).frozen = false := by decide

theorem witness_RefusedSetStoresNothing :
    decodeIndex 0x2007#16 = none ∧ decodeIndex 0x7800#16 = some .timeStatus
      ∧ decodeIndex 0x7302#16 = some (.detectorStatus .s3) ∧ decodeIndex 0x4003#16 = some (.grouping .sWindow)
      ∧ Holds (busy (.set 0x4003#16 0#32) { attachedBoth with frozen := true }) .a (.set 0x4003#16 0#32)
      ∧ ({ attachedBoth with frozen := true }).frozen = true := by decide

theorem witness_QualityThresholdsKeepOrder :
    let s := setting (.refinement .s1 (.threshold .q1)) 9000#32
    s.frozen = false ∧ Holds s .a (.set (encodeIndex (.refinement .s1 (.threshold .q1))) 9000#32)
      ∧ (s.refiner.groups.get .s1).staged.q2 < (s.refiner.groups.get .s1).staged.q1
      ∧ (s.refiner.groups.get .s1).staged.q1 < (s.refiner.groups.get .s1).staged.q0
      ∧ (s.refiner.groups.get .s1).staged.q0 ≤ 65535 := by decide

theorem witness_PartWideSettingsAreStored :
    Holds (setting .pageSize 128#32) .a (.set (encodeIndex .pageSize) 128#32)
      ∧ Holds (setting .pageSize 256#32) .a (.set (encodeIndex .pageSize) 256#32)
      ∧ Holds (setting .pageSize 257#32) .a (.set (encodeIndex .pageSize) 257#32)
      ∧ Holds (setting .agingLimit 16#32) .a (.set (encodeIndex .agingLimit) 16#32)
      ∧ Holds (setting .arbiterMode 1#32) .a (.set (encodeIndex .arbiterMode) 1#32)
      ∧ Holds (setting .arbiterMode 2#32) .a (.set (encodeIndex .arbiterMode) 2#32) ∧ 2 ≤ (2#32).toNat
      ∧ (1#32).toNat < 2
      ∧ Holds { setting .ringReadPolicy 1#32 with frozen := true } .a (.set (encodeIndex .ringReadPolicy) 1#32)
      ∧ Holds (setting .ringReadPolicy 1#32) .a (.set (encodeIndex .ringReadPolicy) 1#32)
      ∧ Holds (setting .intakeAutoClear 1#32) .a (.set (encodeIndex .intakeAutoClear) 1#32)
      ∧ (setting .pageSize 128#32).frozen = false ∧ ({ attachedBoth with frozen := true }).frozen = true := by decide

theorem witness_PortLocalSettingsStayLocal :
    Holds (setting .mask 1023#32) .a (.set (encodeIndex .mask) 1023#32) ∧ (1023#32).toNat < 1024
      ∧ Holds (setting .lineMode 1#32) .a (.set (encodeIndex .lineMode) 1#32)
      ∧ Holds (setting .clearMode 1#32) .a (.set (encodeIndex .clearMode) 1#32)
      ∧ Holds (setting .silenceTimeout 256#32) .a (.set (encodeIndex .silenceTimeout) 256#32)
      ∧ Holds (setting .offerMode 1#32) .a (.set (encodeIndex .offerMode) 1#32) := by decide

theorem witness_GetReadsWithoutChange :
    Holds (busy (.get (encodeIndex .chainStatus)) offered) .a (.get (encodeIndex .chainStatus))
      ∧ (∀ sen, SettingIndex.chainStatus ≠ .intakeStatus sen)
      ∧ Holds (busy (.get 0x7806#16) offered) .a (.get 0x7806#16) ∧ decodeIndex 0x7806#16 = none
      ∧ Holds (busy (.get (encodeIndex (.intakeStatus .s3))) offered) .a (.get (encodeIndex (.intakeStatus .s3))) :=
  ⟨by decide, fun sen h => (nomatch h), by decide, by decide, by decide⟩

theorem witness_CorrectionAppliesBetweenFrames :
    let r := record100 .off
    Holds (busy (.apply (GroupName.area (.correction .s2))) broken) .a (.apply (GroupName.area (.correction .s2)))
      ∧ broken.frozen = false ∧ (broken.intake.get .s2).state = .running ∧ (correcting.intake.get .s1).state ≠ .running
      ∧ (correcting.intake.get .s1).correction.staged.rate = (correcting.intake.get .s1).correction.active.rate
      ∧ ({ r with correction := { r.correction with active := .default } }).correction.active.rate = .off
      ∧ r.state = .off ∧ r.correction.staged.rate ≠ .off
      ∧ parseFrame (frame2 40#8 0#8) = some parsed40 ∧ parsed40.good = true
      ∧ ({ record100 .running with applyPending := true }).applyPending = true
      ∧ (record100 .running).correction.staged.rate = (record100 .running).correction.active.rate
      ∧ ({ record100 .running with correction := ⟨.default, (record100 .running).correction.active⟩ }).correction.staged.rate
          = .off
      ∧ ({ record100 .running with correction := ⟨{ CorrectionGroup.default with rate := .r50 },
          (record100 .running).correction.active⟩ }).correction.staged.rate ≠ .r100 := by decide

theorem witness_DetectorAppliesWhenBlind :
    let s := { attachedBoth with detector := attachedBoth.detector.set .s1 { DetectorRecord.reset with
      channels := ⟨{ ChannelRecord.reset with state := .quiet }, { ChannelRecord.reset with state := .quiet }⟩ } }
    Holds (busy (.apply (GroupName.area (.detector .s1))) s) .a (.apply (GroupName.area (.detector .s1)))
      ∧ s.frozen = false ∧ (s.detector.get .s1).channels.p.state ≠ .blind
      ∧ (s.detector.get .s0).channels.p.state = .blind ∧ (s.detector.get .s0).channels.s.state = .blind := by decide

theorem witness_RefinementAppliesAtOnce :
    Holds (busy (.apply (GroupName.area (.refinement .s3))) refined) .a (.apply (GroupName.area (.refinement .s3)))
      ∧ refined.frozen = false ∧ refined.refiner.work.isSome = true := by decide

theorem witness_GroupingAndPresetsApplyUnlessFrozen :
    Holds (busy (.apply 0x40#8) attachedBoth) .a (.apply 0x40#8)
      ∧ Holds (busy (.apply 0x48#8) attachedBoth) .a (.apply 0x48#8)
      ∧ Holds (busy .freeze attachedBoth) .a .freeze ∧ attachedBoth.frozen = false
      ∧ Holds (busy (.apply (GroupName.area (.detector .s3))) { attachedBoth with frozen := true }) .a
          (.apply (GroupName.area (.detector .s3))) := by decide

theorem witness_LoadReplacesIdleChain :
    let w : ElementWords := ⟨0#8, 3#8, 0#64, 4096#16, 7#8, 7#8⟩
    Holds (busy (.loadChain 1#8 [w]) attachedBoth) .a (.loadChain 1#8 [w]) ∧ attachedBoth.attached .a = true
      ∧ (loadedElements 1#8 [w]).isSome = true ∧ (attachedBoth.chain .a).state = .empty
      ∧ (running.chain .a).state = .running ∧ 4096 < (4097#16).toNat ∧ (0xF8#8).toNat % 8 = 0
      ∧ 999999 < (1000000#64).toNat % 4294967296 ∧ 7 < (8#8).toNat := by decide

/-- Port A's chain PAUSED in its element. -/
def paused : State :=
  { running with chains := running.chains.set .a { running.chain .a with state := .paused, pausePoint := some .inElement } }

theorem witness_StartBeginsOrResumesChain :
    Holds (busy .startChain (chained .loaded)) .a .startChain ∧ ((chained .loaded).chain .a).state = .loaded
      ∧ ((chained .loaded).chain .a).elements = [element] ∧ element.kind = .bySample .s0 0 200 ⟨true, false, false⟩
      ∧ (ringed.ring.get .s0).oldest = some 0 ∧ (ringed.ring.get .s0).newest = some 299 ∧ 0 ≤ 299
      ∧ (paused.chain .a).state = .paused ∧ (paused.chain .a).pausePoint = some .inElement
      ∧ ((paused.chain .a).run.map (·.next)) = some 0 ∧ ((chained .faulted).chain .a).state = .faulted := by decide

theorem witness_PauseKeepsAndResetAbandons :
    Holds (busy .resetChain running) .a .resetChain ∧ Holds (busy .pauseChain running) .a .pauseChain
      ∧ (running.chain .a).state = .running ∧ ((waiting .start).chain .a).state = .waiting
      ∧ ((waiting .start).chain .a).wait = some (.start, 0) ∧ (paused.chain .a).state = .paused
      ∧ ((chained .done).chain .a).state = .done := by decide

theorem witness_ReadExcerptDrainsInOrder :
    let s := after (.ringReadGrant 1) running
    Holds (busy (.readExcerpt 64#8) s) .a (.readExcerpt 64#8) ∧ (s.chain .a).buffer.length = 128
      ∧ (running.chain .a).buffer = [] ∧ 64 < (65#8).toNat := by decide +kernel

theorem witness_SoftResetKeepsSettings :
    Holds (busy .softReset broken) .a .softReset
      ∧ Holds ({ (busy .softReset broken) with
          ports := (busy .softReset broken).ports.set .b { PortRecord.reset with slot := .busy .take } }) .b .take
      ∧ (∀ r, ¬ Holds (busy .softReset broken) .b r)
      ∧ (broken.intake.get .s2).applyPending = false
      ∧ ({ record100 .running with applyPending := true }).applyPending = true :=
  ⟨by decide, by decide, fun _ h => (nomatch h), by decide, by decide⟩

theorem witness_FreezeHoldsUntilHardwareReset :
    Instr.set 0 .a 0x2000#16 0#32 ≠ .hardwareReset ∧ ({ attachedBoth with frozen := true }).frozen = true := by decide

theorem witness_PortsAreIsolated :
    (Instr.detach 0 .a).performs = some (.a, .detach) ∧ Request.detach ≠ .softReset := by decide

theorem witness_CommandsAreReadBackFromBytes :
    decodeIndex 0x4817#16 = some (.preset 7 .mask) ∧ (Request.loadChain 0#8 []).wf = true
      ∧ performingRow 5 .b (.set 0x6004#16 1#32) = some (.setOfferMode 5 .b 1#32) := by decide

theorem witness_StreamStartOpensNextPage :
    let t := State.reset.placeSet .s0 ⟨1, 2, 3, false, false, false⟩ true 0
    (t.ring.get .s0).newest = some 0 ∧ (t.ring.get .s0).page = some .opened
      ∧ parseFrame (frame2 40#8 0#8) = some parsed40 ∧ parsed40.good = true
      ∧ (record100 .starting).state = .starting ∧ (record100 .gap).state = .gap
      ∧ (storing.intake.get .s2).applyPending = false ∧ (storing.intake.get .s2).expected = some 40#8
      ∧ parseFrame (frame2 56#8 0#8) = some { parsed40 with sequence := 56#8 } ∧ 16 ≤ (56#8 - 40#8).toNat
      ∧ parseFrame (frame2 39#8 0#8) = some { parsed40 with sequence := 39#8 } ∧ 16 ≤ (39#8 - 40#8).toNat := by decide

theorem witness_MapCheckAcceptsAndRepairs :
    let e : MapEntry := { startSample := 0#48, localStart := 0#64, absSeconds := 0#32, absMicros := 0#20,
                          quality := 0#2, fill := 1#10, period := 10000#15, check := 0#9 }
    mapTest e.withCheck = .clean ∧ 8 < 9 ∧ mapTest (e.withCheck.flipBit 1) = .corrected e.withCheck
      ∧ mapTest (e.withCheck.flipBit 200) = .corrected e.withCheck
      ∧ mapTest ((e.withCheck.flipBit 1).flipBit 200) = .faulty
      ∧ Store.read (ring34.ring.get .s2).pageMap (1 % (32768 / ring34.pageSize.active.sets))
          = some (entry34 256 12560040 44)
      ∧ mapTest (entry34 256 12560040 44) = .clean ∧ StoreInv State.reset := by
  refine ⟨by decide, by decide, by decide, by decide, by decide, by decide, by decide, fun sen => ?_⟩
  cases sen <;> decide

theorem witness_AveragesMoveTowardEnergy : (5 : Nat) ≤ 5 ∧ 5 < 5 + 2 ^ 3 ∧ (4 : Nat) < 5 ∧ average 3 5 4 = 4 := by decide

theorem witness_EnergyRanges :
    (16777214 : Int).natAbs ≤ 16777214 ∧ (-16777214 : Int).natAbs ≤ 16777214 := by decide

/-- A port ATTACHED with its timer running and one notice in its list, beside one DETACHED; a live record; a full page. -/
def lively : State :=
  { storing with
    offers := ⟨{ OfferRecord.reset with mode := some .all, notices := [.pickNew 7] }, .reset⟩
    attention := ⟨{ AttnRecord.reset with pending := 1#10 }, .reset⟩
    ports := ⟨{ PortRecord.reset with timer := some 0 }, .reset⟩
    table := { records := [pick 7], nextId := 8 }
    pending := [.sampleLinkFrame 7 (frame2 40#8 0#8)] }

/-- The step from `lively` answers a next state: the invariants' statements speak of it. -/
theorem witness_steps : ∃ t, Machine.step lively = .next t := ⟨_, rfl⟩
theorem witness_OfferTracksList : OfferInv lively := by intro p; cases p <;> decide
theorem witness_StoresStayCanonical : StoreInv lively := by intro sen; cases sen <;> decide
theorem witness_StoresStayCanonical_page : PageInv lively := storing_pageInv
theorem witness_ModesMatchTheirFields : RateInv lively ∧ TimeInv lively := by
  refine ⟨?_, by decide, by decide⟩
  intro sen; cases sen <;> decide
theorem witness_DetachedPortsStayEmpty : PortInv lively := by intro p; cases p <;> decide
theorem witness_TableKeepsDistinctIds : TableInv lively := by
  refine ⟨?_, ?_, ?_, ?_, ?_, ?_⟩ <;> decide
theorem witness_SignalsStayInRange : SignalInv lively := by
  intro sen
  refine ⟨?_, ?_, fun ch => ⟨?_, ?_, ?_, ?_⟩⟩
  · intro x h; cases sen <;> cases h
  · intro x h; cases sen <;> cases h
  · cases sen <;> cases ch <;> decide
  · cases sen <;> cases ch <;> decide
  · cases sen <;> cases ch <;> decide
  · intro z n e h; cases sen <;> cases ch <;> cases h
theorem witness_CapacitiesAndCountsAreKept_notices : NoticeInv lively ∧ TableInv lively ∧ PortInv lively := by
  refine ⟨⟨fun p => ?_, fun r hr _ p => ?_, by decide, by decide, fun g hg => (nomatch hg)⟩,
    witness_TableKeepsDistinctIds, witness_DetachedPortsStayEmpty⟩
  · cases p
    · refine ⟨by decide, by decide, fun n hn => ?_⟩
      cases List.mem_singleton.1 hn
      exact ⟨pick 7, .head _, rfl, single_not_pending⟩
    · exact ⟨by decide, by decide, fun n hn => (nomatch hn)⟩
  · cases List.mem_singleton.1 hr
    cases p <;> rfl
theorem witness_CapacitiesAndCountsAreKept : CapacityInv lively ∧ CountInv lively := by
  refine ⟨⟨?_, by decide, ?_⟩, by decide, by decide, by decide, by decide, by decide, by decide, ?_⟩
  · intro sen; cases sen <;> decide
  · intro p; cases p <;> decide
  · intro sen; refine ⟨?_, ?_, ?_, ?_, ?_, ?_, fun ch => ?_⟩
    all_goals first | (cases ch <;> cases sen <;> decide) | (cases sen <;> decide)

end Sys2Proof.Tests
end

