-- ==== Sys2Proof/Proofs/Detection.lean ====
section
/-! PROOFS. The energies of the Detector (4.2): the formula of each channel on the magnitudes of the differences, the
largest energy that a difference in range gives, and the statements of R56 and R57. -/

namespace Sys2Proof.Machine

/-! ### The formulas on magnitudes: a square does not see the sign -/

theorem energyOf_p (dz dn de : Int) : energyOf .p (dz, dn, de) = dz.natAbs * dz.natAbs / 1024 := by
  rw [energyOf, ← Int.natAbs_mul_self (a := dz), Int.toNat_natCast, Config.energyScale]

theorem energyOf_s (dz dn de : Int) :
    energyOf .s (dz, dn, de) = (dn.natAbs * dn.natAbs + de.natAbs * de.natAbs) / 2048 := by
  rw [energyOf, ← Int.natAbs_mul_self (a := dn), ← Int.natAbs_mul_self (a := de), ← Nat.cast_add, Int.toNat_natCast,
    Config.energyScale]

/-- R56: the rule's own formula, over the signed difference. -/
theorem energyOf_p_cast (dz dn de : Int) : (energyOf .p (dz, dn, de) : Int) = dz * dz / 1024 := by
  rw [energyOf_p, Int.natCast_ediv, Int.natAbs_mul_self, Nat.cast_ofNat]

/-- R57: the rule's own formula, over the signed differences. -/
theorem energyOf_s_cast (dz dn de : Int) : (energyOf .s (dz, dn, de) : Int) = (dn * dn + de * de) / 2048 := by
  rw [energyOf_s, Int.natCast_ediv, Nat.cast_add, Int.natAbs_mul_self, Int.natAbs_mul_self, Nat.cast_ofNat]

/-! ### The range: corrected samples (R16) differ by at most 16,777,214 -/

theorem natAbs_sq_le_of_inRange {d : Int} (hd : d.natAbs ≤ 16777214) : d.natAbs * d.natAbs ≤ 281474909601796 :=
  Nat.mul_self_le_mul_self hd

theorem energyOf_p_le_energyMax {dz : Int} (dn de : Int) (hz : dz.natAbs ≤ 16777214) :
    energyOf .p (dz, dn, de) ≤ energyMax := by
  rw [energyOf_p]
  exact Nat.div_le_div_right (natAbs_sq_le_of_inRange hz)

theorem energyOf_s_le_energyMax (dz : Int) {dn de : Int} (hn : dn.natAbs ≤ 16777214) (he : de.natAbs ≤ 16777214) :
    energyOf .s (dz, dn, de) ≤ energyMax := by
  rw [energyOf_s]
  exact Nat.div_le_div_right (Nat.add_le_add (natAbs_sq_le_of_inRange hn) (natAbs_sq_le_of_inRange he))

/-- The largest energy is reached at the largest difference alone: the square of the next smaller one is less by
33,554,427, which is more than the 4 that the division by 1,024 drops. -/
theorem energyOf_p_eq_energyMax_iff {dz : Int} (dn de : Int) (hz : dz.natAbs ≤ 16777214) :
    energyOf .p (dz, dn, de) = energyMax ↔ dz.natAbs = 16777214 := by
  rw [energyOf_p, energyMax]
  constructor
  · intro hmax
    by_contra hne
    have hsq : dz.natAbs * dz.natAbs ≤ 16777213 * 16777213 := Nat.mul_self_le_mul_self (by omega)
    omega
  · intro heq
    rw [heq]

/-! ### The S-channel against the P-channel: one horizontal difference gives half, two equal ones the same -/

theorem energyOf_s_north_only (d : Int) : energyOf .s (0, d, 0) = energyOf .p (d, 0, 0) / 2 := by
  rw [energyOf_s, energyOf_p, Nat.div_div_eq_div_mul, Int.natAbs_zero, Nat.mul_zero, Nat.add_zero]

theorem energyOf_s_east_only (d : Int) : energyOf .s (0, 0, d) = energyOf .p (d, 0, 0) / 2 := by
  rw [energyOf_s, energyOf_p, Nat.div_div_eq_div_mul, Int.natAbs_zero, Nat.mul_zero, Nat.zero_add]

theorem energyOf_s_north_eq_east (d : Int) : energyOf .s (0, d, d) = energyOf .p (d, 0, 0) := by
  rw [energyOf_s, energyOf_p, ← Nat.two_mul]
  exact Nat.mul_div_mul_left _ 1024 Nat.two_pos

/-! ### The statements -/

/-- Settles O14: R56's formula, and its maximum from the square's monotonicity. -/
theorem verticalEnergyIsScaledSquare : Obligations.VerticalEnergyIsScaledSquare := by
  intro dz dn de
  refine ⟨energyOf_p_cast dz dn de, fun hz => ⟨?range, ?reached⟩, rfl, rfl, rfl⟩
  case range => exact energyOf_p_le_energyMax dn de hz
  case reached => exact energyOf_p_eq_energyMax_iff dn de hz

/-- Settles O15: R57's formula, its range, and the comparison with the P-channel's energy of the same difference. -/
theorem horizontalEnergyIsScaledSum : Obligations.HorizontalEnergyIsScaledSum := by
  intro dz dn de
  refine ⟨energyOf_s_cast dz dn de, ?range, ?north, ?east, ?both, rfl, rfl⟩
  case range => exact energyOf_s_le_energyMax dz
  case north => exact energyOf_s_north_only dz
  case east => exact energyOf_s_east_only dz
  case both => exact energyOf_s_north_eq_east dz

end Sys2Proof.Machine
end


/-! PROOFS. What a step can do, said once: time passes, and then one of the events of `Effect` comes, whose last is the
performance of the command that a slot holds. -/

namespace Sys2Proof.Machine

/-! ### The rows of commands -/

/-- What the owner of a command of port `p` answers (R189, step 3). The rows of SET are one case, and so are those of
GET: an index, with the store or the values of that index. -/
inductive Owned (p : Port) (s : State) : Request → Answer → Prop
  | attach : Owned p s .attach (s.answerAttach p)
  | detach : Owned p s .detach (s.answerDetach p)
  | status : Owned p s .status { state := s.modAttention p AttnRecord.read, result := .ok, data := s.statusData p }
  | take : Owned p s .take (s.answerTake p)
  | readPick (id : BitVec 16) : Owned p s (.readPick id) (s.answerReadPick id.toNat)
  | readGroup (id : BitVec 16) : Owned p s (.readGroup id) (s.answerReadGroup id.toNat)
  | retract (id : BitVec 16) : Owned p s (.retract id) (s.answerRetract p id.toNat)
  | setUnknown (w : BitVec 16) (v : BitVec 32) : Owned p s (.set w v) (s.refuse .badArg)
  | set (w : BitVec 16) (v : BitVec 32) (i : SettingIndex) :
      Owned p s (.set w v) (s.answerSet p i (s.storeSetting p i v))
  | getUnknown (w : BitVec 16) : Owned p s (.get w) (s.refuse .badArg)
  | get (w : BitVec 16) (i : SettingIndex) : Owned p s (.get w) (s.answerGet p i)
  | applyCorrection (a : Byte) (same : Bool) (sen : Sensor) :
      Owned p s (.apply a) (s.answerApply p same fun u => u.applyCorrection sen)
  | applyDetector (a : Byte) (same : Bool) (sen : Sensor) :
      Owned p s (.apply a) (s.answerApply p same fun u => u.applyDetector sen)
  | applyRefinement (a : Byte) (same : Bool) (sen : Sensor) :
      Owned p s (.apply a) (s.answerApply p same fun u => u.applyRefinement sen)
  | applyGrouping (a : Byte) (same : Bool) : Owned p s (.apply a) (s.answerApply p same State.applyGrouping)
  | applyPresets (a : Byte) (same : Bool) : Owned p s (.apply a) (s.answerApply p same State.applyPresets)
  | freeze : Owned p s .freeze s.answerFreeze
  | loadChain (count : Byte) (words : List ElementWords) :
      Owned p s (.loadChain count words) (s.answerLoad p count words)
  | startChain : Owned p s .startChain (s.answerStart p)
  | pauseChain : Owned p s .pauseChain (s.answerPause p)
  | resetChain : Owned p s .resetChain { state := s.resetChain p, result := .ok, data := [] }
  | readExcerpt (maximum : Byte) : Owned p s (.readExcerpt maximum) (s.answerRead p maximum.toNat)
  | attnDone (classes : BitVec 16) : Owned p s (.attnDone classes) (s.answerAttnDone p classes.toNat)
  | softReset : Owned p s .softReset { state := s.softReset p, result := .ok, data := [] }

/-- A row that performs a command is its performance by its owner. -/
theorem exec_of_performs {i : Instr} {p : Port} {r : Request} (h : i.performs = some (p, r)) (s : State) :
    ∃ owner : State → Answer, exec i s = .next ((s.elapse i.elapsed).perform p r owner)
      ∧ Owned p (s.elapse i.elapsed) r (owner (s.elapse i.elapsed)) := by
  cases i <;> simp only [Instr.performs, Option.some.injEq, Prod.mk.injEq, reduceCtorEq] at h <;> obtain ⟨rfl, rfl⟩ := h
  case set dt p index v =>
    refine ⟨_, rfl, ?_⟩
    split
    · exact .setUnknown index v
    · rename_i i _
      exact .set index v i
  case get dt p index =>
    refine ⟨_, rfl, ?_⟩
    split
    · exact .getUnknown index
    · rename_i i _
      exact .get index i
  case attach => exact ⟨_, rfl, .attach⟩
  case detach => exact ⟨_, rfl, .detach⟩
  case status => exact ⟨_, rfl, .status⟩
  case take => exact ⟨_, rfl, .take⟩
  case readPick => exact ⟨_, rfl, .readPick _⟩
  case readGroup => exact ⟨_, rfl, .readGroup _⟩
  case retract => exact ⟨_, rfl, .retract _⟩
  case setQualityThreshold sen q v => exact ⟨_, rfl, .set _ v (.refinement sen (.threshold q))⟩
  case setPageSize v => exact ⟨_, rfl, .set _ v .pageSize⟩
  case setArbiterMode v => exact ⟨_, rfl, .set _ v .arbiterMode⟩
  case setAgingLimit v => exact ⟨_, rfl, .set _ v .agingLimit⟩
  case setRingReadPolicy v => exact ⟨_, rfl, .set _ v .ringReadPolicy⟩
  case setIntakeAutoClear v => exact ⟨_, rfl, .set _ v .intakeAutoClear⟩
  case setMask v => exact ⟨_, rfl, .set _ v .mask⟩
  case setLineMode v => exact ⟨_, rfl, .set _ v .lineMode⟩
  case setClearMode v => exact ⟨_, rfl, .set _ v .clearMode⟩
  case setSilenceTimeout v => exact ⟨_, rfl, .set _ v .silenceTimeout⟩
  case setOfferMode v => exact ⟨_, rfl, .set _ v .offerMode⟩
  case getIntakeStatus sen => exact ⟨_, rfl, .get _ (.intakeStatus sen)⟩
  case applyCorrection sen => exact ⟨_, rfl, .applyCorrection _ _ sen⟩
  case applyDetector sen => exact ⟨_, rfl, .applyDetector _ _ sen⟩
  case applyRefinement sen => exact ⟨_, rfl, .applyRefinement _ _ sen⟩
  case applyGrouping => exact ⟨_, rfl, .applyGrouping _ _⟩
  case applyPresets => exact ⟨_, rfl, .applyPresets _ _⟩
  case freeze => exact ⟨_, rfl, .freeze⟩
  case loadChain => exact ⟨_, rfl, .loadChain _ _⟩
  case startChain => exact ⟨_, rfl, .startChain⟩
  case pauseChain => exact ⟨_, rfl, .pauseChain⟩
  case resetChain => exact ⟨_, rfl, .resetChain⟩
  case readExcerpt => exact ⟨_, rfl, .readExcerpt _⟩
  case attnDone => exact ⟨_, rfl, .attnDone _⟩
  case softReset => exact ⟨_, rfl, .softReset⟩

/-! ### Every row -/

/-- What a row but HARDWARE_RESET makes of the state `s` in which its time has passed. -/
inductive Effect (s : State) : State → Prop
  | idle : Effect s s
  | frame (bytes : List Byte) : Effect s (s.frame bytes)
  | frameSilence (sen : Sensor) : Effect s (s.frameSilence sen)
  | grant : Effect s s.grant
  | pickWrite : Effect s s.pickWrite
  | waitTimeout (p : Port) (kind : WaitKind) : Effect s (s.waitTimeout p kind)
  | timeLink (chars : List TimedChar) : Effect s (s.timeLink chars)
  | messageExpiry : Effect s s.messageExpiry
  | mark : Effect s s.mark
  | markLoss : Effect s s.markLoss
  | takeCommand (p : Port) (message sent : List Byte) : Effect s ((s.takeCommand p message).endTransaction p sent)
  | takeResponse (p : Port) (clocked : Nat) (sent : List Byte) :
      Effect s ((s.takeResponse p clocked).endTransaction p sent)
  | ignored (p : Port) (sent : List Byte) : Effect s (s.endTransaction p sent)
  | portSilence (p : Port) : Effect s (s.portSilence p)
  | endPulse (p : Port) : Effect s (s.endPulse p)
  | command (p : Port) (r : Request) (a : Answer) (ha : Owned p s r a) :
      Effect s (a.state.respond p r.code a.result a.data)

/-- The performance of a command is its owner's answer, or nothing. -/
theorem Effect.of_performs {i : Instr} {p : Port} {r : Request} (h : i.performs = some (p, r)) (s : State) :
    ∃ t, exec i s = .next t ∧ Effect (s.elapse i.elapsed) t := by
  obtain ⟨owner, he, ha⟩ := exec_of_performs h s
  refine ⟨_, he, ?_⟩
  unfold State.perform
  split
  · exact .command p r _ ha
  · exact .idle

/-- Every row but HARDWARE_RESET answers a next state, by one of the effects. -/
theorem exec_effect {i : Instr} (hi : i ≠ .hardwareReset) (s : State) :
    ∃ t, exec i s = .next t ∧ Effect (s.elapse i.elapsed) t := by
  cases i
  case hardwareReset => exact absurd rfl hi
  case sampleLinkFrame => exact ⟨_, rfl, .frame _⟩
  case frameSilenceExpiry => exact ⟨_, rfl, .frameSilence _⟩
  case ringReadGrant => exact ⟨_, rfl, .grant⟩
  case pickWrite => exact ⟨_, rfl, .pickWrite⟩
  case startWaitTimeout => exact ⟨_, rfl, .waitTimeout _ _⟩
  case dataWaitTimeout => exact ⟨_, rfl, .waitTimeout _ _⟩
  case timeLinkMessage => exact ⟨_, rfl, .timeLink _⟩
  case pendingMessageExpiry => exact ⟨_, rfl, .messageExpiry⟩
  case secondMark => exact ⟨_, rfl, .mark⟩
  case markLoss => exact ⟨_, rfl, .markLoss⟩
  case commandTransaction => exact ⟨_, rfl, .takeCommand _ _ _⟩
  case responseTransaction => exact ⟨_, rfl, .takeResponse _ _ _⟩
  case silenceTimeout => exact ⟨_, rfl, .portSilence _⟩
  case attentionPulseEnd => exact ⟨_, rfl, .endPulse _⟩
  case ignoredTransaction => exact ⟨_, rfl, .ignored _ _⟩
  all_goals exact Effect.of_performs rfl s

/-- The state in which a row acts: the queue's rest stands, and the row's time has passed. -/
def State.readied (s : State) (rest : List Instr) (dt : Nat) : State := State.elapse { s with pending := rest } dt

/-- What one step does: hardware reset, or the passing of time and one effect. -/
theorem step_cases {s t : State} (h : Machine.step s = .next t) :
    (∃ rest, t = { State.reset with pending := rest }) ∨ ∃ rest dt, Effect (s.readied rest dt) t := by
  unfold Machine.step at h
  split at h
  · cases h
    exact .inr ⟨s.pending, 1, .idle⟩
  · rename_i c rest _
    by_cases hc : c = .hardwareReset
    · subst hc
      cases h
      exact .inl ⟨rest, rfl⟩
    · obtain ⟨u, hu, he⟩ := exec_effect hc { s with pending := rest }
      rw [hu] at h
      cases h
      exact .inr ⟨rest, c.elapsed, he⟩

/-- An invariant that sees neither the queue nor the local time holds after every step when it holds after reset and
every effect keeps it. -/
theorem step_keeps {P : State → Prop} (hreset : ∀ rest, P { State.reset with pending := rest })
    (hready : ∀ s rest dt, P s → P (s.readied rest dt)) (heffect : ∀ s t, P s → Effect s t → P t)
    {s t : State} (hs : P s) (h : Machine.step s = .next t) : P t := by
  rcases step_cases h with ⟨rest, rfl⟩ | ⟨rest, dt, he⟩
  · exact hreset rest
  · exact heffect _ _ (hready s rest dt hs) he

end Sys2Proof.Machine


/-! PROOFS. What each command can leave: the frames of SET, of APPLY and of the commands of the catalogue. -/

namespace Sys2Proof.Machine

/-! ### SET (R201) -/

/-- What a store of a setting by port `p` can change: staged copies, the part-wide settings that are no group, and
`p`'s own modes; a setting that FREEZE closes only where its index is one. -/
structure SetsOnly (p : Port) (closed : Bool) (s t : State) : Prop where
  rest : t = { s with
    intake := t.intake, detector := t.detector, presets := t.presets, pageSize := t.pageSize, autoClear := t.autoClear
    refiner := { s.refiner with groups := t.refiner.groups, mode := t.refiner.mode, aging := t.refiner.aging }
    grouper := { s.grouper with settings := t.grouper.settings }
    arbiter := { s.arbiter with policy := t.arbiter.policy }
    offers := t.offers, ports := t.ports, attention := t.attention }
  intake : ∀ sen, t.intake.get sen = { s.intake.get sen with
    correction := ⟨(t.intake.get sen).correction.staged, (s.intake.get sen).correction.active⟩ }
  detector : ∀ sen, t.detector.get sen = { s.detector.get sen with
    group := ⟨(t.detector.get sen).group.staged, (s.detector.get sen).group.active⟩ }
  refinement : ∀ sen, (t.refiner.groups.get sen).active = (s.refiner.groups.get sen).active
  grouping : t.grouper.settings.active = s.grouper.settings.active
  presets : t.presets.active = s.presets.active
  pageSize : t.pageSize.active = s.pageSize.active
  offers : ∀ q, (t.offers.get q).notices = (s.offers.get q).notices ∧ (t.offers.get q).mode = (s.offers.get q).mode
  attention : ∀ q, (t.attention.get q).pending = (s.attention.get q).pending
    ∧ (t.attention.get q).changedBy = (s.attention.get q).changedBy
  otherOffers : t.offers.get p.other = s.offers.get p.other
  otherPort : t.ports.get p.other = s.ports.get p.other
  otherAttention : t.attention.get p.other = s.attention.get p.other
  port : t.ports.get p = { s.ports.get p with timeout := (t.ports.get p).timeout, timer := (t.ports.get p).timer }
  timer : (t.ports.get p).timer.isSome = (s.attached p && decide ((t.ports.get p).timeout ≠ 0))
    ∨ t.ports.get p = s.ports.get p
  frozen : closed = false → SameFrozenSettings s t

/-- A setting that is port-local, or the auto-clear: the staged copies and the closed settings stay. -/
theorem SetsOnly.of_open {p : Port} {closed : Bool} {s t : State}
    (hr : t = { s with autoClear := t.autoClear, offers := t.offers, ports := t.ports, attention := t.attention })
    (ho : ∀ q, (t.offers.get q).notices = (s.offers.get q).notices ∧ (t.offers.get q).mode = (s.offers.get q).mode)
    (ha : ∀ q, (t.attention.get q).pending = (s.attention.get q).pending
      ∧ (t.attention.get q).changedBy = (s.attention.get q).changedBy)
    (hother : t.offers.get p.other = s.offers.get p.other ∧ t.ports.get p.other = s.ports.get p.other
      ∧ t.attention.get p.other = s.attention.get p.other)
    (hp : t.ports.get p = { s.ports.get p with timeout := (t.ports.get p).timeout, timer := (t.ports.get p).timer })
    (ht : (t.ports.get p).timer.isSome = (s.attached p && decide ((t.ports.get p).timeout ≠ 0))
      ∨ t.ports.get p = s.ports.get p) : SetsOnly p closed s t where
  rest := by rw [hr]
  intake _ := by rw [hr]
  detector _ := by rw [hr]
  refinement _ := by rw [hr]
  grouping := by rw [hr]
  presets := by rw [hr]
  pageSize := by rw [hr]
  offers := ho
  attention := ha
  otherOffers := hother.1
  otherPort := hother.2.1
  otherAttention := hother.2.2
  port := hp
  timer := ht
  frozen _ := by
    rw [hr]
    exact ⟨fun _ => ⟨rfl, rfl, rfl⟩, rfl, rfl, rfl, rfl, rfl, rfl⟩

/-- A closed setting of the whole part: no port and no list is concerned. -/
theorem SetsOnly.of_closed {p : Port} {s t : State}
    (hr : t = { s with
      intake := t.intake, detector := t.detector, presets := t.presets, pageSize := t.pageSize
      refiner := { s.refiner with groups := t.refiner.groups, mode := t.refiner.mode, aging := t.refiner.aging }
      grouper := { s.grouper with settings := t.grouper.settings }
      arbiter := { s.arbiter with policy := t.arbiter.policy } })
    (hi : ∀ sen, t.intake.get sen = { s.intake.get sen with
      correction := ⟨(t.intake.get sen).correction.staged, (s.intake.get sen).correction.active⟩ })
    (hd : ∀ sen, t.detector.get sen = { s.detector.get sen with
      group := ⟨(t.detector.get sen).group.staged, (s.detector.get sen).group.active⟩ })
    (hf : ∀ sen, (t.refiner.groups.get sen).active = (s.refiner.groups.get sen).active)
    (hg : t.grouper.settings.active = s.grouper.settings.active ∧ t.presets.active = s.presets.active
      ∧ t.pageSize.active = s.pageSize.active) : SetsOnly p true s t where
  rest := by rw [hr]
  intake := hi
  detector := hd
  refinement := hf
  grouping := hg.1
  presets := hg.2.1
  pageSize := hg.2.2
  offers _ := by rw [hr]; exact ⟨rfl, rfl⟩
  attention _ := by rw [hr]; exact ⟨rfl, rfl⟩
  otherOffers := by rw [hr]
  otherPort := by rw [hr]
  otherAttention := by rw [hr]
  port := by rw [hr]
  timer := by rw [hr]; exact .inr rfl
  frozen h := nomatch h

/-- A store of a port-local setting in the attention record of the port. -/
theorem State.modAttention_sets {s : State} {p : Port} {closed : Bool} {f : AttnRecord → AttnRecord}
    (hf : ∀ r, (f r).pending = r.pending ∧ (f r).changedBy = r.changedBy) :
    SetsOnly p closed s (s.modAttention p f) := by
  refine .of_open rfl (fun _ => ⟨rfl, rfl⟩) (fun q => ?_) ⟨rfl, rfl, by simp⟩ rfl (.inr rfl)
  rcases Port.eq_or_other p q with rfl | rfl
  · simpa using hf _
  · simp

/-- R201: what the store of an index can do. -/
theorem State.storeSetting_sets {s s' : State} {p : Port} {i : SettingIndex} {v v' : BitVec 32}
    (h : s.storeSetting p i v = some (s', v')) : SetsOnly p (frozenIndex i) s s' := by
  cases i <;> simp only [State.storeSetting, reduceCtorEq] at h
  case correction sen item =>
    simp only [State.storeCorrection, Option.map_eq_some_iff, Prod.mk.injEq] at h
    obtain ⟨g, -, rfl, -⟩ := h
    refine .of_closed rfl (fun j => ?_) (fun _ => rfl) (fun _ => rfl) ⟨rfl, rfl, rfl⟩
    by_cases hj : j = sen
    · subst hj
      simp
    · simp [PerSensor.get_set_ne _ _ hj]
  case detector sen ch item =>
    simp only [State.storeDetector, Option.some.injEq, Prod.mk.injEq] at h
    obtain ⟨rfl, -⟩ := h
    refine .of_closed rfl (fun _ => rfl) (fun j => ?_) (fun _ => rfl) ⟨rfl, rfl, rfl⟩
    by_cases hj : j = sen
    · subst hj
      simp
    · simp [PerSensor.get_set_ne _ _ hj]
  case refinement sen item =>
    simp only [State.storeRefinement, Option.some.injEq, Prod.mk.injEq] at h
    obtain ⟨rfl, -⟩ := h
    refine .of_closed rfl (fun _ => rfl) (fun _ => rfl) (fun j => ?_) ⟨rfl, rfl, rfl⟩
    by_cases hj : j = sen
    · subst hj
      simp
    · simp [PerSensor.get_set_ne _ _ hj]
  case grouping item =>
    simp only [State.storeGrouping, Option.some.injEq, Prod.mk.injEq] at h
    obtain ⟨rfl, -⟩ := h
    exact .of_closed rfl (fun _ => rfl) (fun _ => rfl) (fun _ => rfl) ⟨rfl, rfl, rfl⟩
  case preset k item =>
    simp only [State.storePreset, Option.map_eq_some_iff, Prod.mk.injEq] at h
    obtain ⟨g, -, rfl, -⟩ := h
    exact .of_closed rfl (fun _ => rfl) (fun _ => rfl) (fun _ => rfl) ⟨rfl, rfl, rfl⟩
  case pageSize =>
    simp only [State.storePageSize, Option.some.injEq, Prod.mk.injEq] at h
    obtain ⟨rfl, -⟩ := h
    exact .of_closed rfl (fun _ => rfl) (fun _ => rfl) (fun _ => rfl) ⟨rfl, rfl, rfl⟩
  case arbiterMode =>
    simp only [State.storeArbiterMode, Option.map_eq_some_iff, Prod.mk.injEq] at h
    obtain ⟨m, -, rfl, -⟩ := h
    exact .of_closed rfl (fun _ => rfl) (fun _ => rfl) (fun _ => rfl) ⟨rfl, rfl, rfl⟩
  case agingLimit =>
    simp only [State.storeAgingLimit, Option.some.injEq, Prod.mk.injEq] at h
    obtain ⟨rfl, -⟩ := h
    exact .of_closed rfl (fun _ => rfl) (fun _ => rfl) (fun _ => rfl) ⟨rfl, rfl, rfl⟩
  case ringReadPolicy =>
    simp only [State.storeRingReadPolicy, Option.map_eq_some_iff, Prod.mk.injEq] at h
    obtain ⟨m, -, rfl, -⟩ := h
    exact .of_closed rfl (fun _ => rfl) (fun _ => rfl) (fun _ => rfl) ⟨rfl, rfl, rfl⟩
  case intakeAutoClear =>
    simp only [State.storeIntakeAutoClear, Option.map_eq_some_iff, Prod.mk.injEq] at h
    obtain ⟨b, -, rfl, -⟩ := h
    exact .of_open rfl (fun _ => ⟨rfl, rfl⟩) (fun _ => ⟨rfl, rfl⟩) ⟨rfl, rfl, rfl⟩ rfl (.inr rfl)
  case mask =>
    simp only [State.storeMask, Option.map_eq_some_iff, Prod.mk.injEq] at h
    obtain ⟨m, -, rfl, -⟩ := h
    exact State.modAttention_sets fun _ => ⟨rfl, rfl⟩
  case lineMode =>
    simp only [State.storeLineMode, Option.map_eq_some_iff, Prod.mk.injEq] at h
    obtain ⟨m, -, rfl, -⟩ := h
    exact State.modAttention_sets fun _ => ⟨rfl, rfl⟩
  case clearMode =>
    simp only [State.storeClearMode, Option.map_eq_some_iff, Prod.mk.injEq] at h
    obtain ⟨m, -, rfl, -⟩ := h
    exact State.modAttention_sets fun _ => ⟨rfl, rfl⟩
  case silenceTimeout =>
    simp only [State.storeSilenceTimeout, Option.some.injEq, Prod.mk.injEq] at h
    obtain ⟨rfl, -⟩ := h
    refine .of_open rfl (fun _ => ⟨rfl, rfl⟩) (fun _ => ⟨rfl, rfl⟩) ⟨rfl, by simp, rfl⟩ (by simp) (.inl ?_)
    simp only [State.modPort_ports, PerPort.get_set]
    by_cases h0 : clampNat 0 255 v.toNat = 0 <;> cases s.attached p <;> simp [h0]
  case offerMode =>
    simp only [State.storeOfferMode, Option.map_eq_some_iff, Prod.mk.injEq] at h
    obtain ⟨m, -, rfl, -⟩ := h
    refine .of_open rfl (fun q => ?_) (fun _ => ⟨rfl, rfl⟩) ⟨by simp, rfl, rfl⟩ rfl (.inr rfl)
    rcases Port.eq_or_other p q with rfl | rfl <;> simp

/-- R201: the answer to a SET leaves the state, or stores and, where the index is shared, announces it (R199). -/
theorem State.answerSet_cases (s : State) (p : Port) (i : SettingIndex) (v : BitVec 32) :
    (s.answerSet p i (s.storeSetting p i v)).state = s
    ∨ ∃ s', SetsOnly p (frozenIndex i) s s' ∧ (s.frozen = true → frozenIndex i = false)
      ∧ (s.answerSet p i (s.storeSetting p i v)).state = if portLocal i then s' else s'.settingsChanged p := by
  unfold State.answerSet
  split
  · exact .inl rfl
  · rename_i s' v' hst
    split
    · exact .inl rfl
    · rename_i hf
      exact .inr ⟨s', State.storeSetting_sets hst, fun h => by simpa [h] using hf, rfl⟩

/-! ### APPLY (R204) -/

/-- R204: the answer to an APPLY leaves the state, or is the owner's, announced where the copies differed (R199). -/
theorem State.answerApply_cases (s : State) (p : Port) (same : Bool) (owner : State → State × Applied) :
    (s.answerApply p same owner).state = s
    ∨ s.frozen = false ∧ ((s.answerApply p same owner).state = (owner s).1
      ∨ (s.answerApply p same owner).state = (owner s).1.settingsChanged p) := by
  unfold State.answerApply
  split
  · exact .inl rfl
  · rename_i hf
    cases same
    · exact .inr ⟨by simpa using hf, .inr rfl⟩
    · exact .inr ⟨by simpa using hf, .inl rfl⟩

/-! ### The announcement of a shared setting (R199) -/

/-- R199: each port's changed-by set takes the writer, and the other port hears of it. -/
theorem settingsNews_get (now : Nat) (p : Port) (r : PerPort AttnRecord) :
    (settingsNews now p r).get p = (r.get p).addChangedBy p
      ∧ (settingsNews now p r).get p.other = ((r.get p.other).addChangedBy p).becomePending now .settingsChanged := by
  cases p <;> exact ⟨rfl, rfl⟩

/-- R199: a class that is pending stays so; SETTINGS_CHANGED joins at the other port. -/
theorem State.has_settingsChanged (s : State) (p q : Port) (c : AttnClass) :
    ClassSet.has ((s.settingsChanged p).attention.get q).pending c
      = (ClassSet.has (s.attention.get q).pending c || decide (q = p.other) && decide (c = .settingsChanged)) := by
  obtain ⟨hp, ho⟩ := settingsNews_get s.time.localTime p s.attention
  rcases Port.eq_or_other p q with rfl | rfl
  · simp [State.settingsChanged, hp, AttnRecord.addChangedBy, (Port.other_ne q).symm]
  · simp [State.settingsChanged, ho, AttnRecord.addChangedBy]

end Sys2Proof.Machine


/-! PROOFS. The frames of the other commands and of PICK_WRITE. -/

namespace Sys2Proof.Machine

/-! ### PICK_WRITE (R102) -/

/-- R102: the record enters the table after a read of the map, is handed on and its request leaves; then the refiner is
free, and what the groups' tests and the grant decision can do follows. -/
theorem State.writePick_frames (s : State) (w : Work) (q : RefineRequest) :
    ∃ u r v, MapReads s u ∧ r.id = firstFree (u.table.records.map (·.id)) (Config.tableCapacity + 1) u.table.nextId
      ∧ GrantsOnly (u.addRecord r) v ∧ v.refiner.work = none ∧ GrantsOnly v (s.writePick w q) := by
  let m := pickMath w.group q.channel (windowOf w q.trigger)
  let t := s.timeOf w.sensor m.onset
  let r := (t.1.newRecord w q (windowOf w q.trigger) m t.2).withInfo q.info
  let s1 := (t.1.addRecord r).handOnRecord r.id
  let s2 := s1.modQueue w.sensor List.tail
  refine ⟨t.1, r, { s2 with refiner := { s2.refiner with work := none } }, State.timeOf_mapReads _ _ _, ?_, ?_, rfl, ?_⟩
  · change (PickRecord.withInfo _ q.info).id = _
    cases q.info <;> rfl
  · have leaves : GrantsOnly s1 s2 := State.modQueue_grants fun l h => h.sublist (List.tail_sublist l)
    refine ((State.handOnRecord_reports _ r.id).toGrantsOnly.trans leaves).trans ?_
    exact State.refiner_grants rfl ⟨rfl, rfl, rfl⟩ (fun _ h => h) (fun _ h => h) (fun h => nomatch h) rfl
  · exact (State.testGroups_reports _).toGrantsOnly.trans (State.grantDecision_grants _ _)

/-- PICK_WRITE writes the pick of a BUSY refiner that has read to the read end, or does nothing. -/
theorem State.pickWrite_cases (s : State) :
    s.pickWrite = s ∨ ∃ w q, s.refiner.work = some w ∧ s.pickWrite = s.writePick w q := by
  unfold State.pickWrite
  split
  · exact .inl rfl
  · rename_i w hw
    split
    · exact .inl rfl
    · split
      · exact .inl rfl
      · exact .inr ⟨w, _, hw, rfl⟩

/-! ### Grants -/

/-- R183: a grant is nothing, or its reader's block with the grant recorded. -/
theorem State.grant_cases (s : State) :
    s.grant = s ∨ ∃ r, s.grantee = some r ∧ s.grant = State.readBlock { s with arbiter := s.arbiter.record r } r := by
  unfold State.grant
  split
  · rename_i r _ hr
    exact .inr ⟨r, hr, rfl⟩
  · exact .inl rfl

/-! ### Detaching and attaching (R159, R160) -/

/-- R160, the first steps: the list is emptied, the port is DETACHED, its chain is abandoned and no record stands for
it. -/
def State.withdrawn (s : State) (p : Port) : State :=
  (((s.setNotices p []).modOffers p fun o => { o with mode := none }).resetChain p).clearDeliveries p

theorem State.withdrawn_rest (s : State) (p : Port) : s.withdrawn p = { s with
    offers := (s.withdrawn p).offers, chains := (s.withdrawn p).chains, table := (s.withdrawn p).table
    attention := (s.withdrawn p).attention } := rfl

theorem State.withdrawn_offers (s : State) (p : Port) :
    (s.withdrawn p).offers = s.offers.set p { notices := [], mode := none, setting := (s.offers.get p).setting } := by
  simp [State.withdrawn, State.resetChain, State.clearDeliveries]

theorem State.withdrawn_chains (s : State) (p : Port) : (s.withdrawn p).chains = s.chains.set p .reset := rfl

theorem State.withdrawn_ids (s : State) (p : Port) :
    (s.withdrawn p).table.records.map (·.id) = s.table.records.map (·.id) := by
  simp [State.withdrawn, State.clearDeliveries, State.resetChain, Function.comp_def]

/-- What a detach leaves, of the state in which releases and grants have followed. -/
def State.silenced (s : State) (p : Port) : State :=
  (s.modAttention p AttnRecord.quieten).modPort p fun r => { r with timer := none }

/-- R160, R191: the port is withdrawn, what that releases goes, and the port falls silent. -/
theorem State.detachPort_frames (s : State) (p : Port) :
    ∃ u, GrantsOnly (s.withdrawn p) u ∧ s.detachPort p = u.silenced p :=
  ⟨_, ((State.releaseTests_reports _ _).toGrantsOnly.trans (State.settle_grants _ _)).trans
    (State.groupFreeTests_reports _).toGrantsOnly, rfl⟩

theorem State.answerDetach_cases (s : State) (p : Port) :
    (s.answerDetach p).state = s ∨ (s.answerDetach p).state = s.detachPort p := by
  unfold State.answerDetach
  split
  · exact .inr rfl
  · exact .inl rfl

theorem State.portSilence_cases (s : State) (p : Port) : s.portSilence p = s ∨ s.portSilence p = s.detachPort p := by
  unfold State.portSilence
  split
  · exact .inr rfl
  · exact .inl rfl

theorem State.attached_becomeAttached (s : State) (p : Port) : (s.becomeAttached p).attached p = true := by
  simp [State.becomeAttached, State.attached]

/-- R159, steps 2 and 3: the catch-up of an attached port is offering. -/
theorem State.catchUp_reports {s : State} {p : Port} (h : s.attached p = true) : ReportsOnly s (s.catchUp p) := by
  have picks := State.offerPicks_reports (s := s)
    ((s.table.records.filter (PickRecord.offeredAt (s.offers.get p).setting)).map (·.id)) h
  have groups : ∀ (l : List Nat) (u : State), u.attached p = true →
      ReportsOnly u (l.foldl (fun t g => t.appendNotice p (.groupDeclared g)) u) := by
    intro l
    induction l with
    | nil => exact fun u _ => .refl u
    | cons g rest ih =>
      intro u hu
      have h1 := State.appendNotice_reports (.groupDeclared g) hu
      exact h1.trans (ih _ ((h1.attached p).trans hu))
  exact picks.trans (groups _ _ ((picks.attached p).trans h))

theorem State.answerAttach_cases (s : State) (p : Port) :
    (s.answerAttach p).state = s
    ∨ s.attached p = false ∧ ReportsOnly (s.becomeAttached p) (s.answerAttach p).state := by
  unfold State.answerAttach
  split
  · exact .inl rfl
  · rename_i h
    exact .inr ⟨by simpa using h, State.catchUp_reports (s.attached_becomeAttached p)⟩

/-! ### Taking and retracting (R116, R156) -/

theorem State.tookNotice_reports (s : State) (p : Port) (n : Notice) : ReportsOnly s (s.tookNotice p n) := by
  have pick : ∀ id, ReportsOnly s (s.tookPick p id) := fun id => by
    unfold State.tookPick
    split
    · exact .refl s
    · exact (State.setDelivery_reports s _ _ _).trans (State.releaseTest_reports _ _)
  cases n with
  | pickNew id => exact pick id
  | pickFinal id => exact pick id
  | pickRetracted id _ => exact pick id
  | groupDeclared g => exact State.groupFreeTest_reports s g
  | groupClosed g => exact State.groupFreeTest_reports s g

/-- R156: a take leaves an empty list, or removes its oldest notice, and what that frees follows. -/
theorem State.answerTake_cases (s : State) (p : Port) :
    s.notices p = [] ∧ (s.answerTake p).state = s
    ∨ ∃ n rest, s.notices p = n :: rest ∧ GrantsOnly (s.setNotices p rest) (s.answerTake p).state := by
  unfold State.answerTake
  cases h : s.notices p with
  | nil => exact .inl ⟨rfl, rfl⟩
  | cons n rest =>
    exact .inr ⟨n, rest, rfl, (State.tookNotice_reports _ _ _).toGrantsOnly.trans (State.settle_grants _ _)⟩

/-- R116: a retraction leaves the state, or is of a record that stands. -/
theorem State.answerRetract_picks (s : State) (p : Port) (id : Nat) : PicksOnly s (s.answerRetract p id).state := by
  unfold State.answerRetract
  split
  · exact .refl s
  · split
    · exact .refl s
    · refine (State.modPick_picks (id := id) (f := PickRecord.retract p) fun _ => rfl).trans ?_
      exact ((State.handOnRetraction_reports _ _ _).toGrantsOnly.trans (State.settle_grants _ _)).toPicksOnly

/-! ### APPLY -/

theorem State.applyCorrection_works (s : State) (sen : Sensor) : WorksOn s (s.applyCorrection sen).1 := by
  unfold State.applyCorrection
  split
  · exact State.modIntake_works (f := fun r => { r with applyPending := true }) fun _ => rfl
  · exact State.copyCorrection_works s sen

theorem State.applyDetector_works (s : State) (sen : Sensor) : WorksOn s (s.applyDetector sen).1 := by
  unfold State.applyDetector
  split
  · exact State.modDetector_works (f := DetectorRecord.apply) fun _ => rfl
  · exact State.modDetector_works (f := fun d => { d with applyPending := true }) fun _ => rfl

theorem State.retestRequest_passOver (s : State) (sen : Sensor) (q : RefineRequest) :
    (s.retestRequest sen q).passOver = q.passOver := by
  unfold State.retestRequest
  split
  · exact State.readyIf_passOver s sen q
  · split
    · rfl
    · split <;> rfl
  · rfl

/-- R84: the refinement groups with the staged copy of one sensor made active. -/
def State.withRefinement (s : State) (sen : Sensor) : State :=
  { s with refiner := { s.refiner with
    groups := s.refiner.groups.set sen (.both (s.refiner.groups.get sen).staged) } }

/-- R84, R139: after the copy come the requests' tests, and what they and the groups' tests occasion. -/
theorem State.applyRefinement_grants (s : State) (sen : Sensor) :
    GrantsOnly (s.withRefinement sen) (s.applyRefinement sen).1 := by
  have h : GrantsOnly (s.withRefinement sen) (State.settle s ((s.withRefinement sen).modQueue sen fun l =>
      l.map ((s.withRefinement sen).retestRequest sen))) :=
    (State.mapQueue_grants fun q => State.retestRequest_passOver _ _ q).trans (State.settle_grants _ _)
  unfold State.applyRefinement
  dsimp only
  split
  · exact h
  · exact h.trans (State.retest_grants _)

/-! ### Commands of the Excerpt Engine -/

theorem elementsOf_length : ∀ {words : List ElementWords} {l : List Element}, elementsOf words = some l →
    l.length = words.length
  | [], _, h => by cases h; rfl
  | w :: rest, l, h => by
    unfold elementsOf at h
    split at h
    · rename_i e es _ hes
      cases h
      simp [elementsOf_length hes]
    · cases h

/-- R164: a list that is loaded holds 1 to 8 elements. -/
theorem loadedElements_length {count : Byte} {words : List ElementWords} {l : List Element}
    (h : loadedElements count words = some l) : 1 ≤ l.length ∧ l.length ≤ 8 := by
  unfold loadedElements at h
  split at h
  · rename_i hc
    obtain ⟨h1, h8, hl⟩ := hc
    rw [elementsOf_length h, hl]
    exact ⟨h1, h8⟩
  · cases h

theorem State.answerLoad_cases (s : State) (p : Port) (count : Byte) (words : List ElementWords) :
    (s.answerLoad p count words).state = s
    ∨ s.attached p = true ∧ ∃ l, l.length ≤ 8 ∧ (s.answerLoad p count words).state = s.modChain p fun _ => .loaded l := by
  unfold State.answerLoad
  split
  · exact .inl rfl
  · rename_i ha
    split
    · exact .inl rfl
    · split
      · exact .inl rfl
      · rename_i l hl
        exact .inr ⟨by simpa using ha, l, (loadedElements_length hl).2, rfl⟩

/-- R176: a pause leaves the chain, or sets its pause point and ends its wait. -/
theorem State.answerPause_cases (s : State) (p : Port) :
    (s.answerPause p).state = s
    ∨ ((s.chain p).state = .running ∨ (s.chain p).state = .waiting)
      ∧ ∃ point, (s.answerPause p).state = s.modChain p (Chain.pausedAt point) := by
  unfold State.answerPause
  split
  · rename_i h
    exact .inr ⟨.inl h, _, rfl⟩
  · rename_i h _
    exact .inr ⟨.inr h, _, rfl⟩
  · rename_i h _
    exact .inr ⟨.inr h, _, rfl⟩
  · exact .inl rfl
  · exact .inl rfl

/-- R181: a read leaves the chain, or drops what it answers from a buffer that is not empty. -/
theorem State.answerRead_cases (s : State) (p : Port) (maximum : Nat) :
    (s.answerRead p maximum).state = s
    ∨ (s.chain p).buffer ≠ [] ∧ ∃ k, (s.answerRead p maximum).state
        = s.modChain p fun c => { c with buffer := c.buffer.drop k } := by
  unfold State.answerRead
  split
  · exact .inl rfl
  · split
    · exact .inl rfl
    · rename_i x rest h
      exact .inr ⟨by simp [h], _, rfl⟩

/-! ### The station ports -/

theorem State.answerAttnDone_cases (s : State) (p : Port) (classes : Nat) :
    (s.answerAttnDone p classes).state = s
    ∨ ∃ c, (s.answerAttnDone p classes).state = s.modAttention p (AttnRecord.clearLatched c) := by
  unfold State.answerAttnDone
  split
  · exact .inl rfl
  · exact .inr ⟨_, rfl⟩

theorem AttnRecord.read_cases (r : AttnRecord) : r.read = r ∨ r.read = r.clearLatched r.pending := by
  unfold AttnRecord.read
  cases r.clearMode
  · exact .inl rfl
  · exact .inr rfl

/-- R188: a COMMAND transaction changes the port's slot or its reject mark. -/
theorem State.takeCommand_port (s : State) (p : Port) (message : List Byte) :
    ∃ slot reject, s.takeCommand p message = s.modPort p fun r => { r with slot := slot, reject := reject } := by
  have keep : ∀ slot : Slot, (s.modPort p fun r => { r with slot := slot })
      = s.modPort p fun r => { r with slot := slot, reject := (s.ports.get p).reject } := fun _ => rfl
  unfold State.takeCommand
  split
  · unfold State.examine
    split
    · exact ⟨_, _, keep _⟩
    · split
      · exact ⟨_, _, keep _⟩
      · split
        · exact ⟨_, _, keep _⟩
        · exact ⟨_, _, keep _⟩
  · exact ⟨(s.ports.get p).slot, true, rfl⟩

/-- R190: so does a RESPONSE transaction. -/
theorem State.takeResponse_port (s : State) (p : Port) (clocked : Nat) :
    ∃ slot reject, s.takeResponse p clocked = s.modPort p fun r => { r with slot := slot, reject := reject } := by
  have keep : s = s.modPort p fun r => { r with slot := (s.ports.get p).slot, reject := (s.ports.get p).reject } := by
    change s = { s with ports := s.ports.set p (s.ports.get p) }
    rw [PerPort.set_get]
  unfold State.takeResponse
  split
  · split
    · exact ⟨.idle, false, rfl⟩
    · exact ⟨_, _, keep⟩
  · exact ⟨_, _, keep⟩

theorem State.modPort_modPort (s : State) (p : Port) (f g : PortRecord → PortRecord) :
    (s.modPort p f).modPort p g = s.modPort p fun r => g (f r) := by
  simp [State.modPort]

/-- R187 to R191: what a transaction leaves of its port's record; nothing else changes. -/
def State.transacted (s : State) (p : Port) (slot : Slot) (reject : Bool) (sent : List Byte) : State :=
  s.modPort p fun r =>
    { r with slot := slot, reject := reject, sent := sent, timer := r.timer.map fun _ => s.time.localTime }

theorem State.takeCommand_transacted (s : State) (p : Port) (message sent : List Byte) :
    ∃ slot reject, (s.takeCommand p message).endTransaction p sent = s.transacted p slot reject sent := by
  obtain ⟨slot, reject, h⟩ := s.takeCommand_port p message
  exact ⟨slot, reject, by rw [h, State.endTransaction, State.modPort_modPort]; rfl⟩

theorem State.takeResponse_transacted (s : State) (p : Port) (clocked : Nat) (sent : List Byte) :
    ∃ slot reject, (s.takeResponse p clocked).endTransaction p sent = s.transacted p slot reject sent := by
  obtain ⟨slot, reject, h⟩ := s.takeResponse_port p clocked
  exact ⟨slot, reject, by rw [h, State.endTransaction, State.modPort_modPort]; rfl⟩

theorem State.endTransaction_transacted (s : State) (p : Port) (sent : List Byte) :
    ∃ slot reject, s.endTransaction p sent = s.transacted p slot reject sent :=
  ⟨(s.ports.get p).slot, (s.ports.get p).reject, rfl⟩

end Sys2Proof.Machine


/-! PROOFS. The Timebase's events as one frame, and the invariant of R150. -/

namespace Sys2Proof.Machine

/-! ### The events of the Timebase -/

/-- Nothing but the time and the attention records changes, and those by no more than a TIME_FAULT. -/
structure TimeEvent (s t : State) : Prop where
  rest : t = { s with time := t.time, attention := t.attention }
  attention : t.attention = s.attention
    ∨ t.attention = s.attention.map (AttnRecord.becomePending s.time.localTime .timeFault)

theorem TimeEvent.refl (s : State) : TimeEvent s s := ⟨rfl, .inl rfl⟩

theorem State.timeLink_event (s : State) (chars : List TimedChar) : TimeEvent s (s.timeLink chars) := by
  have h := s.timeLink_times chars
  refine ⟨h.rest, ?_⟩
  rcases h.lost with ⟨-, -, ha⟩ | ⟨-, -, -, ha⟩
  · exact .inl ha
  · exact .inr ha

theorem State.messageExpiry_event (s : State) : TimeEvent s s.messageExpiry := by
  unfold State.messageExpiry
  split
  · exact ⟨rfl, .inl rfl⟩
  · exact .refl s

theorem State.validMark_event (s : State) (seconds : Nat) : TimeEvent s (s.validMark seconds) := by
  unfold State.validMark
  dsimp only
  split
  · exact ⟨rfl, .inl rfl⟩
  · split
    · exact ⟨rfl, .inr rfl⟩
    · exact ⟨rfl, .inl rfl⟩

theorem State.mark_event (s : State) : TimeEvent s s.mark := by
  unfold State.mark
  split
  · split
    · exact s.validMark_event _
    · exact ⟨rfl, .inl rfl⟩
  · exact ⟨rfl, .inl rfl⟩

theorem State.markLoss_event (s : State) : TimeEvent s s.markLoss := by
  unfold State.markLoss
  split
  · exact ⟨rfl, .inr rfl⟩
  · exact .refl s

/-! ### OFFER follows the lists (R150) -/

/-- The lists and OFFER are all that the invariant sees. -/
theorem OfferInv.congr {s t : State} (h : OfferInv s) (hl : ∀ p, t.notices p = s.notices p)
    (ha : ∀ p, ClassSet.has (t.attention.get p).pending .offer = ClassSet.has (s.attention.get p).pending .offer) :
    OfferInv t := fun p => by
  rw [ha, hl]
  exact h p

/-- A latched class that is raised at both ports does not touch OFFER. -/
theorem OfferInv.of_raised {s t : State} {now : Nat} {c : AttnClass} (hc : c ≠ .offer) (ho : t.offers = s.offers)
    (ha : t.attention = s.attention ∨ t.attention = s.attention.map (AttnRecord.becomePending now c))
    (h : OfferInv s) : OfferInv t := by
  refine h.congr (fun p => by simp only [State.notices, ho]) fun p => ?_
  rcases ha with ha | ha
  · rw [ha]
  · simp [ha, Ne.symm hc]

theorem TimeEvent.offer {s t : State} (k : TimeEvent s t) (h : OfferInv s) : OfferInv t :=
  h.of_raised (c := .timeFault) (by decide) (by rw [k.rest]) k.attention

theorem MapReads.offerInv {s t : State} (k : MapReads s t) (h : OfferInv s) : OfferInv t :=
  h.of_raised (c := .mapFault) (by decide) (by rw [k.rest]) k.attention

theorem ChainOnly.offerInv {p : Port} {s t : State} (k : ChainOnly p s t) (h : OfferInv s) : OfferInv t := by
  refine h.congr (fun q => by rw [k.rest]; rfl) fun q => ?_
  rcases Port.eq_or_other p q with rfl | rfl
  · exact k.offer
  · exact k.offer_other

theorem SetsOnly.offerInv {p : Port} {closed : Bool} {s t : State} (k : SetsOnly p closed s t) (h : OfferInv s) :
    OfferInv t :=
  h.congr (fun q => (k.offers q).1) fun q => by rw [(k.attention q).1]

theorem OfferInv.settingsChanged {s : State} (h : OfferInv s) (p : Port) : OfferInv (s.settingsChanged p) :=
  h.congr (fun _ => rfl) fun q => by
    rw [State.has_settingsChanged]
    simp

theorem OfferInv.setNotices {s : State} (h : OfferInv s) (p : Port) (l : List Notice) : OfferInv (s.setNotices p l) := by
  intro q
  rcases Port.eq_or_other p q with rfl | rfl
  · simpa [State.notices] using AttnRecord.offer_offerNews (h q)
  · simpa [State.notices] using h p.other

theorem OfferInv.withdrawn {s : State} (h : OfferInv s) (p : Port) : OfferInv (s.withdrawn p) := by
  refine (h.setNotices p []).congr (fun q => ?_) fun _ => rfl
  rcases Port.eq_or_other p q with rfl | rfl <;> simp [State.notices, State.withdrawn_offers]

/-- A port whose list is empty falls silent. -/
theorem OfferInv.silenced {s : State} {p : Port} (h : OfferInv s) (hp : s.notices p = []) : OfferInv (s.silenced p) := by
  intro q
  rcases Port.eq_or_other p q with rfl | rfl
  · have : (s.silenced q).notices q = [] := hp
    rw [this]
    simp [State.silenced, AttnRecord.quieten]
  · have : (s.silenced p).notices p.other = s.notices p.other := rfl
    rw [this, ← h p.other]
    simp [State.silenced]

/-- What is withdrawn stays so: the port is DETACHED, and nothing is offered to it. -/
theorem GrantsOnly.notices_withdrawn {s u : State} {p : Port} (h : GrantsOnly (s.withdrawn p) u) :
    u.attached p = false ∧ u.notices p = [] := by
  have hd : (s.withdrawn p).attached p = false := by simp [State.attached, State.withdrawn_offers]
  refine ⟨(h.attached p).trans hd, (h.detached p hd).trans ?_⟩
  simp [State.notices, State.withdrawn_offers]

theorem OfferInv.detachPort {s : State} (h : OfferInv s) (p : Port) : OfferInv (s.detachPort p) := by
  obtain ⟨u, hu, he⟩ := s.detachPort_frames p
  rw [he]
  exact (hu.offer (h.withdrawn p)).silenced hu.notices_withdrawn.2

/-- A change of attention records that keeps OFFER. -/
theorem OfferInv.modAttention {s : State} {p : Port} {f : AttnRecord → AttnRecord} (h : OfferInv s)
    (hf : ∀ r, ClassSet.has (f r).pending .offer = ClassSet.has r.pending .offer) : OfferInv (s.modAttention p f) := by
  refine h.congr (fun _ => rfl) fun q => ?_
  rcases Port.eq_or_other p q with rfl | rfl <;> simp [hf]

theorem OfferInv.answerApply {s : State} {p : Port} {same : Bool} {owner : State → State × Applied} (h : OfferInv s)
    (ho : OfferInv (owner s).1) : OfferInv (s.answerApply p same owner).state := by
  rcases s.answerApply_cases p same owner with e | ⟨-, e | e⟩ <;> rw [e]
  · exact h
  · exact ho
  · exact ho.settingsChanged p

theorem OfferInv.softReset (s : State) (p : Port) : OfferInv (s.softReset p) := by
  intro q
  simp [State.softReset, State.notices, OfferRecord.softReset, AttnRecord.quieten]

theorem OfferInv.owned {s : State} {p : Port} {r : Request} {a : Answer} (h : OfferInv s) (ha : Owned p s r a) :
    OfferInv a.state := by
  cases ha with
  | attach =>
    rcases s.answerAttach_cases p with e | ⟨-, k⟩
    · rwa [e]
    · refine k.offer (h.congr (fun q => ?_) fun _ => rfl)
      rcases Port.eq_or_other p q with rfl | rfl <;> simp [State.becomeAttached, State.notices]
  | detach =>
    rcases s.answerDetach_cases p with e | e <;> rw [e]
    · exact h
    · exact h.detachPort p
  | status =>
    refine h.modAttention fun r => ?_
    rcases r.read_cases with e | e <;> simp [e]
  | take =>
    rcases s.answerTake_cases p with ⟨-, e⟩ | ⟨n, rest, -, k⟩
    · rwa [e]
    · exact k.offer (h.setNotices p rest)
  | readPick id => unfold State.answerReadPick; split <;> exact h
  | readGroup id => unfold State.answerReadGroup; split <;> exact h
  | retract id => exact (s.answerRetract_picks p id.toNat).offer h
  | setUnknown w v => exact h
  | set w v i =>
    rcases s.answerSet_cases p i v with e | ⟨s', k, -, e⟩ <;> rw [e]
    · exact h
    · split
      · exact k.offerInv h
      · exact (k.offerInv h).settingsChanged p
  | getUnknown w => exact h
  | get w i =>
    change OfferInv (s.afterGet i)
    unfold State.afterGet State.readIntake
    split <;> try split
    all_goals exact h
  | applyCorrection _ _ sen => exact h.answerApply ((s.applyCorrection_works sen).offer h)
  | applyDetector _ _ sen => exact h.answerApply ((s.applyDetector_works sen).offer h)
  | applyRefinement _ _ sen => exact h.answerApply ((s.applyRefinement_grants sen).offer h)
  | applyGrouping => exact h.answerApply h
  | applyPresets => exact h.answerApply h
  | freeze => unfold State.answerFreeze; split <;> exact h
  | loadChain count words =>
    rcases s.answerLoad_cases p count words with e | ⟨-, l, -, e⟩ <;> rw [e] <;> exact h
  | startChain => exact (s.answerStart_keeps p).offerInv h
  | pauseChain => rcases s.answerPause_cases p with e | ⟨-, point, e⟩ <;> rw [e] <;> exact h
  | resetChain => exact h
  | readExcerpt maximum => rcases s.answerRead_cases p maximum.toNat with e | ⟨-, k, e⟩ <;> rw [e] <;> exact h
  | attnDone classes =>
    rcases s.answerAttnDone_cases p classes.toNat with e | ⟨c, e⟩ <;> rw [e]
    · exact h
    · exact h.modAttention fun r => AttnRecord.offer_clearLatched c r
  | softReset => exact .softReset s p

theorem OfferInv.effect {s t : State} (h : OfferInv s) (he : Effect s t) : OfferInv t := by
  cases he with
  | idle => exact h
  | frame bytes =>
    cases hf : parseFrame bytes with
    | none => unfold State.frame; rw [hf]; exact h
    | some f => exact (State.frame_works hf).offer h
  | frameSilence sen => exact (s.frameSilence_works sen).offer h
  | grant =>
    rcases s.grant_cases with e | ⟨r, -, e⟩ <;> rw [e]
    · exact h
    · cases r with
      | refiner => exact (State.refinerBlock_grants _).offer h
      | chain p => exact (State.chainBlock_only _ p).offerInv h
  | pickWrite =>
    rcases s.pickWrite_cases with e | ⟨w, q, -, e⟩ <;> rw [e]
    · exact h
    · obtain ⟨u, r, v, hu, -, hv, -, ht⟩ := s.writePick_frames w q
      exact ht.offer (hv.offer (hu.offerInv h))
  | waitTimeout p kind => exact (s.waitTimeout_keeps p kind).offerInv h
  | timeLink chars => exact (s.timeLink_event chars).offer h
  | messageExpiry => exact s.messageExpiry_event.offer h
  | mark => exact s.mark_event.offer h
  | markLoss => exact s.markLoss_event.offer h
  | takeCommand p message sent =>
    obtain ⟨_, _, e⟩ := s.takeCommand_transacted p message sent
    rw [e]; exact h
  | takeResponse p clocked sent =>
    obtain ⟨_, _, e⟩ := s.takeResponse_transacted p clocked sent
    rw [e]; exact h
  | ignored p sent => exact h
  | portSilence p =>
    rcases s.portSilence_cases p with e | e <;> rw [e]
    · exact h
    · exact h.detachPort p
  | endPulse p =>
    refine h.modAttention fun r => ?_
    split <;> rfl
  | command p r a ha => exact h.owned ha

theorem OfferInv.reset : OfferInv State.reset := fun p => by cases p <;> decide

/-- Settles O51: every effect keeps the invariant, each through the frame of its operation. -/
theorem offerTracksList : Obligations.OfferTracksList := fun _ _ hs hstep =>
  step_keeps (P := OfferInv) (fun _ => OfferInv.reset) (fun _ _ _ h => h) (fun _ _ h he => h.effect he) hs hstep

end Sys2Proof.Machine


/-! PROOFS. What the reports of a stored set and the Detector's handling of it leave besides `WorksOn`: `Follows`. -/

namespace Sys2Proof.Machine

/-! ### Ranges -/

/-- What the handling of a set `x` leaves of a channel's record: ranges and counts that held. -/
structure ChannelRecord.Moves (x : SampleSet) (c d : ChannelRecord) : Prop where
  lost : c.lostTriggers ≤ 65535 → d.lostTriggers ≤ 65535
  range : x.inRange → c.inRange → d.inRange

theorem ChannelRecord.Moves.refl (x : SampleSet) (c : ChannelRecord) : c.Moves x c := ⟨id, fun _ => id⟩

theorem ChannelRecord.Moves.trans {x : SampleSet} {c d e : ChannelRecord} (h : c.Moves x d) (k : d.Moves x e) :
    c.Moves x e :=
  ⟨fun hc => k.lost (h.lost hc), fun hx hc => k.range hx (h.range hx hc)⟩

/-- A change of state, count and episode alone. -/
theorem ChannelRecord.Moves.of_rest {x : SampleSet} {c d : ChannelRecord}
    (h : d = { c with state := d.state, count := d.count, episode := d.episode }) : c.Moves x d := by
  rw [h]
  exact ⟨id, fun _ => id⟩

theorem ChannelRecord.enterWarmup_moves (x : SampleSet) (c : ChannelRecord) : c.Moves x c.enterWarmup :=
  ⟨id, fun _ h => ⟨Nat.zero_le _, Nat.zero_le _, h.2.2.1, fun _ _ _ e => nomatch e⟩⟩

/-- R58, R59: an average stays between itself and the energy. -/
theorem average_le_max (k avg e : Nat) : average k avg e ≤ max avg e := by
  have hpos : (0 : Int) < ((2 ^ k : Nat) : Int) := by positivity
  have hle : ((e : Int) - (avg : Int)) / ((2 ^ k : Nat) : Int) ≤ max 0 ((e : Int) - (avg : Int)) := by
    rcases le_total 0 ((e : Int) - (avg : Int)) with h | h
    · exact (Int.ediv_le_self _ h).trans (le_max_right _ _)
    · exact (Int.ediv_nonpos_of_nonpos_of_neg h hpos).trans (le_max_left _ _)
  unfold average
  omega

/-- The difference of two samples in range is at most 16,777,214. -/
theorem natAbs_sub_le_of_inSampleRange {a b : Int} (ha : inSampleRange a) (hb : inSampleRange b) :
    (a - b).natAbs ≤ 16777214 := by
  obtain ⟨ha1, ha2⟩ := ha
  obtain ⟨hb1, hb2⟩ := hb
  simp only [Config.sampleMax] at ha1 ha2 hb1 hb2
  omega

/-- R55 to R57: the energy of a set in range on a channel in range. -/
theorem ChannelRecord.energy_le {x : SampleSet} {c : ChannelRecord} (hx : x.inRange) (hc : c.inRange) (ch : Channel) :
    energyOf ch (c.difference x) ≤ energyMax := by
  obtain ⟨-, -, -, hprev⟩ := hc
  unfold ChannelRecord.difference
  split
  · cases ch <;> decide
  · rename_i z n e hp
    obtain ⟨hz, hn, he⟩ := hprev z n e hp
    cases ch
    · exact energyOf_p_le_energyMax _ _ (natAbs_sub_le_of_inSampleRange hx.1 hz)
    · exact energyOf_s_le_energyMax _ (natAbs_sub_le_of_inSampleRange hx.2.1 hn)
        (natAbs_sub_le_of_inSampleRange hx.2.2 he)

theorem ChannelRecord.signal_moves (g : ChannelSettings) (ch : Channel) (x : SampleSet) (c : ChannelRecord) :
    c.Moves x (c.signal g ch x) := by
  refine ⟨id, fun hx hc => ?_⟩
  have he := ChannelRecord.energy_le hx hc ch
  have havg : ∀ k avg, avg ≤ energyMax → average k avg (energyOf ch (c.difference x)) ≤ energyMax := fun k avg h =>
    (average_le_max _ _ _).trans (max_le h he)
  refine ⟨havg _ _ hc.1, ?_, min_le_right _ _, fun z n e h => ?_⟩
  · unfold ChannelRecord.signal
    dsimp only
    split
    · exact hc.2.1
    · exact havg _ _ hc.2.1
  · cases h
    exact hx

/-! ### The frame -/

/-- What follows the store of a set `x` of a sensor, and a GAP: the intake records and the other sensors' channels stay,
the rings change by reads of their maps alone, and a chain that is at no element stays. -/
structure Follows (sen : Sensor) (x : SampleSet) (s t : State) : Prop where
  works : WorksOn s t
  intake : t.intake = s.intake
  ring : ∀ i, (s.ring.get i).MapReads (t.ring.get i)
  others : ∀ i, i ≠ sen → t.detector.get i = s.detector.get i
  channel : ∀ ch, (s.channel sen ch).Moves x (t.channel sen ch)
  idle : ∀ p, (s.chain p).plan = none → t.chain p = s.chain p

theorem Follows.refl (sen : Sensor) (x : SampleSet) (s : State) : Follows sen x s s :=
  ⟨.refl s, rfl, fun _ => .refl _, fun _ _ => rfl, fun _ => .refl x _, fun _ _ => rfl⟩

theorem Follows.trans {sen : Sensor} {x : SampleSet} {s t u : State} (h : Follows sen x s t) (k : Follows sen x t u) :
    Follows sen x s u where
  works := h.works.trans k.works
  intake := k.intake.trans h.intake
  ring i := (h.ring i).trans (k.ring i)
  others i hi := (k.others i hi).trans (h.others i hi)
  channel ch := (h.channel ch).trans (k.channel ch)
  idle p hp := by
    have e := h.idle p hp
    rw [k.idle p (by rw [e]; exact hp), e]

theorem PicksOnly.follows {s t : State} (h : PicksOnly s t) (sen : Sensor) (x : SampleSet) : Follows sen x s t := by
  refine ⟨h.works, ?_, fun _ => ?_, fun _ _ => ?_, fun _ => ?_, fun _ _ => ?_⟩ <;> rw [h.rest]
  · exact .refl _
  · exact .refl x _
  · rfl

theorem GrantsOnly.follows {s t : State} (h : GrantsOnly s t) (sen : Sensor) (x : SampleSet) : Follows sen x s t :=
  h.toPicksOnly.follows sen x

/-- R40: a chain at no element hears no report. -/
theorem State.chainReport_follows (s : State) (i : Sensor) (p : Port) (sen : Sensor) (x : SampleSet) :
    Follows sen x s (s.chainReport i p) := by
  have h := s.chainReport_keeps i p
  refine ⟨h.works, by rw [h.rest], h.ring, fun _ _ => by rw [h.rest], fun _ => by rw [h.rest]; exact .refl x _,
    fun q hq => ?_⟩
  rcases Port.eq_or_other p q with rfl | rfl
  · unfold State.chainReport
    rw [if_neg (by simp [Chain.sensor, hq])]
  · exact h.other

theorem State.modDetector_follows {s : State} {sen : Sensor} {x : SampleSet} {f : DetectorRecord → DetectorRecord}
    (hg : ∀ d, (f d).group.staged = d.group.staged)
    (hc : ∀ d : DetectorRecord, ∀ ch, (d.channels.get ch).Moves x ((f d).channels.get ch)) :
    Follows sen x s (s.modDetector sen f) := by
  refine ⟨State.modDetector_works hg, rfl, fun _ => .refl _, fun i hi => ?_, fun ch => ?_, fun _ _ => rfl⟩
  · simp [PerSensor.get_set_ne _ _ hi]
  · simpa [State.channel] using hc _ ch

theorem State.modChannel_follows {s : State} {sen : Sensor} {ch : Channel} {x : SampleSet}
    {f : ChannelRecord → ChannelRecord} (hf : ∀ c : ChannelRecord, c.Moves x (f c)) :
    Follows sen x s (s.modChannel sen ch f) := by
  refine State.modDetector_follows (fun _ => rfl) fun d ch' => ?_
  by_cases h : ch' = ch
  · subst h
    simpa using hf _
  · simpa [PerChannel.get_set_ne _ _ h] using ChannelRecord.Moves.refl x _

theorem State.endEpisodes_follows {s : State} {sen : Sensor} {x : SampleSet} {f : ChannelRecord → ChannelRecord}
    (hf : ∀ c : ChannelRecord, c.Moves x (f c)) : Follows sen x s (s.endEpisodes sen f) := by
  unfold State.endEpisodes
  refine Follows.trans (Follows.trans ?_ ((State.handOnBlind_picks _ _ _ _).follows sen x))
    ((State.handOnBlind_picks _ _ _ _).follows sen x)
  exact State.modDetector_follows (fun _ => rfl) fun d ch => by simpa using hf _

/-! ### The Detector -/

theorem State.detectorGap_follows (s : State) (sen : Sensor) (x : SampleSet) :
    Follows sen x s (s.detectorGap sen) := by
  unfold State.detectorGap
  split
  · exact .refl sen x s
  · exact (State.endEpisodes_follows fun c => .of_rest rfl).trans ((State.retest_grants _).follows sen x)

theorem State.trigger_follows (s : State) (sen : Sensor) (ch : Channel) (n localTime : Nat) (x : SampleSet) :
    Follows sen x s (s.trigger sen ch n localTime) := by
  unfold State.trigger
  refine ((State.postRequest_grants s sen ch n localTime).follows sen x).trans (State.modChannel_follows fun c => ?_)
  refine ⟨fun h => ?_, fun _ h => h⟩
  dsimp only
  split
  · exact h
  · exact bump_le _

theorem State.episodeSet_follows (s : State) (sen : Sensor) (ch : Channel) (n : Nat) (e : Episode) (x : SampleSet) :
    Follows sen x s (s.episodeSet sen ch n e) := by
  unfold State.episodeSet
  dsimp only
  split
  · exact State.modChannel_follows fun c => .of_rest rfl
  · exact ((State.handOnEpisode_picks _ _ _ _ _ _).follows sen x).trans
      (State.modChannel_follows fun c => .of_rest rfl)

theorem State.evaluate_follows (s : State) (sen : Sensor) (ch : Channel) (suspended : Bool) (n localTime : Nat)
    (x : SampleSet) : Follows sen x s (s.evaluate sen ch suspended n localTime) := by
  unfold State.evaluate
  dsimp only
  split
  · exact State.modChannel_follows fun c => .of_rest rfl
  · split
    · exact State.trigger_follows s _ _ _ _ x
    · exact .refl sen x s
  · split
    · exact State.episodeSet_follows s _ _ _ _ x
    · exact .refl sen x s
  · exact State.modChannel_follows fun c => .of_rest rfl
  · exact .refl sen x s

theorem DetectorRecord.apply_moves (x : SampleSet) (d : DetectorRecord) (ch : Channel) :
    (d.channels.get ch).Moves x (d.apply.channels.get ch) := by
  unfold DetectorRecord.apply
  dsimp only
  split
  · simpa using ChannelRecord.enterWarmup_moves x _
  · exact .refl x _

/-- R54: what the handling of a set leaves. -/
theorem State.detectorSet_follows (s : State) (sen : Sensor) (x : SampleSet) (start : Bool) :
    Follows sen x s (s.detectorSet sen x start) := by
  have starts : Follows sen x s (s.detectorStart sen start) := by
    unfold State.detectorStart
    split
    · exact State.endEpisodes_follows fun c => c.enterWarmup_moves x
    · exact .refl sen x s
  have applies : ∀ u : State, Follows sen x u
      (if (u.detector.get sen).appliesNow then u.modDetector sen DetectorRecord.apply else u) := fun u => by
    split
    · exact State.modDetector_follows (fun _ => rfl) fun d ch => d.apply_moves x ch
    · exact .refl sen x u
  unfold State.detectorSet
  refine Follows.trans ?_ (State.evaluate_follows _ _ _ _ _ _ x)
  refine Follows.trans ?_ (State.evaluate_follows _ _ _ _ _ _ x)
  refine (starts.trans (applies _)).trans (State.modDetector_follows (fun _ => rfl) fun d ch => ?_)
  simpa using ChannelRecord.signal_moves _ ch x _

/-! ### Handing on a set, and a GAP -/

theorem State.ringReport_follows (s : State) (i : Sensor) (raised : Bool) (sen : Sensor) (x : SampleSet) :
    Follows sen x s (s.ringReport i raised) := by
  unfold State.ringReport State.excerptReport
  exact ((((State.refinerReport_picks s i raised).follows sen x).trans ((State.retest_grants _).follows sen x)).trans
    (State.chainReport_follows _ _ _ sen x)).trans (State.chainReport_follows _ _ _ sen x)

/-- R4: after the ring has stored a set, what its reports and the Detector do follows. -/
theorem State.handOn_follows (s : State) (sen : Sensor) (set : SampleSet) (start : Bool) (arrival : Nat) :
    Follows sen set (s.storeSet sen set start arrival) (s.handOn sen set start arrival) := by
  unfold State.handOn
  exact (State.ringReport_follows _ _ _ sen set).trans (State.detectorSet_follows _ _ _ _)

/-- R11: the state in which a GAP has been announced to the ring, the Detector and the refiner. -/
def State.announcedGap (s : State) (sen : Sensor) : State :=
  State.settle ((s.closePageShort sen).detectorGap sen) (((s.closePageShort sen).detectorGap sen).refinerGap sen)

theorem State.declareGap_eq (s : State) (sen : Sensor) (flag : Bool) :
    s.declareGap sen flag
      = (if flag then (s.announcedGap sen).setIntakeFlag sen .gap else s.announcedGap sen).modIntake sen .enterGap := rfl

theorem State.announcedGap_follows (s : State) (sen : Sensor) (x : SampleSet) :
    Follows sen x (s.closePageShort sen) (s.announcedGap sen) :=
  ((State.detectorGap_follows _ sen x).trans ((State.refinerGap_picks _ sen).follows sen x)).trans
    ((State.settle_grants _ _).follows sen x)

/-! ### Frames, rule by rule -/

/-- R9: what a bad frame in RUNNING counts. -/
def IntakeRecord.countBad (now : Nat) (r : IntakeRecord) : IntakeRecord :=
  { r with consecutiveBad := r.consecutiveBad + 1, consecutiveGood := 0, silenceTimer := some now }

/-- R2: what a frame of an OFF sensor counts. -/
def IntakeRecord.countOff (r : IntakeRecord) : IntakeRecord := { r with offFrames := bump r.offFrames }

/-- The expected sequence number moves on. -/
def IntakeRecord.expectNext (r : IntakeRecord) : IntakeRecord := { r with expected := r.expected.map (· + 1#8) }

/-- One step of Sample Intake, as the rules of chapter 1 name them. -/
inductive IntakeStep (s : State) : State → Prop
  | off (sen : Sensor) : IntakeStep s (s.modIntake sen .countOff)
  | flag (sen : Sensor) (f : IntakeFlag) : IntakeStep s (s.setIntakeFlag sen f)
  | bad (sen : Sensor) (now : Nat) (h : (s.intake.get sen).consecutiveBad + 1 < Config.badLimit) :
      IntakeStep s ((s.modIntake sen (.countBad now)).setIntakeFlag sen .parity)
  | badGap (sen : Sensor) (now : Nat) (h : (s.intake.get sen).state ≠ .off) :
      IntakeStep s (((s.modIntake sen (.countBad now)).setIntakeFlag sen .parity).declareGap sen true)
  | expect (sen : Sensor) : IntakeStep s (s.modIntake sen .expectNext)
  | held (sen : Sensor) (arrival : Nat) :
      IntakeStep s (s.handOn sen (heldSet (s.intake.get sen).lastGood) false arrival)
  | start (f : Frame) (now : Nat) (h : (s.intake.get f.sensor).state ≠ .off) : IntakeStep s
      ((s.handOn f.sensor (correct (s.activeCorrection f.sensor) f) true now).modIntake f.sensor
        (.started (correct (s.activeCorrection f.sensor) f) f.sequence now))
  | take (f : Frame) (g : CorrectionGroup) (now : Nat) (auto : Bool) : IntakeStep s
      ((s.handOn f.sensor (correct g f) false now).modIntake f.sensor (.took (correct g f) now auto))
  | jump (f : Frame) (g : CorrectionGroup) (now : Nat) : IntakeStep s
      ((s.handOn f.sensor (correct g f) false now).modIntake f.sensor (.jumped (correct g f) f.sequence now))
  | gap (sen : Sensor) (flag : Bool) (h : (s.intake.get sen).state ≠ .off) : IntakeStep s (s.declareGap sen flag)
  | copy (sen : Sensor) : IntakeStep s (s.copyCorrection sen)

/-- A run of such steps. -/
abbrev IntakeSteps : State → State → Prop := Relation.ReflTransGen IntakeStep

theorem State.handOn_intake (s : State) (sen : Sensor) (set : SampleSet) (start : Bool) (arrival : Nat) :
    (s.handOn sen set start arrival).intake = s.intake := by
  rw [(s.handOn_follows sen set start arrival).intake, (s.storeSet_stores sen set start arrival).rest]

theorem State.fill_steps (s : State) (sen : Sensor) (d : Nat) :
    IntakeSteps s (s.fill sen (heldSet (s.intake.get sen).lastGood) d) := by
  have go : ∀ (l : List Nat) (arrival : Nat → Nat) (u : State), u.intake = s.intake → IntakeSteps u (l.foldl
      (fun t i => t.handOn sen (heldSet (s.intake.get sen).lastGood) false (arrival i)) u) := by
    intro l arrival
    induction l with
    | nil => exact fun u _ => .refl
    | cons i rest ih =>
      intro u hu
      have hstep : IntakeStep u (u.handOn sen (heldSet (s.intake.get sen).lastGood) false (arrival i)) := by
        rw [← hu]
        exact .held sen _
      exact .head hstep (ih _ ((State.handOn_intake _ _ _ _ _).trans hu))
  exact go _ _ s rfl

theorem State.startStream_step {s : State} {f : Frame} (h : (s.intake.get f.sensor).state ≠ .off) :
    IntakeStep s (s.startStream f) := .start f s.time.localTime h

theorem State.setIntakeFlag_state (s : State) (sen i : Sensor) (f : IntakeFlag) :
    ((s.setIntakeFlag sen f).intake.get i).state = (s.intake.get i).state := by
  by_cases h : i = sen
  · subst h
    simp
  · simp [PerSensor.get_set_ne _ _ h]

theorem State.declareGap_state (s : State) (sen : Sensor) (flag : Bool) :
    ((s.declareGap sen flag).intake.get sen).state = .gap := by
  simp [State.declareGap_eq, IntakeRecord.enterGap]

theorem State.goodRunning_steps {s : State} {f : Frame} (hr : (s.intake.get f.sensor).state = .running) :
    IntakeSteps s (s.goodRunning f) := by
  unfold State.goodRunning
  dsimp only
  split
  · exact .single (.take f _ _ _)
  · split
    · unfold State.shortJump
      dsimp only
      have hfill := (s.setIntakeFlag f.sensor .sequence).fill_steps f.sensor ((s.intake.get f.sensor).distance f.sequence)
      have hlast : ((s.setIntakeFlag f.sensor .sequence).intake.get f.sensor).lastGood
          = (s.intake.get f.sensor).lastGood := by simp
      rw [hlast] at hfill
      exact (Relation.ReflTransGen.head (.flag f.sensor .sequence) hfill).tail (.jump f _ _)
    · have hflag : ((s.setIntakeFlag f.sensor .sequence).intake.get f.sensor).state ≠ .off := by
        rw [State.setIntakeFlag_state, hr]
        decide
      have hgap : (((s.setIntakeFlag f.sensor .sequence).declareGap f.sensor true).intake.get f.sensor).state ≠ .off := by
        rw [State.declareGap_state]
        decide
      exact .head (.flag f.sensor .sequence) (.head (.gap f.sensor true hflag) (.single (State.startStream_step hgap)))

theorem State.badRunning_steps {s : State} {sen : Sensor} (hr : (s.intake.get sen).state = .running) :
    IntakeSteps s (s.badRunning sen) := by
  unfold State.badRunning
  dsimp only
  split
  · rename_i h
    have hlast : (((s.modIntake sen (.countBad s.time.localTime)).setIntakeFlag sen .parity).intake.get sen).lastGood
        = (s.intake.get sen).lastGood := by simp [IntakeRecord.countBad]
    have hheld := IntakeStep.held (s := (s.modIntake sen (.countBad s.time.localTime)).setIntakeFlag sen .parity) sen
      s.time.localTime
    rw [hlast] at hheld
    exact .head (.bad sen _ h) (.head hheld (.single (.expect sen)))
  · exact .single (.badGap sen _ (by rw [hr]; decide))

theorem State.handleFrame_steps (s : State) (f : Frame) : IntakeSteps s (s.handleFrame f) := by
  unfold State.handleFrame
  split
  · exact .single (.off f.sensor)
  · rename_i h _
    exact .single (State.startStream_step (by rw [h]; decide))
  · rename_i h _
    exact .single (State.startStream_step (by rw [h]; decide))
  · rename_i h _
    exact State.goodRunning_steps h
  · rename_i h _
    exact State.badRunning_steps h
  · exact .single (.flag f.sensor .parity)

/-- R1: a frame of 12 bytes is handled in such steps. -/
theorem State.frame_steps {s : State} {bytes : List Byte} {f : Frame} (h : parseFrame bytes = some f) :
    IntakeSteps s (s.frame bytes) := by
  unfold State.frame
  rw [h]
  refine Relation.ReflTransGen.trans ?_ (State.handleFrame_steps _ f)
  unfold State.copyAtFrame
  split
  · exact .single (.copy f.sensor)
  · exact .refl

theorem State.running_of_silenceOverdue {s : State} {sen : Sensor} (h : s.silenceOverdue sen = true) :
    (s.intake.get sen).state = .running := by
  unfold State.silenceOverdue at h
  split at h
  · assumption
  · cases h

theorem State.frameSilence_steps (s : State) (sen : Sensor) : IntakeSteps s (s.frameSilence sen) := by
  unfold State.frameSilence
  split
  · rename_i h
    exact .single (.gap sen true (by rw [State.running_of_silenceOverdue h]; decide))
  · exact .refl

/-- What every step of Sample Intake keeps, its runs keep. -/
theorem IntakeSteps.keep {P : State → Prop} (h : ∀ s t, P s → IntakeStep s t → P t) {s t : State} (hs : P s)
    (hst : IntakeSteps s t) : P t := by
  induction hst with
  | refl => exact hs
  | tail _ hstep ih => exact h _ _ ih hstep

/-! ### The copy of the correction group (R17, R18) -/

/-- The steps of which a copy is made: the copy itself, and what a changed rate brings. -/
inductive CopyStep (sen : Sensor) (s : State) : State → Prop
  | copy : CopyStep sen s (s.modIntake sen .copyGroup)
  | gap : CopyStep sen s (s.declareGap sen false)
  | off : CopyStep sen s (s.enterOff sen)
  | starting : CopyStep sen s (s.modIntake sen .enterStarting)

theorem State.copyCorrection_steps (s : State) (sen : Sensor) :
    Relation.ReflTransGen (CopyStep sen) s (s.copyCorrection sen) := by
  have copied : Relation.ReflTransGen (CopyStep sen) s (s.modIntake sen .copyGroup) := .single .copy
  unfold State.copyCorrection
  dsimp only
  split
  · exact copied
  · split
    · exact (copied.tail .gap).tail .off
    · exact copied.tail .gap
    · exact copied.tail .off
    · exact copied.tail .off
    · exact copied.tail .off
    · exact copied.tail .starting
    · exact copied

theorem State.copyCorrection_keep {P : State → Prop} {sen : Sensor} (h : ∀ s t, P s → CopyStep sen s t → P t) {s : State}
    (hs : P s) : P (s.copyCorrection sen) := by
  have go : ∀ t, Relation.ReflTransGen (CopyStep sen) s t → P t := fun t ht => by
    induction ht with
    | refl => exact hs
    | tail _ hstep ih => exact h _ _ ih hstep
  exact go _ (s.copyCorrection_steps sen)

end Sys2Proof.Machine


/-! PROOFS. What a store leaves of its sensor's ring record (R36 to R40). -/

namespace Sys2Proof.Machine

/-! ### Sizes -/

theorem PageSize.sets_pos (p : PageSize) : 0 < p.sets := by cases p <;> decide

theorem PageSize.two_le_sets (p : PageSize) : 2 ≤ p.sets := by cases p <;> decide

theorem PageSize.pages_pos (p : PageSize) : 0 < p.pages := by cases p <;> decide

theorem PageSize.mapIndex_lt (p : PageSize) (page : Nat) : p.mapIndex page < p.pages := Nat.mod_lt _ p.pages_pos

/-- The next sample number lies in the same page or begins the next. -/
theorem PageSize.mod_succ (p : PageSize) (n : Nat) :
    (n + 1) % p.sets = if n % p.sets + 1 = p.sets then 0 else n % p.sets + 1 := by
  rw [Nat.add_mod, Nat.mod_eq_of_lt p.two_le_sets]
  split
  · rename_i h
    rw [h, Nat.mod_self]
  · have := Nat.mod_lt n p.sets_pos
    exact Nat.mod_eq_of_lt (by omega)

/-! ### One store -/

theorem Store.mem_of_read {α : Type} {m : Store α} {k : Nat} {x : α} (h : Store.read m k = some x) : (k, x) ∈ m := by
  induction m with
  | nil => cases h
  | cons y rest ih =>
    obtain ⟨i, z⟩ := y
    unfold Store.read at h
    split at h
    · rename_i hi
      cases h
      exact hi ▸ List.mem_cons_self
    · exact List.mem_cons_of_mem _ (ih h)

/-- R41: an entry that a read answers stands in the map after it. -/
theorem State.read_of_readEntry {s : State} {sen : Sensor} {page : Nat} {e : MapEntry}
    (h : (s.readEntry sen page).2 = some e) :
    Store.read ((s.readEntry sen page).1.ring.get sen).pageMap (s.pageSize.active.mapIndex page) = some e := by
  unfold State.readEntry at h ⊢
  dsimp only at h ⊢
  cases hread : Store.read (s.ring.get sen).pageMap (s.pageSize.active.mapIndex page) with
  | none => simp [hread] at h
  | some stored =>
    cases htest : mapTest stored with
    | clean =>
      simp only [hread, htest, Option.some.injEq] at h ⊢
      exact h
    | corrected fixed =>
      simp only [hread, htest, Option.some.injEq] at h ⊢
      simp [h]
    | faulty => simp [hread, htest] at h

/-- R42: the raised fill count is written over an entry that stands. -/
theorem State.raiseFill_mapReads (s : State) (sen : Sensor) (page : Nat) : MapReads s (s.raiseFill sen page) := by
  have h := s.readEntry_mapReads sen page
  unfold State.raiseFill
  cases hread : s.readEntry sen page with
  | mk u answer =>
    cases answer with
    | none => simpa [hread] using h
    | some e =>
      have hmem := Store.mem_of_read (State.read_of_readEntry (s := s) (sen := sen) (page := page) (e := e) (by rw [hread]))
      rw [hread] at h hmem
      have hsize : u.pageSize = s.pageSize := by rw [MapReads.rest (show MapReads s u from h)]
      refine h.trans ⟨rfl, fun i => ?_, .inl rfl⟩
      by_cases hi : i = sen
      · subst hi
        simp only [State.modRing_ring, PerSensor.get_set, hsize]
        refine ⟨rfl, fun hwf => Store.wf_write _ _ hwf, fun x hx => ?_, id⟩
        rcases Store.mem_write hx with rfl | hx
        · exact ⟨_, hmem, rfl⟩
        · exact ⟨x, hx, rfl⟩
      · simpa [PerSensor.get_set_ne _ _ hi] using RingRecord.MapReads.refl _

/-- R37: the record after the opening of the page that begins at `n`, with its map entry. -/
def RingRecord.opening (p : PageSize) (set : SampleSet) (n : Nat) (e : MapEntry) (r : RingRecord) : RingRecord :=
  { r with
    oldest := r.oldestAfterOpening p n
    pageMap := Store.write r.pageMap (p.mapIndex (n / p.sets)) e
    slots := Store.write r.slots (n % Config.ringSlots) set
    newest := some n
    page := some .opened
    setsInPage := some 1 }

/-- R36: the record after a store at `n` in the page in use. -/
def RingRecord.appending (p : PageSize) (set : SampleSet) (n : Nat) (r : RingRecord) : RingRecord :=
  { r with
    slots := Store.write r.slots (n % Config.ringSlots) set
    newest := some n
    setsInPage := some (r.setsInPage.getD 0 + 1)
    page := some (if r.setsInPage.getD 0 + 1 = p.sets then .closed else .opened) }

theorem RingRecord.closeShort_newest (p : PageSize) (r : RingRecord) : (r.closeShort p).newest = r.newest := by
  unfold RingRecord.closeShort
  split <;> rfl

theorem RingRecord.closeShort_oldest (p : PageSize) (r : RingRecord) : (r.closeShort p).oldest = r.oldest := by
  unfold RingRecord.closeShort
  split <;> rfl

/-- R39: a page in use that holds sets is closed. -/
theorem RingRecord.closeShort_page (p : PageSize) (r : RingRecord) :
    (r.closeShort p).page = if r.page = some .opened ∧ r.newest ≠ none then some .closed else r.page := by
  unfold RingRecord.closeShort
  split
  · rename_i h h'
    simp [h, h']
  · rename_i h
    rw [if_neg]
    rintro ⟨hpage, hnew⟩
    obtain ⟨n, hn⟩ := Option.ne_none_iff_exists'.1 hnew
    exact h n hpage hn

theorem RingRecord.closeShort_of_not_opened {p : PageSize} {r : RingRecord} (h : r.page ≠ some .opened) :
    r.closeShort p = r := by
  unfold RingRecord.closeShort
  split
  · exact absurd ‹_› h
  · rfl

theorem RingRecord.closeShort_of_empty {p : PageSize} {r : RingRecord} (h : r.newest = none) : r.closeShort p = r := by
  unfold RingRecord.closeShort
  split
  · rename_i hn
    rw [h] at hn
    cases hn
  · rfl

theorem State.openPage_ring (s : State) (sen : Sensor) (set : SampleSet) (n arrival : Nat) :
    (s.openPage sen set n arrival).ring.get sen
      = (s.ring.get sen).opening s.pageSize.active set n (s.newEntry sen n arrival) := by
  simp [State.openPage, RingRecord.opening]

theorem State.appendSet_ring (s : State) (sen : Sensor) (set : SampleSet) (n : Nat) :
    ((s.ring.get sen).appending s.pageSize.active set n).MapReads ((s.appendSet sen set n).ring.get sen) := by
  have h := ((s.modRing sen (RingRecord.appending s.pageSize.active set n)).raiseFill_mapReads sen
    (n / s.pageSize.active.sets)).ring sen
  rw [State.modRing_ring, PerSensor.get_set] at h
  exact h

/-- A page that the newest set fills ends where the next begins. -/
theorem RingRecord.nextPageStart_of_full {p : PageSize} {r : RingRecord} {m : Nat} (hm : r.newest = some m)
    (hfull : (m + 1) % p.sets = 0) : r.nextPageStart p = m + 1 := by
  have hlast : m % p.sets + 1 = p.sets := by
    rw [PageSize.mod_succ] at hfull
    split at hfull
    · assumption
    · omega
  have hdiv := Nat.div_add_mod m p.sets
  rw [RingRecord.nextPageStart, hm]
  dsimp only
  rw [Nat.add_mul, Nat.mul_comm]
  omega

/-- R36, R38: a set opens the next page, which a stream-start set does always, or stands behind the newest set of a page
in use that has room. -/
theorem State.placeSet_ring (s : State) (sen : Sensor) (set : SampleSet) (start : Bool) (arrival : Nat) :
    (∃ r, (start = false ∧ r = s.ring.get sen ∨ r = (s.ring.get sen).closeShort s.pageSize.active)
      ∧ (s.placeSet sen set start arrival).ring.get sen
        = r.opening s.pageSize.active set ((s.ring.get sen).nextPageStart s.pageSize.active)
            (s.newEntry sen ((s.ring.get sen).nextPageStart s.pageSize.active) arrival))
    ∨ start = false ∧ ∃ m, (s.ring.get sen).page = some .opened ∧ (s.ring.get sen).newest = some m
        ∧ (m + 1) % s.pageSize.active.sets ≠ 0
        ∧ ((s.ring.get sen).appending s.pageSize.active set (m + 1)).MapReads
            ((s.placeSet sen set start arrival).ring.get sen) := by
  unfold State.placeSet
  dsimp only
  split
  · refine .inl ⟨_, .inr rfl, ?_⟩
    rw [State.openPage_ring]
    simp [State.closePageShort, State.newEntry, State.stampLocal, State.stampAbs, State.rate, State.activeCorrection]
  · rename_i m hpage hm
    split
    · rename_i hfull
      rw [RingRecord.nextPageStart_of_full hm hfull]
      exact .inl ⟨_, .inl ⟨rfl, rfl⟩, State.openPage_ring _ _ _ _ _⟩
    · rename_i hroom
      exact .inr ⟨rfl, m, hpage, hm, hroom, State.appendSet_ring _ _ _ _⟩
  · rename_i htrue hfalse
    refine .inl ⟨s.ring.get sen, .inr ?_, State.openPage_ring _ _ _ _ _⟩
    by_cases hpage : (s.ring.get sen).page = some .opened
    · rw [RingRecord.closeShort_of_empty]
      by_contra hne
      obtain ⟨n, hn⟩ := Option.ne_none_iff_exists'.1 hne
      exact (Bool.eq_false_or_eq_true _).elim (htrue n · hpage hn) (hfalse n · hpage hn)
    · rw [RingRecord.closeShort_of_not_opened hpage]

/-- R40: the map read for the newest local time leaves what was placed. -/
theorem State.storeSet_ring (s : State) (sen : Sensor) (set : SampleSet) (start : Bool) (arrival : Nat) :
    ∃ u newestLocal, ((s.placeSet sen set start arrival).ring.get sen).MapReads u
      ∧ (s.storeSet sen set start arrival).ring.get sen = { u with newestLocal := newestLocal } := by
  refine ⟨(((s.placeSet sen set start arrival).timeOf sen
      ((((s.placeSet sen set start arrival).ring.get sen).newest).getD 0)).1.ring.get sen),
    ((s.storeSet sen set start arrival).ring.get sen).newestLocal, (State.timeOf_mapReads _ sen _).ring sen, ?_⟩
  simp only [State.storeSet, State.updateNewestLocal, State.modRing_ring, PerSensor.get_set]

end Sys2Proof.Machine


/-! PROOFS. What a step of Sample Intake leaves of the other blocks, and the invariant of DETACHED ports (R186). -/

namespace Sys2Proof.Machine

/-! ### Steps of Sample Intake -/

theorem IntakeStep.works {s t : State} (h : IntakeStep s t) : WorksOn s t := by
  cases h with
  | off sen => exact State.modIntake_works (f := .countOff) fun _ => rfl
  | flag sen f => exact s.setIntakeFlag_works sen f
  | bad sen now _ =>
    exact (State.modIntake_works (f := .countBad now) fun _ => rfl).trans (State.setIntakeFlag_works _ _ _)
  | badGap sen now _ =>
    exact ((State.modIntake_works (f := .countBad now) fun _ => rfl).trans (State.setIntakeFlag_works _ _ _)).trans
      (State.declareGap_works _ _ _)
  | expect sen => exact State.modIntake_works (f := .expectNext) fun _ => rfl
  | held sen arrival => exact s.handOn_works _ _ _ _
  | start f now _ =>
    exact (s.handOn_works _ _ _ _).trans (State.modIntake_works (f := .started (correct (s.activeCorrection f.sensor) f) f.sequence now) fun _ => rfl)
  | take f g now auto =>
    exact (s.handOn_works _ _ _ _).trans (State.modIntake_works (f := .took (correct g f) now auto) fun _ => rfl)
  | jump f g now =>
    exact (s.handOn_works _ _ _ _).trans (State.modIntake_works (f := .jumped (correct g f) f.sequence now) fun _ => rfl)
  | gap sen flag _ => exact s.declareGap_works sen flag
  | copy sen => exact s.copyCorrection_works sen

/-- Every chain that is at no element stays. -/
def IdleStays (s t : State) : Prop := ∀ p, (s.chain p).plan = none → t.chain p = s.chain p

theorem IdleStays.refl (s : State) : IdleStays s s := fun _ _ => rfl

theorem IdleStays.trans {s t u : State} (h : IdleStays s t) (k : IdleStays t u) : IdleStays s u := fun p hp => by
  have e := h p hp
  rw [k p (by rw [e]; exact hp), e]

theorem State.handOn_idle (s : State) (sen : Sensor) (set : SampleSet) (start : Bool) (arrival : Nat) :
    IdleStays s (s.handOn sen set start arrival) := by
  have hstore : IdleStays s (s.storeSet sen set start arrival) := fun _ _ => by
    rw [(s.storeSet_stores sen set start arrival).rest]; rfl
  exact hstore.trans (s.handOn_follows sen set start arrival).idle

theorem State.declareGap_idle (s : State) (sen : Sensor) (flag : Bool) : IdleStays s (s.declareGap sen flag) := by
  have h : IdleStays s (s.announcedGap sen) := (s.announcedGap_follows sen (heldSet none)).idle
  rw [State.declareGap_eq]
  cases flag <;> exact h

theorem State.enterOff_follows (s : State) (sen : Sensor) (x : SampleSet) :
    Follows sen x (s.modIntake sen fun r => { r with state := .off }) (s.enterOff sen) :=
  (State.retest_grants _).follows sen x

theorem State.copyCorrection_idle (s : State) (sen : Sensor) : IdleStays s (s.copyCorrection sen) := by
  refine State.copyCorrection_keep (P := IdleStays s) (fun u t hu hstep => hu.trans ?_) (.refl s)
  cases hstep with
  | copy => exact .refl u
  | gap => exact u.declareGap_idle sen false
  | off => exact (u.enterOff_follows sen (heldSet none)).idle
  | starting => exact .refl u

theorem IntakeStep.idle {s t : State} (h : IntakeStep s t) : IdleStays s t := by
  cases h with
  | off sen => exact .refl s
  | flag sen f => exact .refl s
  | bad sen now _ => exact .refl s
  | badGap sen now _ =>
    exact IdleStays.trans (t := (s.modIntake sen (.countBad now)).setIntakeFlag sen .parity) (.refl s)
      (State.declareGap_idle _ _ _)
  | expect sen => exact .refl s
  | held sen arrival => exact s.handOn_idle _ _ _ _
  | start f now _ => exact s.handOn_idle _ _ _ _
  | take f g now auto => exact s.handOn_idle _ _ _ _
  | jump f g now => exact s.handOn_idle _ _ _ _
  | gap sen flag _ => exact s.declareGap_idle sen flag
  | copy sen => exact s.copyCorrection_idle sen

/-! ### Commands of a chain that is reset -/

theorem State.waitTimeout_of_reset {s : State} {p : Port} (h : s.chain p = .reset) (kind : WaitKind) :
    s.waitTimeout p kind = s := by
  simp [State.waitTimeout, State.waitOverdue, h, Chain.reset]

theorem State.chainBlock_of_reset {s : State} {p : Port} (h : s.chain p = .reset) : s.chainBlock p = s := by
  simp [State.chainBlock, h, Chain.reset]

theorem State.answerStart_of_reset {s : State} {p : Port} (h : s.chain p = .reset) : (s.answerStart p).state = s := by
  simp [State.answerStart, h, Chain.reset]

/-! ### The invariant -/

/-- Modes, the lists of DETACHED ports, their chains, and the port records are all that the invariant sees. -/
theorem PortInv.congr {s t : State} (h : PortInv s) (ha : ∀ p, t.attached p = s.attached p)
    (hn : ∀ p, s.attached p = false → t.notices p = s.notices p)
    (hc : ∀ p, s.attached p = false → s.chain p = .reset → t.chain p = .reset)
    (hp : ∀ p, (t.ports.get p).timer.isSome = (s.ports.get p).timer.isSome
      ∧ (t.ports.get p).timeout = (s.ports.get p).timeout) : PortInv t := fun p => by
  obtain ⟨hdet, htimer⟩ := h p
  obtain ⟨ht, hto⟩ := hp p
  refine ⟨fun hd => ?_, by rw [ht, hto, ha, htimer]⟩
  rw [ha] at hd
  obtain ⟨hl, hch⟩ := hdet hd
  exact ⟨(hn p hd).trans hl, hc p hd hch⟩

theorem WorksOn.portInv {s t : State} (k : WorksOn s t) (hi : IdleStays s t) (h : PortInv s) : PortInv t :=
  h.congr k.attached k.detached (fun p _ e => (hi p (by rw [e]; rfl)).trans e) fun p => by rw [k.rest]; exact ⟨rfl, rfl⟩

theorem PicksOnly.portInv {s t : State} (k : PicksOnly s t) (h : PortInv s) : PortInv t :=
  k.works.portInv (fun _ _ => by rw [k.rest]; rfl) h

/-- What concerns the chain of a port leaves the port in order where it leaves a chain that is reset. -/
theorem ChainOnly.portInv {p : Port} {s t : State} (k : ChainOnly p s t) (hr : s.chain p = .reset → t = s)
    (h : PortInv s) : PortInv t := by
  refine h.congr (fun _ => by rw [k.rest]; rfl) (fun _ _ => by rw [k.rest]; rfl) (fun q _ e => ?_) fun q => by
    rw [k.rest]; exact ⟨rfl, rfl⟩
  rcases Port.eq_or_other p q with rfl | rfl
  · rw [hr e, e]
  · rw [k.other, e]

/-- A change of an attached port's chain. -/
theorem PortInv.modChain {s : State} {p : Port} {f : Chain → Chain} (h : PortInv s)
    (hf : s.attached p = false → s.chain p = .reset → f (s.chain p) = .reset) : PortInv (s.modChain p f) := by
  refine h.congr (fun _ => rfl) (fun _ _ => rfl) (fun q hd e => ?_) fun _ => ⟨rfl, rfl⟩
  rcases Port.eq_or_other p q with rfl | rfl
  · rw [State.chain_modChain]
    exact hf hd e
  · rw [State.chain_modChain_other, e]

theorem SetsOnly.portInv {p : Port} {closed : Bool} {s t : State} (k : SetsOnly p closed s t) (h : PortInv s) :
    PortInv t := by
  have ha : ∀ q, t.attached q = s.attached q := fun q => State.attached_congr (k.offers q).2
  intro q
  obtain ⟨hdet, htimer⟩ := h q
  refine ⟨fun hd => ?_, ?_⟩
  · rw [ha] at hd
    obtain ⟨hl, hc⟩ := hdet hd
    exact ⟨(k.offers q).1.trans hl, by rw [k.rest]; exact hc⟩
  · rw [ha]
    rcases Port.eq_or_other p q with rfl | rfl
    · rcases k.timer with e | e
      · exact e
      · rw [e, htimer]
    · rw [k.otherPort, htimer]

theorem PortInv.detachPort {s : State} (h : PortInv s) (p : Port) : PortInv (s.detachPort p) := by
  obtain ⟨u, hu, e⟩ := s.detachPort_frames p
  have hself := hu.notices_withdrawn
  have hchains : ∀ q, u.chain q = (s.withdrawn p).chain q := fun q => by rw [hu.rest]; rfl
  have hports : u.ports = s.ports := by rw [hu.rest]; rfl
  rw [e]
  intro q
  rcases Port.eq_or_other p q with rfl | rfl
  · refine ⟨fun _ => ⟨hself.2, ?_⟩, ?_⟩
    · refine (hchains q).trans ?_
      simp [State.chain, State.withdrawn_chains]
    · change _ = (u.attached q && _)
      simp [hself.1, State.silenced]
  · obtain ⟨hdet, htimer⟩ := h p.other
    have ha : u.attached p.other = s.attached p.other := (hu.attached p.other).trans
      (by simp [State.attached, State.withdrawn_offers])
    have hn : u.attached p.other = false → u.notices p.other = s.notices p.other := fun hd => by
      rw [hu.detached p.other (by rw [← hu.attached]; exact hd)]
      simp [State.notices, State.withdrawn_offers]
    refine ⟨fun hd => ?_, ?_⟩
    · change u.attached p.other = false at hd
      obtain ⟨hl, hc⟩ := hdet (ha ▸ hd)
      refine ⟨(hn hd).trans hl, (hchains _).trans ?_⟩
      simpa [State.chain, State.withdrawn_chains] using hc
    · change _ = (u.attached p.other && _)
      simp [ha, State.silenced, hports, htimer]

theorem PortInv.answerAttach {s : State} (h : PortInv s) (p : Port) : PortInv (s.answerAttach p).state := by
  rcases s.answerAttach_cases p with e | ⟨-, k⟩
  · rwa [e]
  · refine k.portInv fun q => ?_
    rcases Port.eq_or_other p q with rfl | rfl
    · rw [State.attached_becomeAttached]
      refine ⟨(nomatch ·), ?_⟩
      simp only [State.becomeAttached, State.modPort_ports, PerPort.get_set]
      by_cases h0 : (s.ports.get q).timeout = 0 <;> simp [h0]
    · have := h p.other
      simpa [State.becomeAttached, State.attached, State.notices, State.chain] using this

theorem PortInv.softReset {s : State} (h : PortInv s) (p : Port) : PortInv (s.softReset p) := by
  have hab : ∀ r : PortRecord, r.aborted.timer = r.timer ∧ r.aborted.timeout = r.timeout := fun r => by
    unfold PortRecord.aborted
    split <;> exact ⟨rfl, rfl⟩
  refine h.congr (fun q => ?_) (fun q hd => ?_) (fun q _ _ => ?_) fun q => ?_
  · simp [State.softReset, State.attached, OfferRecord.softReset]
  · rw [((h q).1 hd).1]
    simp [State.softReset, State.notices, OfferRecord.softReset]
  · simp [State.softReset, State.chain]
  · rcases Port.eq_or_other p q with rfl | rfl <;> simp [State.softReset, hab]

theorem PortInv.answerApply {s : State} {p : Port} {same : Bool} {owner : State → State × Applied} (h : PortInv s)
    (ho : PortInv (owner s).1) : PortInv (s.answerApply p same owner).state := by
  rcases s.answerApply_cases p same owner with e | ⟨-, e | e⟩ <;> rw [e] <;> assumption

theorem PortInv.owned {s : State} {p : Port} {r : Request} {a : Answer} (h : PortInv s) (ha : Owned p s r a) :
    PortInv a.state := by
  cases ha with
  | attach => exact h.answerAttach p
  | detach =>
    rcases s.answerDetach_cases p with e | e <;> rw [e]
    · exact h
    · exact h.detachPort p
  | status => exact h
  | take =>
    rcases s.answerTake_cases p with ⟨-, e⟩ | ⟨n, rest, hn, k⟩
    · rwa [e]
    · refine k.portInv (h.congr (fun q => ?_) (fun q hd => ?_) (fun _ _ e => e) fun _ => ⟨rfl, rfl⟩)
      · rcases Port.eq_or_other p q with rfl | rfl <;> simp [State.attached]
      · rcases Port.eq_or_other p q with rfl | rfl
        · rw [((h q).1 hd).1] at hn
          cases hn
        · simp [State.notices]
  | readPick id => unfold State.answerReadPick; split <;> exact h
  | readGroup id => unfold State.answerReadGroup; split <;> exact h
  | retract id => exact (s.answerRetract_picks p id.toNat).portInv h
  | setUnknown w v => exact h
  | set w v i =>
    rcases s.answerSet_cases p i v with e | ⟨s', k, -, e⟩ <;> rw [e]
    · exact h
    · split <;> exact k.portInv h
  | getUnknown w => exact h
  | get w i =>
    change PortInv (s.afterGet i)
    unfold State.afterGet State.readIntake
    split <;> try split
    all_goals exact h
  | applyCorrection _ _ sen =>
    refine h.answerApply ((s.applyCorrection_works sen).portInv ?_ h)
    unfold State.applyCorrection
    split
    · exact .refl s
    · exact s.copyCorrection_idle sen
  | applyDetector _ _ sen =>
    refine h.answerApply ((s.applyDetector_works sen).portInv ?_ h)
    unfold State.applyDetector
    split <;> exact .refl s
  | applyRefinement _ _ sen => exact h.answerApply ((s.applyRefinement_grants sen).portInv h)
  | applyGrouping => exact h.answerApply h
  | applyPresets => exact h.answerApply h
  | freeze => unfold State.answerFreeze; split <;> exact h
  | loadChain count words =>
    rcases s.answerLoad_cases p count words with e | ⟨ha, l, -, e⟩ <;> rw [e]
    · exact h
    · exact h.modChain fun hd => by rw [ha] at hd; cases hd
  | startChain => exact (s.answerStart_keeps p).portInv State.answerStart_of_reset h
  | pauseChain =>
    rcases s.answerPause_cases p with e | ⟨hst, point, e⟩ <;> rw [e]
    · exact h
    · exact h.modChain fun _ hc => by rw [hc] at hst; rcases hst with x | x <;> cases x
  | resetChain => exact h.modChain (f := fun _ => .reset) fun _ _ => rfl
  | readExcerpt maximum =>
    rcases s.answerRead_cases p maximum.toNat with e | ⟨hb, k, e⟩ <;> rw [e]
    · exact h
    · exact h.modChain fun _ hc => by rw [hc] at hb; exact absurd rfl hb
  | attnDone classes =>
    rcases s.answerAttnDone_cases p classes.toNat with e | ⟨c, e⟩ <;> rw [e] <;> exact h
  | softReset => exact h.softReset p

/-- A transaction and an answer touch neither the timeout nor whether the timer runs. -/
theorem PortInv.modPort {s : State} {p : Port} {f : PortRecord → PortRecord} (h : PortInv s)
    (hf : ∀ r, (f r).timer.isSome = r.timer.isSome ∧ (f r).timeout = r.timeout) : PortInv (s.modPort p f) := by
  refine h.congr (fun _ => rfl) (fun _ _ => rfl) (fun _ _ e => e) fun q => ?_
  rcases Port.eq_or_other p q with rfl | rfl
  · simpa using hf _
  · simp

theorem PortInv.effect {s t : State} (h : PortInv s) (he : Effect s t) : PortInv t := by
  have transacted : ∀ p slot reject sent, PortInv (s.transacted p slot reject sent) := fun p slot reject sent =>
    h.modPort fun r => ⟨by simp, rfl⟩
  have intake : ∀ {u : State}, IntakeSteps s u → PortInv u := fun hu =>
    IntakeSteps.keep (P := PortInv) (fun _ _ k hstep => hstep.works.portInv hstep.idle k) h hu
  cases he with
  | idle => exact h
  | frame bytes =>
    cases hf : parseFrame bytes with
    | none => unfold State.frame; rw [hf]; exact h
    | some f => exact intake (State.frame_steps hf)
  | frameSilence sen => exact intake (s.frameSilence_steps sen)
  | grant =>
    rcases s.grant_cases with e | ⟨r, -, e⟩ <;> rw [e]
    · exact h
    · cases r with
      | refiner => exact (State.refinerBlock_grants _).portInv h
      | chain p => exact (State.chainBlock_only _ p).portInv State.chainBlock_of_reset h
  | pickWrite =>
    rcases s.pickWrite_cases with e | ⟨w, q, -, e⟩ <;> rw [e]
    · exact h
    · obtain ⟨u, r, v, hu, -, hv, -, ht⟩ := s.writePick_frames w q
      refine ht.portInv (hv.portInv (PortInv.congr h (t := u.addRecord r) ?_ ?_ ?_ ?_))
      · exact fun _ => by rw [hu.rest]; rfl
      · exact fun _ _ => by rw [hu.rest]; rfl
      · exact fun _ _ e => by rw [hu.rest]; exact e
      · exact fun _ => by rw [hu.rest]; exact ⟨rfl, rfl⟩
  | waitTimeout p kind => exact (s.waitTimeout_keeps p kind).portInv (State.waitTimeout_of_reset · kind) h
  | timeLink chars => rw [(s.timeLink_event chars).rest]; exact h
  | messageExpiry => rw [s.messageExpiry_event.rest]; exact h
  | mark => rw [s.mark_event.rest]; exact h
  | markLoss => rw [s.markLoss_event.rest]; exact h
  | takeCommand p message sent =>
    obtain ⟨_, _, e⟩ := s.takeCommand_transacted p message sent
    exact e ▸ transacted _ _ _ _
  | takeResponse p clocked sent =>
    obtain ⟨_, _, e⟩ := s.takeResponse_transacted p clocked sent
    exact e ▸ transacted _ _ _ _
  | ignored p sent =>
    obtain ⟨_, _, e⟩ := s.endTransaction_transacted p sent
    exact e ▸ transacted _ _ _ _
  | portSilence p =>
    rcases s.portSilence_cases p with e | e <;> rw [e]
    · exact h
    · exact h.detachPort p
  | endPulse p => exact h
  | command p r a ha => exact (h.owned ha).modPort fun _ => ⟨rfl, rfl⟩

theorem PortInv.reset : PortInv State.reset := fun p => by cases p <;> decide

/-- Settles O54: the chain of a DETACHED port is reset, so no operation of it finds anything to do. -/
theorem detachedPortsStayEmpty : Obligations.DetachedPortsStayEmpty := fun _ _ hs hstep =>
  step_keeps (P := PortInv) (fun _ => PortInv.reset) (fun _ _ _ h => h) (fun _ _ h he => h.effect he) hs hstep

end Sys2Proof.Machine


/-! PROOFS. What a step leaves of samples, rings, channels and counts besides Sample Intake and SOFT_RESET (`Quiet`), and
with it the invariants of the intake states (R2) and of the time states (R25, R28). -/

namespace Sys2Proof.Machine

/-! ### What the other operations leave -/

/-- R1, R22, R24, R80, R132, R140, R192: the counts that belong to no sensor's intake, ring or channel. -/
def PartCounts (s : State) : Prop :=
  s.malformedFrames ≤ 65535 ∧ s.time.missedMarks ≤ 65535 ∧ s.time.badMessages ≤ 65535
    ∧ s.grouper.fullCount ≤ 65535 ∧ s.grouper.expired ≤ 65535 ∧ s.softResets ≤ 65535
    ∧ ∀ sen, s.refiner.lost.get sen ≤ 65535

/-- No set is stored: the intake records change in staged copies, flags and marks alone, the rings by reads of their
maps, and channels and counts stay in range. -/
structure Quiet (s t : State) : Prop where
  intake : ∀ sen, t.intake.get sen = { s.intake.get sen with
    correction := ⟨(t.intake.get sen).correction.staged, (s.intake.get sen).correction.active⟩
    flags := (t.intake.get sen).flags, applyPending := (t.intake.get sen).applyPending }
  ring : ∀ sen, (s.ring.get sen).MapReads (t.ring.get sen)
  pageSize : t.pageSize.active = s.pageSize.active
  channel : ∀ sen ch x, (s.channel sen ch).Moves x (t.channel sen ch)
  counts : PartCounts s → PartCounts t
  capacity : CapacityInv s → CapacityInv t

theorem Quiet.refl (s : State) : Quiet s s := ⟨fun _ => rfl, fun _ => .refl _, rfl, fun _ _ x => .refl x _, id, id⟩

theorem Quiet.trans {s t u : State} (h : Quiet s t) (k : Quiet t u) : Quiet s u where
  intake sen := by rw [k.intake, h.intake]
  ring sen := (h.ring sen).trans (k.ring sen)
  pageSize := k.pageSize.trans h.pageSize
  channel sen ch x := (h.channel sen ch x).trans (k.channel sen ch x)
  counts hc := k.counts (h.counts hc)
  capacity hc := k.capacity (h.capacity hc)

theorem Quiet.of_self {s t : State} (h : t = s) : Quiet s t := h ▸ .refl s

/-- A change that touches none of them. -/
theorem Quiet.of_eq {s t : State} (hi : t.intake = s.intake) (hr : t.ring = s.ring)
    (hp : t.pageSize.active = s.pageSize.active) (hd : t.detector = s.detector) (hc : PartCounts s → PartCounts t)
    (hk : CapacityInv s → CapacityInv t) : Quiet s t where
  intake _ := by rw [hi]
  ring _ := by rw [hr]; exact .refl _
  pageSize := hp
  channel _ _ x := by rw [State.channel, State.channel, hd]; exact .refl x _
  counts := hc
  capacity := hk

theorem WorksOn.capacity {s t : State} (h : WorksOn s t) : CapacityInv s → CapacityInv t := by
  rintro ⟨hq, hg, hc⟩
  refine ⟨fun sen => h.queues sen (hq sen), h.groups hg, fun p => ?_⟩
  obtain ⟨he, hb⟩ := h.chains p
  rw [he, hb]
  exact hc p

theorem CapacityInv.modChain {s : State} (h : CapacityInv s) (p : Port) {f : Chain → Chain}
    (hf : ∀ c : Chain, c.elements.length ≤ 8 ∧ c.buffer.length ≤ Config.bufferCapacity →
      (f c).elements.length ≤ 8 ∧ (f c).buffer.length ≤ Config.bufferCapacity) : CapacityInv (s.modChain p f) := by
  obtain ⟨hq, hg, hc⟩ := h
  refine ⟨hq, hg, fun q => ?_⟩
  rcases Port.eq_or_other p q with rfl | rfl
  · rw [State.chain_modChain]
    exact hf _ (hc _)
  · rw [State.chain_modChain_other]
    exact hc _

theorem PicksOnly.quiet {s t : State} (h : PicksOnly s t) : Quiet s t := by
  refine .of_eq (by rw [h.rest]) (by rw [h.rest]) (by rw [h.rest]) (by rw [h.rest]) ?_ h.works.capacity
  rintro ⟨hm, hk, hb, hf, he, hr, hl⟩
  obtain ⟨hf', he'⟩ := h.groupCounts ⟨hf, he⟩
  refine ⟨?_, ?_, ?_, hf', he', ?_, fun sen => h.lost sen (hl sen)⟩ <;> rw [h.rest] <;> assumption

theorem MapReads.quiet {s t : State} (h : MapReads s t) : Quiet s t where
  intake _ := by rw [h.rest]
  ring := h.ring
  pageSize := by rw [h.rest]
  channel _ _ x := by rw [h.rest]; exact .refl x _
  counts hc := by rw [h.rest]; exact hc
  capacity hc := by rw [h.rest]; exact hc

theorem ChainOnly.quiet {p : Port} {s t : State} (h : ChainOnly p s t) : Quiet s t where
  intake _ := by rw [h.rest]
  ring := h.ring
  pageSize := by rw [h.rest]
  channel _ _ x := by rw [h.rest]; exact .refl x _
  counts hc := by rw [h.rest]; exact hc
  capacity := by
    rintro ⟨hq, hg, hc⟩
    refine ⟨by rw [h.rest]; exact hq, by rw [h.rest]; exact hg, fun q => ?_⟩
    rcases Port.eq_or_other p q with rfl | rfl
    · exact ⟨h.elements ▸ (hc _).1, h.capacity (hc _).2⟩
    · rw [h.other]
      exact hc _

theorem SetsOnly.quiet {p : Port} {closed : Bool} {s t : State} (h : SetsOnly p closed s t) : Quiet s t where
  intake sen := by rw [h.intake]
  ring _ := by rw [h.rest]; exact .refl _
  pageSize := h.pageSize
  channel sen ch x := by rw [State.channel, State.channel, h.detector]; exact .refl x _
  counts hc := by rw [h.rest]; exact hc
  capacity hc := by rw [h.rest]; exact hc

theorem State.modIntake_quiet {s : State} {sen : Sensor} {f : IntakeRecord → IntakeRecord}
    (hf : ∀ r, f r = { r with flags := (f r).flags, applyPending := (f r).applyPending }) :
    Quiet s (s.modIntake sen f) where
  intake i := by
    by_cases e : i = sen
    · subst e
      simp only [State.modIntake_intake, PerSensor.get_set]
      rw [hf]
    · simp [PerSensor.get_set_ne _ _ e]
  ring _ := .refl _
  pageSize := rfl
  channel _ _ x := .refl x _
  counts := id
  capacity := id

theorem State.modDetector_quiet {s : State} {sen : Sensor} {f : DetectorRecord → DetectorRecord}
    (hf : ∀ x d ch, ChannelRecord.Moves x (d.channels.get ch) ((f d).channels.get ch)) :
    Quiet s (s.modDetector sen f) where
  intake _ := rfl
  ring _ := .refl _
  pageSize := rfl
  channel i ch x := by
    by_cases e : i = sen
    · subst e
      simpa [State.channel] using hf x _ ch
    · simpa [State.channel, PerSensor.get_set_ne _ _ e] using ChannelRecord.Moves.refl x _
  counts := id
  capacity := id

theorem Chain.reset_capacity : Chain.reset.elements.length ≤ 8 ∧ Chain.reset.buffer.length ≤ Config.bufferCapacity := by
  decide

theorem State.withdrawn_quiet (s : State) (p : Port) : Quiet s (s.withdrawn p) :=
  .of_eq rfl rfl rfl rfl id fun h => h.modChain p (f := fun _ => .reset) fun _ _ => Chain.reset_capacity

theorem State.detachPort_quiet (s : State) (p : Port) : Quiet s (s.detachPort p) := by
  obtain ⟨u, hu, e⟩ := s.detachPort_frames p
  rw [e]
  exact ((s.withdrawn_quiet p).trans hu.toPicksOnly.quiet).trans (.of_eq rfl rfl rfl rfl id id)

theorem Quiet.settingsChanged {s t : State} (h : Quiet s t) (p : Port) : Quiet s (t.settingsChanged p) :=
  h.trans (.of_eq rfl rfl rfl rfl id id)

theorem Quiet.answerApply {s : State} {p : Port} {same : Bool} {owner : State → State × Applied}
    (h : Quiet s (owner s).1) : Quiet s (s.answerApply p same owner).state := by
  rcases s.answerApply_cases p same owner with e | ⟨-, e | e⟩ <;> rw [e]
  · exact .refl s
  · exact h
  · exact h.settingsChanged p

theorem State.applyDetector_quiet (s : State) (sen : Sensor) : Quiet s (s.applyDetector sen).1 := by
  unfold State.applyDetector
  split
  · exact State.modDetector_quiet fun x d ch => d.apply_moves x ch
  · exact State.modDetector_quiet (f := fun d => { d with applyPending := true }) fun x _ _ => .refl x _

/-! ### Every command -/

/-- What a command leaves: of the state itself, of a copy of a correction group, or of the soft reset. -/
theorem Owned.quiet {s : State} {p : Port} {r : Request} {a : Answer} (ha : Owned p s r a) :
    ∃ u, (IntakeSteps s u ∨ u = s.softReset p) ∧ Quiet u a.state := by
  have plain : ∀ {t : State}, Quiet s t → ∃ u, (IntakeSteps s u ∨ u = s.softReset p) ∧ Quiet u t := fun h =>
    ⟨s, .inl .refl, h⟩
  cases ha with
  | attach =>
    rcases s.answerAttach_cases p with e | ⟨-, k⟩
    · exact plain (.of_self e)
    · exact plain (Quiet.trans (t := s.becomeAttached p) (.of_eq rfl rfl rfl rfl id id) k.toPicksOnly.quiet)
  | detach =>
    rcases s.answerDetach_cases p with e | e
    · exact plain (.of_self e)
    · exact plain (e ▸ s.detachPort_quiet p)
  | status => exact plain (.of_eq rfl rfl rfl rfl id id)
  | take =>
    rcases s.answerTake_cases p with ⟨-, e⟩ | ⟨n, rest, -, k⟩
    · exact plain (.of_self e)
    · exact plain (Quiet.trans (t := s.setNotices p rest) (.of_eq rfl rfl rfl rfl id id) k.toPicksOnly.quiet)
  | readPick id => refine plain ?_; unfold State.answerReadPick; split <;> exact .refl s
  | readGroup id => refine plain ?_; unfold State.answerReadGroup; split <;> exact .refl s
  | retract id => exact plain (s.answerRetract_picks p id.toNat).quiet
  | setUnknown w v => exact plain (.refl s)
  | set w v i =>
    rcases s.answerSet_cases p i v with e | ⟨s', k, -, e⟩
    · exact plain (.of_self e)
    · refine plain (e ▸ ?_)
      split
      · exact k.quiet
      · exact k.quiet.settingsChanged p
  | getUnknown w => exact plain (.refl s)
  | get w i =>
    refine plain ?_
    change Quiet s (s.afterGet i)
    unfold State.afterGet
    split
    · unfold State.readIntake
      split
      · exact .refl s
      · exact State.modIntake_quiet fun _ => rfl
    · exact .refl s
  | applyCorrection b same sen =>
    have hcases : (s.applyCorrection sen).1 = (s.modIntake sen fun r => { r with applyPending := true })
        ∨ (s.applyCorrection sen).1 = s.copyCorrection sen := by
      unfold State.applyCorrection
      split
      · exact .inl rfl
      · exact .inr rfl
    rcases hcases with hmark | hcopy
    · refine plain (Quiet.answerApply ?_)
      rw [hmark]
      exact State.modIntake_quiet fun _ => rfl
    · rcases s.answerApply_cases p same (fun u => u.applyCorrection sen) with e | ⟨-, e | e⟩
      · exact plain (.of_self e)
      · exact ⟨s.copyCorrection sen, .inl (.single (.copy sen)), by rw [e, hcopy]; exact .refl _⟩
      · exact ⟨s.copyCorrection sen, .inl (.single (.copy sen)), by rw [e, hcopy]; exact (Quiet.refl _).settingsChanged p⟩
  | applyDetector _ _ sen => exact plain (s.applyDetector_quiet sen).answerApply
  | applyRefinement _ _ sen =>
    refine plain (Quiet.answerApply (Quiet.trans (t := s.withRefinement sen) ?_
      (s.applyRefinement_grants sen).toPicksOnly.quiet))
    exact .of_eq rfl rfl rfl rfl id id
  | applyGrouping => exact plain (Quiet.answerApply (.of_eq rfl rfl rfl rfl id id))
  | applyPresets => exact plain (Quiet.answerApply (.of_eq rfl rfl rfl rfl id id))
  | freeze =>
    refine plain ?_
    unfold State.answerFreeze
    split <;> exact .of_eq rfl rfl rfl rfl id id
  | loadChain count words =>
    rcases s.answerLoad_cases p count words with e | ⟨-, l, hl, e⟩
    · exact plain (.of_self e)
    · rw [e]
      exact plain (.of_eq rfl rfl rfl rfl id fun h => h.modChain p fun _ _ => ⟨hl, Nat.zero_le _⟩)
  | startChain => exact plain (s.answerStart_keeps p).quiet
  | pauseChain =>
    rcases s.answerPause_cases p with e | ⟨-, point, e⟩
    · exact plain (.of_self e)
    · rw [e]
      exact plain (.of_eq rfl rfl rfl rfl id fun h => h.modChain p fun _ hc => hc)
  | resetChain =>
    exact plain (.of_eq rfl rfl rfl rfl id fun h => h.modChain p (f := fun _ => .reset) fun _ _ => Chain.reset_capacity)
  | readExcerpt maximum =>
    rcases s.answerRead_cases p maximum.toNat with e | ⟨-, k, e⟩
    · exact plain (.of_self e)
    · rw [e]
      refine plain (.of_eq rfl rfl rfl rfl id fun h => h.modChain p fun c hc => ⟨hc.1, ?_⟩)
      exact (by simp : (c.buffer.drop k).length ≤ c.buffer.length).trans hc.2
  | attnDone classes =>
    rcases s.answerAttnDone_cases p classes.toNat with e | ⟨c, e⟩ <;> rw [e] <;> exact plain (.of_eq rfl rfl rfl rfl id id)
  | softReset => exact ⟨s.softReset p, .inr rfl, .refl _⟩

/-! ### The Timebase's events -/

theorem TimeEvent.quiet {s t : State} (h : TimeEvent s t)
    (hc : s.time.missedMarks ≤ 65535 ∧ s.time.badMessages ≤ 65535 →
      t.time.missedMarks ≤ 65535 ∧ t.time.badMessages ≤ 65535) : Quiet s t := by
  refine .of_eq (by rw [h.rest]) (by rw [h.rest]) (by rw [h.rest]) (by rw [h.rest]) ?_ (by rw [h.rest]; exact id)
  rintro ⟨hm, hk, hb, hf, he, hr, hl⟩
  obtain ⟨hk', hb'⟩ := hc ⟨hk, hb⟩
  refine ⟨?_, hk', hb', ?_, ?_, ?_, ?_⟩ <;> rw [h.rest] <;> assumption

theorem State.timeLink_quiet (s : State) (chars : List TimedChar) : Quiet s (s.timeLink chars) :=
  (s.timeLink_event chars).quiet fun ⟨hm, hb⟩ => ⟨(s.timeLink_times chars).missedMarks ▸ hm,
    (s.timeLink_times chars).badMessages hb⟩

theorem State.messageExpiry_quiet (s : State) : Quiet s s.messageExpiry := by
  refine s.messageExpiry_event.quiet fun h => ?_
  unfold State.messageExpiry
  split <;> exact h

theorem State.mark_quiet (s : State) : Quiet s s.mark := by
  refine s.mark_event.quiet fun h => ?_
  have ignored : s.ignoredMark.time.missedMarks ≤ 65535 ∧ s.ignoredMark.time.badMessages ≤ 65535 := ⟨bump_le _, h.2⟩
  unfold State.mark
  split
  · split
    · unfold State.validMark
      dsimp only
      split
      · exact h
      · split <;> exact h
    · exact ignored
  · exact ignored

theorem State.markLoss_quiet (s : State) : Quiet s s.markLoss := by
  refine s.markLoss_event.quiet fun h => ?_
  unfold State.markLoss
  split <;> exact h

/-! ### Every effect -/

/-- What a step leaves: of its frames and copies, of a soft reset, or of the state as its time has passed. -/
theorem Effect.quiet {s t : State} (he : Effect s t) :
    ∃ u, (IntakeSteps s u ∨ ∃ p, u = s.softReset p) ∧ Quiet u t := by
  have plain : ∀ {t : State}, Quiet s t → ∃ u, (IntakeSteps s u ∨ ∃ p, u = s.softReset p) ∧ Quiet u t := fun h =>
    ⟨s, .inl .refl, h⟩
  cases he with
  | idle => exact plain (.refl s)
  | frame bytes =>
    cases hf : parseFrame bytes with
    | none =>
      unfold State.frame
      rw [hf]
      exact plain (.of_eq rfl rfl rfl rfl (fun ⟨_, h⟩ => ⟨bump_le _, h⟩) id)
    | some f => exact ⟨_, .inl (State.frame_steps hf), .refl _⟩
  | frameSilence sen => exact ⟨_, .inl (s.frameSilence_steps sen), .refl _⟩
  | grant =>
    rcases s.grant_cases with e | ⟨r, -, e⟩ <;> rw [e]
    · exact plain (.refl s)
    · refine plain (Quiet.trans (t := { s with arbiter := s.arbiter.record r }) (.of_eq rfl rfl rfl rfl id id) ?_)
      cases r with
      | refiner => exact (State.refinerBlock_grants _).toPicksOnly.quiet
      | chain p => exact (State.chainBlock_only _ p).quiet
  | pickWrite =>
    rcases s.pickWrite_cases with e | ⟨w, q, -, e⟩ <;> rw [e]
    · exact plain (.refl s)
    · obtain ⟨u, r, v, hu, -, hv, -, ht⟩ := s.writePick_frames w q
      have hadd : Quiet u (u.addRecord r) := .of_eq rfl rfl rfl rfl id id
      exact plain (((hu.quiet.trans hadd).trans hv.toPicksOnly.quiet).trans ht.toPicksOnly.quiet)
  | waitTimeout p kind => exact plain (s.waitTimeout_keeps p kind).quiet
  | timeLink chars => exact plain (s.timeLink_quiet chars)
  | messageExpiry => exact plain s.messageExpiry_quiet
  | mark => exact plain s.mark_quiet
  | markLoss => exact plain s.markLoss_quiet
  | takeCommand p message sent =>
    obtain ⟨_, _, e⟩ := s.takeCommand_transacted p message sent
    exact plain (e ▸ .of_eq rfl rfl rfl rfl id id)
  | takeResponse p clocked sent =>
    obtain ⟨_, _, e⟩ := s.takeResponse_transacted p clocked sent
    exact plain (e ▸ .of_eq rfl rfl rfl rfl id id)
  | ignored p sent => exact plain (.of_eq rfl rfl rfl rfl id id)
  | portSilence p =>
    rcases s.portSilence_cases p with e | e <;> rw [e]
    · exact plain (.refl s)
    · exact plain (s.detachPort_quiet p)
  | endPulse p => exact plain (.of_eq rfl rfl rfl rfl id id)
  | command p r a ha =>
    obtain ⟨u, hu, hq⟩ := ha.quiet
    exact ⟨u, hu.imp_right fun e => ⟨p, e⟩, hq.trans (.of_eq rfl rfl rfl rfl id id)⟩

/-- An invariant of samples, rings, channels and counts is kept where every step of Sample Intake and every soft reset
keeps it. -/
theorem step_keeps_signal {P : State → Prop} (hreset : ∀ rest, P { State.reset with pending := rest })
    (hready : ∀ s rest dt, P s → P (s.readied rest dt)) (hquiet : ∀ s t, P s → Quiet s t → P t)
    (hintake : ∀ s t, P s → IntakeStep s t → P t) (hsoft : ∀ s p, P s → P (s.softReset p))
    {s t : State} (hs : P s) (h : Machine.step s = .next t) : P t := by
  refine step_keeps hreset hready (fun u v hu he => ?_) hs h
  obtain ⟨w, hw, hq⟩ := he.quiet
  refine hquiet w v ?_ hq
  rcases hw with hw | ⟨p, rfl⟩
  · exact IntakeSteps.keep hintake hu hw
  · exact hsoft u p hu

/-! ### Sensors that are OFF (R2) -/

/-- R2, of one sensor. -/
def IntakeRecord.Rated (r : IntakeRecord) : Prop := r.state = .off ↔ r.correction.active.rate = .off

theorem rateInv_iff {s : State} : RateInv s ↔ ∀ sen, (s.intake.get sen).Rated := Iff.rfl

/-- A change of one sensor's intake record. -/
theorem RateInv.modIntake {s : State} {sen : Sensor} {f : IntakeRecord → IntakeRecord} (h : RateInv s)
    (hf : (s.intake.get sen).Rated → (f (s.intake.get sen)).Rated) : RateInv (s.modIntake sen f) := by
  rw [rateInv_iff] at h ⊢
  intro i
  by_cases e : i = sen
  · subst e
    simpa using hf (h i)
  · simpa [PerSensor.get_set_ne _ _ e] using h i

theorem RateInv.congr {s t : State} (h : RateInv s) (hi : t.intake = s.intake) : RateInv t := by
  rw [rateInv_iff] at h ⊢
  rwa [hi]

theorem RateInv.quiet {s t : State} (h : RateInv s) (k : Quiet s t) : RateInv t := by
  rw [rateInv_iff] at h ⊢
  intro sen
  rw [k.intake sen]
  exact h sen

theorem RateInv.setIntakeFlag {s : State} (h : RateInv s) (sen : Sensor) (f : IntakeFlag) :
    RateInv (s.setIntakeFlag sen f) :=
  (h.modIntake (sen := sen) (f := fun r => { r with flags := r.flags.insert f }) id).congr rfl

theorem State.announcedGap_intake (s : State) (sen : Sensor) : (s.announcedGap sen).intake = s.intake :=
  (s.announcedGap_follows sen (heldSet none)).intake

/-- R11: a GAP is declared of a sensor whose rate is enabled. -/
theorem RateInv.declareGap {s : State} {sen : Sensor} (h : RateInv s) (hs : (s.intake.get sen).state ≠ .off)
    (flag : Bool) : RateInv (s.declareGap sen flag) := by
  have hgap : ∀ r : IntakeRecord, r.correction.active.rate ≠ .off → r.enterGap.Rated := fun r hr =>
    ⟨(nomatch ·), fun e => absurd e hr⟩
  have hrate : (s.intake.get sen).correction.active.rate ≠ .off := fun e => hs ((h sen).2 e)
  have hann : RateInv (s.announcedGap sen) := h.congr (s.announcedGap_intake sen)
  rw [State.declareGap_eq]
  cases flag with
  | false => exact hann.modIntake fun _ => hgap _ (by rw [State.announcedGap_intake]; exact hrate)
  | true =>
    refine (hann.setIntakeFlag sen .gap).modIntake fun _ => hgap _ ?_
    simpa [State.announcedGap_intake] using hrate

/-- The intake records after a GAP declaration without a flag. -/
theorem State.declareGap_intake (s : State) (sen : Sensor) :
    (s.declareGap sen false).intake = s.intake.set sen (s.intake.get sen).enterGap := by
  rw [State.declareGap_eq]
  simp [State.announcedGap_intake]

theorem State.enterOff_intake (s : State) (sen : Sensor) :
    (s.enterOff sen).intake = s.intake.set sen { s.intake.get sen with state := .off } := by
  rw [(s.enterOff_follows sen (heldSet none)).intake]
  simp

/-- R17, R18: what a copy leaves of an intake record. -/
def IntakeRecord.copied (r : IntakeRecord) : IntakeRecord :=
  if r.correction.staged.rate = r.correction.active.rate then r.copyGroup
  else match r.state, r.correction.staged.rate with
    | .running, .off => { r.copyGroup.enterGap with state := .off }
    | .running, _ => r.copyGroup.enterGap
    | _, .off => { r.copyGroup with state := .off }
    | .off, _ => r.copyGroup.enterStarting
    | _, _ => r.copyGroup

/-- R17, R18: a copy changes one intake record so. -/
theorem State.copyCorrection_intake (s : State) (sen : Sensor) :
    (s.copyCorrection sen).intake = s.intake.set sen (s.intake.get sen).copied := by
  unfold State.copyCorrection IntakeRecord.copied
  dsimp only
  split
  · rfl
  · cases (s.intake.get sen).state <;> cases (s.intake.get sen).correction.staged.rate <;>
      simp only [State.enterOff_intake, State.declareGap_intake, State.modIntake_intake, PerSensor.get_set,
        PerSensor.set_set]

theorem IntakeRecord.copied_rated {r : IntakeRecord} (h : r.Rated) : r.copied.Rated := by
  unfold IntakeRecord.copied
  split
  · rename_i e
    simpa [IntakeRecord.Rated, IntakeRecord.copyGroup, Staged.both, e] using h
  · unfold IntakeRecord.Rated
    split <;> simp_all [IntakeRecord.copyGroup, IntakeRecord.enterGap, IntakeRecord.enterStarting, Staged.both]

theorem RateInv.copyCorrection {s : State} (h : RateInv s) (sen : Sensor) : RateInv (s.copyCorrection sen) :=
  (h.modIntake (f := IntakeRecord.copied) IntakeRecord.copied_rated).congr (s.copyCorrection_intake sen)

theorem RateInv.intakeStep {s t : State} (h : RateInv s) (hstep : IntakeStep s t) : RateInv t := by
  have handed : ∀ sen set start arrival, RateInv (s.handOn sen set start arrival) := fun sen set start arrival =>
    h.congr (s.handOn_intake sen set start arrival)
  cases hstep with
  | off sen => exact h.modIntake id
  | flag sen f => exact h.setIntakeFlag sen f
  | bad sen now _ => exact (h.modIntake (f := .countBad now) id).setIntakeFlag sen .parity
  | badGap sen now hs =>
    refine ((h.modIntake (f := .countBad now) id).setIntakeFlag sen .parity).declareGap ?_ true
    rw [State.setIntakeFlag_state]
    simpa [IntakeRecord.countBad] using hs
  | expect sen => exact h.modIntake (f := .expectNext) id
  | held sen arrival => exact handed _ _ _ _
  | start f now hs =>
    refine (handed _ _ _ _).modIntake fun hr => ⟨(nomatch ·), fun e => absurd (hr.2 e) ?_⟩
    rw [State.handOn_intake]
    exact hs
  | take f g now auto => exact (handed _ _ _ _).modIntake id
  | jump f g now => exact (handed _ _ _ _).modIntake id
  | gap sen flag hs => exact h.declareGap hs flag
  | copy sen => exact h.copyCorrection sen

theorem RateInv.softReset (s : State) (p : Port) : RateInv (s.softReset p) := by
  rw [rateInv_iff]
  intro sen
  simp only [State.softReset, PerSensor.get_map, IntakeRecord.softReset, IntakeRecord.Rated]
  split <;> simp_all

theorem RateInv.reset : RateInv State.reset := fun sen => by cases sen <;> decide

theorem RateInv.step {s t : State} (h : RateInv s) (hstep : Machine.step s = .next t) : RateInv t :=
  step_keeps_signal (P := RateInv) (fun _ => RateInv.reset) (fun _ _ _ h => h) (fun _ _ h k => h.quiet k)
    (fun _ _ h k => h.intakeStep k) (fun s p _ => .softReset s p) h hstep

/-! ### The time states (R25, R28) -/

theorem State.detachPort_time (s : State) (p : Port) : (s.detachPort p).time = s.time := by
  obtain ⟨u, hu, e⟩ := s.detachPort_frames p
  rw [e, State.silenced, State.modPort_time, State.modAttention_time, hu.rest]
  rfl

theorem State.answerApply_time {s : State} {p : Port} {same : Bool} {owner : State → State × Applied}
    (h : (owner s).1.time = s.time) : (s.answerApply p same owner).state.time = s.time := by
  rcases s.answerApply_cases p same owner with e | ⟨-, e | e⟩ <;> rw [e]
  · exact h
  · exact h

/-- No command touches the Timebase. -/
theorem Owned.time {s : State} {p : Port} {r : Request} {a : Answer} (ha : Owned p s r a) : a.state.time = s.time := by
  cases ha with
  | attach =>
    rcases s.answerAttach_cases p with e | ⟨-, k⟩
    · rw [e]
    · rw [k.rest]; rfl
  | detach =>
    rcases s.answerDetach_cases p with e | e <;> rw [e]
    exact s.detachPort_time p
  | status => rfl
  | take =>
    rcases s.answerTake_cases p with ⟨-, e⟩ | ⟨n, rest, -, k⟩
    · rw [e]
    · rw [k.rest]; rfl
  | readPick id => unfold State.answerReadPick; split <;> rfl
  | readGroup id => unfold State.answerReadGroup; split <;> rfl
  | retract id => rw [(s.answerRetract_picks p id.toNat).rest]
  | setUnknown w v => rfl
  | set w v i =>
    rcases s.answerSet_cases p i v with e | ⟨s', k, -, e⟩ <;> rw [e]
    split <;> rw [k.rest]
    rfl
  | getUnknown w => rfl
  | get w i =>
    change (s.afterGet i).time = s.time
    unfold State.afterGet State.readIntake
    split <;> try split
    all_goals rfl
  | applyCorrection _ _ sen => exact State.answerApply_time (by rw [(s.applyCorrection_works sen).rest])
  | applyDetector _ _ sen => exact State.answerApply_time (by rw [(s.applyDetector_works sen).rest])
  | applyRefinement _ _ sen => exact State.answerApply_time (by rw [(s.applyRefinement_grants sen).rest]; rfl)
  | applyGrouping => exact State.answerApply_time rfl
  | applyPresets => exact State.answerApply_time rfl
  | freeze => unfold State.answerFreeze; split <;> rfl
  | loadChain count words => rcases s.answerLoad_cases p count words with e | ⟨-, l, -, e⟩ <;> rw [e]; rfl
  | startChain => rw [(s.answerStart_keeps p).rest]
  | pauseChain => rcases s.answerPause_cases p with e | ⟨-, point, e⟩ <;> rw [e]; rfl
  | resetChain => rfl
  | readExcerpt maximum => rcases s.answerRead_cases p maximum.toNat with e | ⟨-, k, e⟩ <;> rw [e]; rfl
  | attnDone classes => rcases s.answerAttnDone_cases p classes.toNat with e | ⟨c, e⟩ <;> rw [e]; rfl
  | softReset => rfl

/-- What a step makes of the Timebase's record: one of its events, or nothing. -/
theorem Effect.time_cases {s t : State} (he : Effect s t) :
    t.time = s.time ∨ (∃ chars, t = s.timeLink chars) ∨ t = s.messageExpiry ∨ t = s.mark ∨ t = s.markLoss := by
  cases he with
  | idle => exact .inl rfl
  | frame bytes =>
    cases hf : parseFrame bytes with
    | none => unfold State.frame; rw [hf]; exact .inl rfl
    | some f => exact .inl (by rw [(State.frame_works hf).rest])
  | frameSilence sen => exact .inl (by rw [(s.frameSilence_works sen).rest])
  | grant =>
    rcases s.grant_cases with e | ⟨r, -, e⟩ <;> rw [e]
    · exact .inl rfl
    · cases r with
      | refiner => exact .inl (by rw [State.readBlock, (State.refinerBlock_grants _).rest])
      | chain p => exact .inl (by rw [State.readBlock, (State.chainBlock_only _ p).rest])
  | pickWrite =>
    rcases s.pickWrite_cases with e | ⟨w, q, -, e⟩ <;> rw [e]
    · exact .inl rfl
    · obtain ⟨u, r, v, hu, -, hv, -, ht⟩ := s.writePick_frames w q
      refine .inl ?_
      rw [ht.rest, hv.rest]
      exact hu.time
  | waitTimeout p kind => exact .inl (by rw [(s.waitTimeout_keeps p kind).rest])
  | timeLink chars => exact .inr (.inl ⟨chars, rfl⟩)
  | messageExpiry => exact .inr (.inr (.inl rfl))
  | mark => exact .inr (.inr (.inr (.inl rfl)))
  | markLoss => exact .inr (.inr (.inr (.inr rfl)))
  | takeCommand p message sent =>
    obtain ⟨_, _, e⟩ := s.takeCommand_transacted p message sent
    rw [e]; exact .inl rfl
  | takeResponse p clocked sent =>
    obtain ⟨_, _, e⟩ := s.takeResponse_transacted p clocked sent
    rw [e]; exact .inl rfl
  | ignored p sent => exact .inl rfl
  | portSilence p =>
    rcases s.portSilence_cases p with e | e <;> rw [e]
    · exact .inl rfl
    · exact .inl (s.detachPort_time p)
  | endPulse p => exact .inl rfl
  | command p r a ha => exact .inl ha.time

theorem TimeInv.congr {s t : State} (h : TimeInv s) (hs : t.time.state = s.time.state)
    (ha : t.time.anchor = s.time.anchor) (hl : t.time.lastValidMark = s.time.lastValidMark) : TimeInv t := by
  unfold TimeInv
  rwa [hs, ha, hl]

/-- A Timebase that holds time keeps its anchor and its last valid mark when it loses the time source. -/
theorem TimeInv.holdover {s t : State} (h : TimeInv s) (hs : s.time.state = .locked) (ht : t.time.state = .holdover)
    (ha : t.time.anchor = s.time.anchor) (hl : t.time.lastValidMark = s.time.lastValidMark) : TimeInv t := by
  obtain ⟨h1, h2⟩ := h
  rw [hs] at h1 h2
  unfold TimeInv
  rw [ht, ha, hl]
  exact ⟨⟨(nomatch ·), fun e => nomatch h1.2 e⟩, ⟨(nomatch ·), fun e => nomatch h2.2 e⟩⟩

theorem TimeInv.timeLink {s : State} (h : TimeInv s) (chars : List TimedChar) : TimeInv (s.timeLink chars) := by
  have k := s.timeLink_times chars
  rcases k.lost with ⟨hst, -, -⟩ | ⟨hl, hh, -, -⟩
  · exact h.congr hst k.anchor k.lastValidMark
  · exact h.holdover hl hh k.anchor k.lastValidMark

/-- R25, R26: a valid mark locks the Timebase with an anchor and a last valid mark. -/
theorem State.validMark_holds (s : State) (seconds : Nat) :
    (s.validMark seconds).time.state = .locked ∧ (s.validMark seconds).time.anchor ≠ none
      ∧ (s.validMark seconds).time.lastValidMark ≠ none := by
  unfold State.validMark
  dsimp only
  split
  · simp [Timebase.renew]
  · split <;> simp [Timebase.renew]

theorem TimeInv.mark {s : State} (h : TimeInv s) : TimeInv s.mark := by
  unfold State.mark
  split
  · rename_i m _
    split
    · obtain ⟨hs, ha, hl⟩ := s.validMark_holds m.seconds
      exact ⟨by simp [hs, ha], by simp [hs, hl]⟩
    · exact h
  · exact h

theorem TimeInv.markLoss {s : State} (h : TimeInv s) : TimeInv s.markLoss := by
  unfold State.markLoss
  split
  · rename_i hover
    refine h.holdover ?_ rfl rfl rfl
    unfold Timebase.markOverdue at hover
    split at hover
    · assumption
    · cases hover
  · exact h

theorem TimeInv.effect {s t : State} (h : TimeInv s) (he : Effect s t) : TimeInv t := by
  rcases he.time_cases with e | ⟨chars, rfl⟩ | rfl | rfl | rfl
  · exact h.congr (by rw [e]) (by rw [e]) (by rw [e])
  · exact h.timeLink chars
  · unfold State.messageExpiry
    split <;> exact h
  · exact h.mark
  · exact h.markLoss

theorem TimeInv.reset : TimeInv State.reset := ⟨by decide, by decide⟩

/-- Settles O53: of the steps of Sample Intake those that change a state or a rate keep them together; of the Timebase's
events a valid mark alone sets an anchor, and none takes one away. -/
theorem modesMatchTheirFields : Obligations.ModesMatchTheirFields := fun _ _ hstep =>
  ⟨fun h => h.step hstep, fun h => step_keeps (P := TimeInv) (fun _ => TimeInv.reset) (fun _ _ _ h => h)
    (fun _ _ h he => h.effect he) h hstep⟩

end Sys2Proof.Machine


/-! PROOFS. What every step keeps of the rings, the signals and the counts: each step of Sample Intake is followed into
the ring, the channels and the intake record of its sensor. -/

namespace Sys2Proof.Machine

/-! ### What handing on a set leaves of its ring -/

/-- A ring record that differs at most in its map, its counts and its newest local time. -/
structure RingRecord.Settles (r t : RingRecord) : Prop where
  slots : t.slots = r.slots
  newest : t.newest = r.newest
  oldest : t.oldest = r.oldest
  page : t.page = r.page
  setsInPage : t.setsInPage = r.setsInPage
  wf : Store.wf r.pageMap = true → Store.wf t.pageMap = true
  keys : ∀ x ∈ t.pageMap, ∃ y ∈ r.pageMap, y.1 = x.1
  counts : r.mapCorrected ≤ 65535 ∧ r.mapFaults ≤ 65535 → t.mapCorrected ≤ 65535 ∧ t.mapFaults ≤ 65535

theorem RingRecord.MapReads.settles {r t : RingRecord} (h : r.MapReads t) : r.Settles t :=
  ⟨h.slots, h.newest, h.oldest, by rw [h.rest], by rw [h.rest], h.wf, h.keys, h.counts⟩

theorem RingRecord.Settles.trans {r t u : RingRecord} (h : r.Settles t) (k : t.Settles u) : r.Settles u :=
  ⟨k.slots.trans h.slots, k.newest.trans h.newest, k.oldest.trans h.oldest, k.page.trans h.page,
    k.setsInPage.trans h.setsInPage, fun x => k.wf (h.wf x), fun x hx =>
      let ⟨y, hy, e⟩ := k.keys x hx
      let ⟨z, hz, e'⟩ := h.keys y hy
      ⟨z, hz, e'.trans e⟩, fun x => k.counts (h.counts x)⟩

theorem RingRecord.settles_newestLocal (r : RingRecord) (n : Option Nat) :
    r.Settles { r with newestLocal := n } := ⟨rfl, rfl, rfl, rfl, rfl, id, fun x hx => ⟨x, hx, rfl⟩, id⟩

/-- R36, R38: where a set is placed. A stream-start set opens the next page, in which the page in use is closed short;
another set opens it where the page in use is full or closed, and else stands behind the newest set. -/
inductive RingRecord.Places (p : PageSize) (set : SampleSet) (e : MapEntry) (r : RingRecord) : Bool → RingRecord → Prop
  | opens (start : Bool) (q : RingRecord) (hq : start = false ∧ q = r ∨ q = r.closeShort p) :
      Places p set e r start (q.opening p set (r.nextPageStart p) e)
  | appends (m : Nat) (hpage : r.page = some .opened) (hnewest : r.newest = some m) (hroom : (m + 1) % p.sets ≠ 0) :
      Places p set e r false (r.appending p set (m + 1))

/-- R4: the ring of a sensor after a set has been handed on. -/
theorem State.handOn_ring (s : State) (sen : Sensor) (set : SampleSet) (start : Bool) (arrival : Nat) :
    ∃ u, (s.ring.get sen).Places s.pageSize.active set
        (s.newEntry sen ((s.ring.get sen).nextPageStart s.pageSize.active) arrival) start u
      ∧ u.Settles ((s.handOn sen set start arrival).ring.get sen) := by
  obtain ⟨v, newestLocal, hv, hstored⟩ := s.storeSet_ring sen set start arrival
  have hfollows := ((s.handOn_follows sen set start arrival).ring sen).settles
  rw [hstored] at hfollows
  have hlate := (hv.settles.trans (v.settles_newestLocal newestLocal)).trans hfollows
  rcases s.placeSet_ring sen set start arrival with ⟨q, hq, e⟩ | ⟨rfl, m, hpage, hm, hroom, k⟩
  · exact ⟨_, .opens start q hq, e ▸ hlate⟩
  · exact ⟨_, .appends m hpage hm hroom, k.settles.trans hlate⟩

/-- The other sensors' rings are read at most. -/
theorem State.handOn_ring_other (s : State) {sen i : Sensor} (h : i ≠ sen) (set : SampleSet) (start : Bool)
    (arrival : Nat) : (s.ring.get i).Settles ((s.handOn sen set start arrival).ring.get i) := by
  rw [← (s.storeSet_stores sen set start arrival).others i h]
  exact ((s.handOn_follows sen set start arrival).ring i).settles

theorem State.announcedGap_ring (s : State) (sen : Sensor) :
    ((s.ring.get sen).closeShort s.pageSize.active).Settles ((s.announcedGap sen).ring.get sen) := by
  have h := ((s.announcedGap_follows sen (heldSet none)).ring sen).settles
  rwa [State.closePageShort, State.modRing_ring, PerSensor.get_set] at h

theorem State.announcedGap_ring_other (s : State) {sen i : Sensor} (h : i ≠ sen) :
    (s.ring.get i).Settles ((s.announcedGap sen).ring.get i) := by
  have k := ((s.announcedGap_follows sen (heldSet none)).ring i).settles
  rwa [State.closePageShort, State.modRing_ring, PerSensor.get_set_ne _ _ h] at k

theorem State.declareGap_ring (s : State) (sen : Sensor) (flag : Bool) :
    (s.declareGap sen flag).ring = (s.announcedGap sen).ring := by
  rw [State.declareGap_eq]
  cases flag <;> rfl

theorem State.declareGap_detector (s : State) (sen : Sensor) (flag : Bool) :
    (s.declareGap sen flag).detector = (s.announcedGap sen).detector := by
  rw [State.declareGap_eq]
  cases flag <;> rfl

/-! ### The canonical form of the stores -/

/-- The stores of one ring. -/
def RingRecord.StoresOk (p : PageSize) (r : RingRecord) : Prop :=
  Store.wf r.slots = true ∧ Store.wf r.pageMap = true ∧ (∀ x ∈ r.slots, x.1 < Config.ringSlots)
    ∧ ∀ x ∈ r.pageMap, x.1 < p.pages

theorem storeInv_iff {s : State} : StoreInv s ↔ ∀ sen, (s.ring.get sen).StoresOk s.pageSize.active := Iff.rfl

theorem RingRecord.Settles.storesOk {p : PageSize} {r t : RingRecord} (h : r.Settles t) (hr : r.StoresOk p) :
    t.StoresOk p := by
  obtain ⟨hs, hm, hks, hkm⟩ := hr
  refine ⟨h.slots ▸ hs, h.wf hm, h.slots ▸ hks, fun x hx => ?_⟩
  obtain ⟨y, hy, e⟩ := h.keys x hx
  exact e ▸ hkm y hy

theorem RingRecord.StoresOk.closeShort {p : PageSize} {r : RingRecord} (h : r.StoresOk p) : (r.closeShort p).StoresOk p := by
  obtain ⟨hs, hm, hks, hkm⟩ := h
  unfold RingRecord.closeShort
  split
  · exact ⟨Store.wf_eraseRange _ _ hs, hm, fun x hx => hks x (Store.mem_eraseRange hx), hkm⟩
  · exact ⟨hs, hm, hks, hkm⟩

theorem RingRecord.slot_write {r : RingRecord} {set : SampleSet} (n : Nat) (h : Store.wf r.slots = true)
    (hk : ∀ x ∈ r.slots, x.1 < Config.ringSlots) :
    Store.wf (Store.write r.slots (n % Config.ringSlots) set) = true
      ∧ ∀ x ∈ Store.write r.slots (n % Config.ringSlots) set, x.1 < Config.ringSlots := by
  refine ⟨Store.wf_write _ _ h, fun x hx => ?_⟩
  rcases Store.mem_write hx with rfl | hx
  · exact Nat.mod_lt _ (by decide)
  · exact hk x hx

theorem RingRecord.Places.storesOk {p : PageSize} {set : SampleSet} {e : MapEntry} {r u : RingRecord} {start : Bool}
    (h : r.Places p set e start u) (hr : r.StoresOk p) : u.StoresOk p := by
  cases h with
  | opens start q hq =>
    have hqok : q.StoresOk p := by
      rcases hq with ⟨-, rfl⟩ | rfl
      · exact hr
      · exact hr.closeShort
    obtain ⟨hs, hm, hks, hkm⟩ := hqok
    obtain ⟨hs', hks'⟩ := RingRecord.slot_write (set := set) (r.nextPageStart p) hs hks
    refine ⟨hs', Store.wf_write _ _ hm, hks', fun x hx => ?_⟩
    rcases Store.mem_write hx with rfl | hx
    · exact p.mapIndex_lt _
    · exact hkm x hx
  | appends m _ _ _ =>
    obtain ⟨hs, hm, hks, hkm⟩ := hr
    obtain ⟨hs', hks'⟩ := RingRecord.slot_write (set := set) (m + 1) hs hks
    exact ⟨hs', hm, hks', hkm⟩

theorem StoreInv.congr {s t : State} (h : StoreInv s) (hr : t.ring = s.ring) (hp : t.pageSize = s.pageSize) :
    StoreInv t := by
  rw [storeInv_iff] at h ⊢
  rwa [hr, hp]

theorem StoreInv.quiet {s t : State} (h : StoreInv s) (k : Quiet s t) : StoreInv t := by
  rw [storeInv_iff] at h ⊢
  rw [k.pageSize]
  exact fun sen => (k.ring sen).settles.storesOk (h sen)

theorem StoreInv.handOn {s : State} (h : StoreInv s) (sen : Sensor) (set : SampleSet) (start : Bool) (arrival : Nat) :
    StoreInv (s.handOn sen set start arrival) := by
  rw [storeInv_iff] at h ⊢
  have hp : (s.handOn sen set start arrival).pageSize = s.pageSize := by rw [(s.handOn_works sen set start arrival).rest]
  rw [hp]
  intro i
  by_cases e : i = sen
  · subst e
    obtain ⟨u, hu, hs⟩ := s.handOn_ring i set start arrival
    exact hs.storesOk (hu.storesOk (h i))
  · exact (s.handOn_ring_other e set start arrival).storesOk (h i)

theorem StoreInv.declareGap {s : State} (h : StoreInv s) (sen : Sensor) (flag : Bool) :
    StoreInv (s.declareGap sen flag) := by
  rw [storeInv_iff] at h ⊢
  have hp : (s.declareGap sen flag).pageSize = s.pageSize := by rw [(s.declareGap_works sen flag).rest]
  rw [hp, State.declareGap_ring]
  intro i
  by_cases e : i = sen
  · subst e
    exact (s.announcedGap_ring i).storesOk (h i).closeShort
  · exact (s.announcedGap_ring_other e).storesOk (h i)

/-- R18: what entering OFF leaves of the rings and the channels. -/
theorem State.enterOff_rest (s : State) (sen : Sensor) :
    (s.enterOff sen).ring = s.ring ∧ (s.enterOff sen).pageSize = s.pageSize ∧ (s.enterOff sen).detector = s.detector := by
  have h := (State.retest_grants (s.modIntake sen fun r => { r with state := .off })).rest
  refine ⟨?_, ?_, ?_⟩ <;> unfold State.enterOff <;> rw [h] <;> rfl

theorem StoreInv.copyCorrection {s : State} (h : StoreInv s) (sen : Sensor) : StoreInv (s.copyCorrection sen) := by
  refine State.copyCorrection_keep (fun u t hu hstep => ?_) h
  cases hstep with
  | copy => exact hu.congr rfl rfl
  | gap => exact hu.declareGap sen false
  | off => exact hu.congr (u.enterOff_rest sen).1 (u.enterOff_rest sen).2.1
  | starting => exact hu.congr rfl rfl

theorem StoreInv.intakeStep {s t : State} (h : StoreInv s) (hstep : IntakeStep s t) : StoreInv t := by
  cases hstep with
  | off sen => exact h.congr rfl rfl
  | flag sen f => exact h.congr rfl rfl
  | bad sen now _ => exact h.congr rfl rfl
  | badGap sen now _ =>
    exact (h.congr (t := (s.modIntake sen (.countBad now)).setIntakeFlag sen .parity) rfl rfl).declareGap sen true
  | expect sen => exact h.congr rfl rfl
  | held sen arrival => exact h.handOn sen _ false arrival
  | start f now _ => exact (h.handOn f.sensor (correct (s.activeCorrection f.sensor) f) true now).congr rfl rfl
  | take f g now auto => exact (h.handOn f.sensor (correct g f) false now).congr rfl rfl
  | jump f g now => exact (h.handOn f.sensor (correct g f) false now).congr rfl rfl
  | gap sen flag _ => exact h.declareGap sen flag
  | copy sen => exact h.copyCorrection sen

/-! ### The page in use (R34, R36, R39) -/

/-- R34, R36, R39, of the ring of one sensor. -/
def RingRecord.PageOk (p : PageSize) (running : Prop) (r : RingRecord) : Prop :=
  (r.newest = none → r.page = none ∧ r.oldest = none ∧ ¬ running)
    ∧ ∀ n, r.newest = some n → (∃ o, r.oldest = some o ∧ o ≤ n)
      ∧ (r.page = some .opened → r.setsInPage = some (n % p.sets + 1) ∧ n % p.sets + 1 < p.sets)
      ∧ (running → r.page = some .opened ∨ n % p.sets + 1 = p.sets)

theorem pageInv_iff {s : State} : PageInv s ↔ ∀ sen,
    (s.ring.get sen).PageOk s.pageSize.active ((s.intake.get sen).state = .running) := Iff.rfl

theorem RingRecord.Settles.pageOk {p : PageSize} {running : Prop} {r t : RingRecord} (h : r.Settles t)
    (hr : r.PageOk p running) : t.PageOk p running := by
  unfold RingRecord.PageOk
  rw [h.newest, h.oldest, h.page, h.setsInPage]
  exact hr

/-- A ring that is in order is so whatever the intake state, where the state is no longer RUNNING. -/
theorem RingRecord.PageOk.mono {p : PageSize} {running running' : Prop} {r : RingRecord} (h : r.PageOk p running)
    (hr : running' → running) : r.PageOk p running' := by
  obtain ⟨hnone, hsome⟩ := h
  refine ⟨fun e => ?_, fun n e => ?_⟩
  · obtain ⟨hp, ho, hn⟩ := hnone e
    exact ⟨hp, ho, fun x => hn (hr x)⟩
  · obtain ⟨ho, hp, hn⟩ := hsome n e
    exact ⟨ho, hp, fun x => hn (hr x)⟩

/-- R39: a page closed short is in order outside RUNNING. -/
theorem RingRecord.PageOk.closeShort {p : PageSize} {running : Prop} {r : RingRecord} (h : r.PageOk p running) :
    (r.closeShort p).PageOk p False := by
  obtain ⟨hnone, hsome⟩ := h
  unfold RingRecord.PageOk
  rw [RingRecord.closeShort_newest, RingRecord.closeShort_oldest, RingRecord.closeShort_page]
  refine ⟨fun e => ?_, fun n e => ?_⟩
  · obtain ⟨hp, ho, -⟩ := hnone e
    exact ⟨by simp [hp], ho, id⟩
  · obtain ⟨ho, -, -⟩ := hsome n e
    refine ⟨ho, fun hp => ?_, False.elim⟩
    split at hp
    · cases hp
    · rename_i hnot
      exact absurd ⟨hp, by simp [e]⟩ hnot

/-- R37: the page that a set opens holds that set. -/
theorem RingRecord.oldestAfterOpening_le {p : PageSize} {r : RingRecord}
    (h : ∀ m, r.newest = some m → ∃ o, r.oldest = some o ∧ o ≤ m) :
    ∃ o, r.oldestAfterOpening p (r.nextPageStart p) = some o ∧ o ≤ r.nextPageStart p := by
  unfold RingRecord.oldestAfterOpening
  cases hm : r.newest with
  | none => exact ⟨_, rfl, le_refl _⟩
  | some m =>
    obtain ⟨o, ho, hle⟩ := h m hm
    have hstart : r.nextPageStart p = (m / p.sets + 1) * p.sets := by simp [RingRecord.nextPageStart, hm]
    have hnext : o ≤ (m / p.sets + 1) * p.sets := by
      have := Nat.lt_div_mul_add (a := m) p.sets_pos
      rw [Nat.add_mul, one_mul]
      omega
    rw [hstart, Nat.mul_div_cancel _ p.sets_pos]
    dsimp only
    split
    · refine ⟨_, rfl, max_le (by simpa [ho] using hnext) (Nat.mul_le_mul_right _ ?_)⟩
      have := p.pages_pos
      omega
    · exact ⟨o, ho, hnext⟩

theorem RingRecord.nextPageStart_mod (p : PageSize) (r : RingRecord) : r.nextPageStart p % p.sets = 0 := by
  unfold RingRecord.nextPageStart
  split
  · exact Nat.zero_mod _
  · exact Nat.mul_mod_left _ _

theorem RingRecord.oldestAfterOpening_congr {p : PageSize} {q r : RingRecord} (hn : q.newest = r.newest)
    (ho : q.oldest = r.oldest) (n : Nat) : q.oldestAfterOpening p n = r.oldestAfterOpening p n := by
  unfold RingRecord.oldestAfterOpening
  rw [hn, ho]

theorem RingRecord.Places.pageOk {p : PageSize} {set : SampleSet} {e : MapEntry} {r u : RingRecord} {start : Bool}
    {running : Prop} (h : r.Places p set e start u) (hr : r.PageOk p running) : u.PageOk p True := by
  obtain ⟨-, hsome⟩ := hr
  cases h with
  | opens start q hq =>
    obtain ⟨hn, ho⟩ : q.newest = r.newest ∧ q.oldest = r.oldest := by
      rcases hq with ⟨-, rfl⟩ | rfl
      · exact ⟨rfl, rfl⟩
      · exact ⟨r.closeShort_newest p, r.closeShort_oldest p⟩
    obtain ⟨o, hold, hle⟩ := RingRecord.oldestAfterOpening_le (p := p) fun m hm => (hsome m hm).1
    refine ⟨(nomatch ·), fun n en => ?_⟩
    cases en
    refine ⟨⟨o, (RingRecord.oldestAfterOpening_congr hn ho _).trans hold, hle⟩, fun _ => ?_, fun _ => .inl rfl⟩
    rw [r.nextPageStart_mod p]
    exact ⟨rfl, p.two_le_sets⟩
  | appends m hpage hnewest hroom =>
    obtain ⟨⟨o, ho, hle⟩, hopen, -⟩ := hsome m hnewest
    obtain ⟨hsets, hlt⟩ := hopen hpage
    have hmod : (m + 1) % p.sets = m % p.sets + 1 := by
      rw [PageSize.mod_succ, if_neg (by omega)]
    refine ⟨(nomatch ·), fun n en => ?_⟩
    cases en
    rw [hmod]
    simp only [RingRecord.appending, hsets, Option.getD_some]
    refine ⟨⟨o, ho, by omega⟩, fun hp => ⟨trivial, ?_⟩, fun _ => ?_⟩
    · split at hp
      · cases hp
      · omega
    · split
      · exact .inr (by assumption)
      · exact .inl rfl

/-- The ring of a stream that starts, as the first set leaves it, may be RUNNING; elsewhere the state is what it was. -/
theorem PageInv.handOn {s : State} (h : PageInv s) (sen : Sensor) (set : SampleSet) (start : Bool) (arrival : Nat)
    {f : IntakeRecord → IntakeRecord} : PageInv ((s.handOn sen set start arrival).modIntake sen f) := by
  rw [pageInv_iff] at h ⊢
  have hp : (s.handOn sen set start arrival).pageSize = s.pageSize := by rw [(s.handOn_works sen set start arrival).rest]
  simp only [State.modIntake_pageSize, State.modIntake_ring, State.modIntake_intake, State.handOn_intake, hp]
  intro i
  by_cases e : i = sen
  · subst e
    obtain ⟨u, hu, hs⟩ := s.handOn_ring i set start arrival
    exact (hs.pageOk (hu.pageOk (h i))).mono fun _ => trivial
  · rw [PerSensor.get_set_ne _ _ e]
    exact (s.handOn_ring_other e set start arrival).pageOk (h i)

theorem PageInv.congr {s t : State} (h : PageInv s) (hr : t.ring = s.ring) (hp : t.pageSize = s.pageSize)
    (hi : ∀ sen, (t.intake.get sen).state = .running → (s.intake.get sen).state = .running) : PageInv t := by
  rw [pageInv_iff] at h ⊢
  rw [hr, hp]
  exact fun sen => (h sen).mono (hi sen)

theorem PageInv.modIntake {s : State} (h : PageInv s) (sen : Sensor) {f : IntakeRecord → IntakeRecord}
    (hf : ∀ r, (f r).state = .running → r.state = .running) : PageInv (s.modIntake sen f) := by
  refine h.congr rfl rfl fun i => ?_
  by_cases e : i = sen
  · subst e
    simpa using hf _
  · simp [PerSensor.get_set_ne _ _ e]

theorem PageInv.quiet {s t : State} (h : PageInv s) (k : Quiet s t) : PageInv t := by
  rw [pageInv_iff] at h ⊢
  intro sen
  rw [k.pageSize, k.intake sen]
  exact (k.ring sen).settles.pageOk (h sen)

theorem PageInv.setIntakeFlag {s : State} (h : PageInv s) (sen : Sensor) (f : IntakeFlag) :
    PageInv (s.setIntakeFlag sen f) :=
  h.congr rfl rfl fun i e => by rwa [State.setIntakeFlag_state] at e

theorem State.declareGap_state_other (s : State) {sen i : Sensor} (h : i ≠ sen) (flag : Bool) :
    (s.declareGap sen flag).intake.get i = s.intake.get i := by
  rw [State.declareGap_eq]
  cases flag <;> simp [PerSensor.get_set_ne _ _ h, State.announcedGap_intake]

theorem PageInv.declareGap {s : State} (h : PageInv s) (sen : Sensor) (flag : Bool) : PageInv (s.declareGap sen flag) := by
  rw [pageInv_iff] at h ⊢
  have hp : (s.declareGap sen flag).pageSize = s.pageSize := by rw [(s.declareGap_works sen flag).rest]
  rw [hp, State.declareGap_ring]
  intro i
  by_cases e : i = sen
  · subst e
    refine ((s.announcedGap_ring i).pageOk (h i).closeShort).mono fun hrun => ?_
    rw [State.declareGap_state] at hrun
    cases hrun
  · rw [State.declareGap_state_other s e]
    exact (s.announcedGap_ring_other e).pageOk (h i)

theorem PageInv.copyCorrection {s : State} (h : PageInv s) (sen : Sensor) : PageInv (s.copyCorrection sen) := by
  refine State.copyCorrection_keep (fun u t hu hstep => ?_) h
  cases hstep with
  | copy => exact hu.modIntake sen (f := .copyGroup) fun _ e => e
  | gap => exact hu.declareGap sen false
  | off =>
    refine (hu.modIntake sen (f := fun r => { r with state := .off }) fun _ e => nomatch e).congr
      (u.enterOff_rest sen).1 (u.enterOff_rest sen).2.1 fun i => ?_
    rw [State.enterOff_intake]
    exact id
  | starting => exact hu.modIntake sen (f := .enterStarting) fun _ e => nomatch e

theorem State.modIntake_id (s : State) (sen : Sensor) : s.modIntake sen id = s := by
  simp [State.modIntake]

theorem PageInv.intakeStep {s t : State} (h : PageInv s) (hstep : IntakeStep s t) : PageInv t := by
  cases hstep with
  | off sen => exact h.modIntake sen (f := .countOff) fun _ e => e
  | flag sen f => exact h.setIntakeFlag sen f
  | bad sen now _ => exact (h.modIntake sen (f := .countBad now) fun _ e => e).setIntakeFlag sen .parity
  | badGap sen now _ =>
    exact ((h.modIntake sen (f := .countBad now) fun _ e => e).setIntakeFlag sen .parity).declareGap sen true
  | expect sen => exact h.modIntake sen (f := .expectNext) fun _ e => e
  | held sen arrival =>
    have k := h.handOn sen (heldSet (s.intake.get sen).lastGood) false arrival (f := id)
    rwa [State.modIntake_id] at k
  | start f now _ => exact h.handOn f.sensor _ true now
  | take f g now auto => exact h.handOn f.sensor _ false now
  | jump f g now => exact h.handOn f.sensor _ false now
  | gap sen flag _ => exact h.declareGap sen flag
  | copy sen => exact h.copyCorrection sen

theorem IntakeRecord.softReset_state (r : IntakeRecord) : r.softReset.state ≠ .running := by
  simp only [IntakeRecord.softReset]
  generalize (if r.applyPending then Staged.both r.correction.staged else r.correction).active.rate = rate
  cases rate <;> decide

/-- An empty ring is in order. -/
theorem RingRecord.reset_ok (p : PageSize) : RingRecord.reset.StoresOk p ∧ RingRecord.reset.PageOk p False :=
  ⟨⟨rfl, rfl, by simp [RingRecord.reset], by simp [RingRecord.reset]⟩, fun _ => ⟨rfl, rfl, id⟩, fun _ h => nomatch h⟩

theorem StoreInv.softReset (s : State) (p : Port) : StoreInv (s.softReset p) := by
  rw [storeInv_iff]
  intro sen
  simp only [State.softReset, PerSensor.get_all]
  exact (RingRecord.reset_ok _).1

theorem PageInv.softReset (s : State) (p : Port) : PageInv (s.softReset p) := by
  rw [pageInv_iff]
  intro sen
  simp only [State.softReset, PerSensor.get_all, PerSensor.get_map]
  refine (RingRecord.reset_ok _).2.mono fun h => ?_
  exact absurd h (IntakeRecord.softReset_state _)

theorem StoreInv.reset (rest : List Instr) : StoreInv { State.reset with pending := rest } := by
  rw [storeInv_iff]
  intro sen
  cases sen <;> exact (RingRecord.reset_ok _).1

theorem PageInv.reset (rest : List Instr) : PageInv { State.reset with pending := rest } := by
  rw [pageInv_iff]
  intro sen
  cases sen <;> exact (RingRecord.reset_ok _).2.mono fun h => nomatch h

/-- Settles O52: every set that is stored is placed in the canonical form, in a page that the newest sample number then
describes, and nothing else that a step does moves a set. -/
theorem storesStayCanonical : Obligations.StoresStayCanonical :=
  ⟨fun _ _ h hstep => step_keeps_signal (P := StoreInv) StoreInv.reset (fun _ _ _ h => h) (fun _ _ h k => h.quiet k)
      (fun _ _ h k => h.intakeStep k) (fun s p _ => .softReset s p) h hstep,
    fun _ _ h hstep => step_keeps_signal (P := PageInv) PageInv.reset (fun _ _ _ h => h) (fun _ _ h k => h.quiet k)
      (fun _ _ h k => h.intakeStep k) (fun s p _ => .softReset s p) h hstep⟩

end Sys2Proof.Machine


/-! PROOFS. The ranges of samples, averages and ratios (R4, R16, R60), and the capacities and counts. -/

namespace Sys2Proof.Machine

/-! ### Sets in range -/

theorem saturateSample_inRange (x : Int) : inSampleRange (saturateSample x) := by
  unfold saturateSample saturate inSampleRange
  simp only [Config.sampleMax]
  split_ifs <;> omega

/-- R15, R16: a corrected set is saturated. -/
theorem correct_inRange (g : CorrectionGroup) (f : Frame) : (correct g f).inRange :=
  ⟨saturateSample_inRange _, saturateSample_inRange _, saturateSample_inRange _⟩

/-- R4: a held set repeats one in range, or is zero. -/
theorem heldSet_inRange {last : Option SampleSet} (h : ∀ x, last = some x → x.inRange) : (heldSet last).inRange := by
  cases last with
  | none =>
    refine ⟨?_, ?_, ?_⟩ <;> unfold inSampleRange <;> decide
  | some x => exact h x rfl

/-! ### Samples, averages and ratios -/

theorem RingRecord.Settles.slotsOk {r t : RingRecord} (h : r.Settles t) (hr : ∀ x ∈ r.slots, x.2.inRange) :
    ∀ x ∈ t.slots, x.2.inRange := by rwa [h.slots]

theorem RingRecord.closeShort_slotsOk {p : PageSize} {r : RingRecord} (hr : ∀ x ∈ r.slots, x.2.inRange) :
    ∀ x ∈ (r.closeShort p).slots, x.2.inRange := by
  unfold RingRecord.closeShort
  split
  · exact fun x hx => hr x (Store.mem_eraseRange hx)
  · exact hr

theorem RingRecord.write_slotsOk {m : Store SampleSet} {set : SampleSet} (hset : set.inRange)
    (hr : ∀ x ∈ m, x.2.inRange) (k : Nat) : ∀ x ∈ Store.write m k set, x.2.inRange := fun x hx => by
  rcases Store.mem_write hx with rfl | hx
  · exact hset
  · exact hr x hx

theorem RingRecord.Places.slotsOk {p : PageSize} {set : SampleSet} {e : MapEntry} {r u : RingRecord} {start : Bool}
    (h : r.Places p set e start u) (hset : set.inRange) (hr : ∀ x ∈ r.slots, x.2.inRange) :
    ∀ x ∈ u.slots, x.2.inRange := by
  cases h with
  | opens start q hq =>
    refine RingRecord.write_slotsOk hset ?_ _
    rcases hq with ⟨-, rfl⟩ | rfl
    · exact hr
    · exact RingRecord.closeShort_slotsOk hr
  | appends m _ _ _ => exact RingRecord.write_slotsOk hset hr _

/-- R4, R16, R60, of one sensor's intake record, ring and channels. -/
theorem signalInv_iff {s : State} : SignalInv s ↔ (∀ sen x, (s.intake.get sen).lastGood = some x → x.inRange)
    ∧ (∀ sen, ∀ x ∈ (s.ring.get sen).slots, x.2.inRange) ∧ ∀ sen ch, (s.channel sen ch).inRange :=
  ⟨fun h => ⟨fun sen => (h sen).1, fun sen => (h sen).2.1, fun sen => (h sen).2.2⟩,
    fun ⟨h1, h2, h3⟩ sen => ⟨h1 sen, h2 sen, h3 sen⟩⟩

theorem SignalInv.heldSet {s : State} (h : SignalInv s) (sen : Sensor) :
    (heldSet (s.intake.get sen).lastGood).inRange := heldSet_inRange (h sen).1

theorem SignalInv.congr {s t : State} (h : SignalInv s)
    (hi : ∀ sen x, (t.intake.get sen).lastGood = some x → (s.intake.get sen).lastGood = some x ∨ x.inRange)
    (hr : t.ring = s.ring) (hd : t.detector = s.detector) : SignalInv t := by
  rw [signalInv_iff] at h ⊢
  obtain ⟨hg, hs, hc⟩ := h
  refine ⟨fun sen x hx => ?_, by rwa [hr], fun sen ch => ?_⟩
  · rcases hi sen x hx with e | e
    · exact hg sen x e
    · exact e
  · rw [State.channel, hd]
    exact hc sen ch

theorem SignalInv.modIntake {s : State} (h : SignalInv s) (sen : Sensor) {f : IntakeRecord → IntakeRecord}
    (hf : ∀ r x, (f r).lastGood = some x → r.lastGood = some x ∨ x.inRange) : SignalInv (s.modIntake sen f) := by
  refine h.congr (fun i x hx => ?_) rfl rfl
  by_cases e : i = sen
  · subst e
    simp only [State.modIntake_intake, PerSensor.get_set] at hx
    exact hf _ x hx
  · simp only [State.modIntake_intake, PerSensor.get_set_ne _ _ e] at hx
    exact .inl hx

theorem SignalInv.setIntakeFlag {s : State} (h : SignalInv s) (sen : Sensor) (f : IntakeFlag) :
    SignalInv (s.setIntakeFlag sen f) :=
  (h.modIntake sen (f := fun r => { r with flags := r.flags.insert f }) fun _ _ e => .inl e).congr
    (fun _ _ e => .inl e) rfl rfl

theorem SignalInv.quiet {s t : State} (h : SignalInv s) (k : Quiet s t) : SignalInv t := by
  have hzero := heldSet_inRange (last := none) fun _ e => nomatch e
  rw [signalInv_iff] at h ⊢
  obtain ⟨hg, hs, hc⟩ := h
  refine ⟨fun sen x hx => ?_, fun sen => (k.ring sen).settles.slotsOk (hs sen), fun sen ch =>
    (k.channel sen ch _).range hzero (hc sen ch)⟩
  rw [k.intake sen] at hx
  exact hg sen x hx

/-- The channels of the other sensors stay; those of the sensor move with the set. -/
theorem Follows.channels {sen : Sensor} {x : SampleSet} {s t : State} (h : Follows sen x s t) (hx : x.inRange)
    (hc : ∀ i ch, (s.channel i ch).inRange) (i : Sensor) (ch : Channel) : (t.channel i ch).inRange := by
  by_cases e : i = sen
  · subst e
    exact (h.channel ch).range hx (hc i ch)
  · rw [State.channel, h.others i e]
    exact hc i ch

theorem SignalInv.handOn {s : State} (h : SignalInv s) (sen : Sensor) {set : SampleSet} (hset : set.inRange)
    (start : Bool) (arrival : Nat) : SignalInv (s.handOn sen set start arrival) := by
  rw [signalInv_iff] at h ⊢
  obtain ⟨hg, hs, hc⟩ := h
  refine ⟨by rwa [State.handOn_intake], fun i => ?_, (s.handOn_follows sen set start arrival).channels hset ?_⟩
  · by_cases e : i = sen
    · subst e
      obtain ⟨u, hu, hsettles⟩ := s.handOn_ring i set start arrival
      exact hsettles.slotsOk (hu.slotsOk hset (hs i))
    · exact (s.handOn_ring_other e set start arrival).slotsOk (hs i)
  · rw [(s.storeSet_stores sen set start arrival).rest]
    exact hc

theorem SignalInv.declareGap {s : State} (h : SignalInv s) (sen : Sensor) (flag : Bool) :
    SignalInv (s.declareGap sen flag) := by
  have hann : SignalInv (s.announcedGap sen) := by
    rw [signalInv_iff] at h ⊢
    obtain ⟨hg, hs, hc⟩ := h
    refine ⟨by rwa [State.announcedGap_intake], fun i => ?_,
      (s.announcedGap_follows sen _).channels (heldSet_inRange (last := none) fun _ e => nomatch e) hc⟩
    by_cases e : i = sen
    · subst e
      exact (s.announcedGap_ring i).slotsOk (RingRecord.closeShort_slotsOk (hs i))
    · exact (s.announcedGap_ring_other e).slotsOk (hs i)
  rw [State.declareGap_eq]
  cases flag with
  | false => exact hann.modIntake sen fun _ _ e => .inl e
  | true => exact (hann.setIntakeFlag sen .gap).modIntake sen fun _ _ e => .inl e

theorem SignalInv.copyCorrection {s : State} (h : SignalInv s) (sen : Sensor) : SignalInv (s.copyCorrection sen) := by
  refine State.copyCorrection_keep (fun u t hu hstep => ?_) h
  cases hstep with
  | copy => exact hu.modIntake sen (f := .copyGroup) fun _ _ e => .inl e
  | gap => exact hu.declareGap sen false
  | off =>
    refine (hu.modIntake sen (f := fun r => { r with state := .off }) fun _ _ e => .inl e).congr (fun i x e => .inl ?_)
      (u.enterOff_rest sen).1 (u.enterOff_rest sen).2.2
    rwa [State.enterOff_intake] at e
  | starting => exact hu.modIntake sen (f := .enterStarting) fun _ _ e => .inl e

theorem SignalInv.intakeStep {s t : State} (h : SignalInv s) (hstep : IntakeStep s t) : SignalInv t := by
  have fresh : ∀ (g : CorrectionGroup) (f : Frame) (x : SampleSet), some (correct g f) = some x → x.inRange :=
    fun g f x e => by
      cases e
      exact correct_inRange g f
  cases hstep with
  | off sen => exact h.modIntake sen (f := .countOff) fun _ _ e => .inl e
  | flag sen f => exact h.setIntakeFlag sen f
  | bad sen now _ => exact (h.modIntake sen (f := .countBad now) fun _ _ e => .inl e).setIntakeFlag sen .parity
  | badGap sen now _ =>
    exact ((h.modIntake sen (f := .countBad now) fun _ _ e => .inl e).setIntakeFlag sen .parity).declareGap sen true
  | expect sen => exact h.modIntake sen (f := .expectNext) fun _ _ e => .inl e
  | held sen arrival => exact h.handOn sen (h.heldSet sen) false arrival
  | start f now _ =>
    exact (h.handOn f.sensor (correct_inRange _ f) true now).modIntake f.sensor fun _ x e => .inr (fresh _ f x e)
  | take f g now auto =>
    exact (h.handOn f.sensor (correct_inRange g f) false now).modIntake f.sensor fun _ x e => .inr (fresh g f x e)
  | jump f g now =>
    exact (h.handOn f.sensor (correct_inRange g f) false now).modIntake f.sensor fun _ x e => .inr (fresh g f x e)
  | gap sen flag _ => exact h.declareGap sen flag
  | copy sen => exact h.copyCorrection sen

theorem ChannelRecord.inRange_of_state (state : TriggerState) :
    ({ ChannelRecord.reset with state := state } : ChannelRecord).inRange :=
  ⟨Nat.zero_le _, Nat.zero_le _, Nat.zero_le _, fun _ _ _ e => nomatch e⟩

theorem SignalInv.softReset (s : State) (p : Port) : SignalInv (s.softReset p) := by
  rw [signalInv_iff]
  refine ⟨fun sen x hx => ?_, fun sen x hx => ?_, fun sen ch => ?_⟩
  · simp only [State.softReset, PerSensor.get_map, IntakeRecord.softReset] at hx
    cases hx
  · simp only [State.softReset, PerSensor.get_all] at hx
    cases hx
  · simp only [State.softReset, State.channel, PerSensor.get_map, DetectorRecord.softReset]
    cases ch <;> exact ChannelRecord.inRange_of_state _

theorem SignalInv.reset (rest : List Instr) : SignalInv { State.reset with pending := rest } := by
  rw [signalInv_iff]
  refine ⟨fun sen x hx => ?_, fun sen x hx => ?_, fun sen ch => ?_⟩
  · cases sen <;> cases hx
  · cases sen <;> cases hx
  · cases sen <;> cases ch <;> exact ChannelRecord.inRange_of_state .blind

/-- Settles O56: a set that is stored is saturated or repeats one that is, and its energy bounds the averages. -/
theorem signalsStayInRange : Obligations.SignalsStayInRange := fun _ _ h hstep =>
  step_keeps_signal (P := SignalInv) SignalInv.reset (fun _ _ _ h => h) (fun _ _ h k => h.quiet k)
    (fun _ _ h k => h.intakeStep k) (fun s p _ => .softReset s p) h hstep

/-! ### Capacities (R77, R86, R127, R164, R186) -/

theorem CapacityInv.of_empty {s : State} (hq : ∀ sen, s.refiner.queues.get sen = []) (hg : s.grouper.groups = [])
    (hc : ∀ p, s.chain p = .reset) : CapacityInv s := by
  refine ⟨fun sen => ?_, ?_, fun p => ?_⟩
  · rw [hq]
    exact ⟨Nat.zero_le _, fun _ h => nomatch h⟩
  · rw [hg]
    exact Nat.zero_le _
  · rw [hc]
    exact Chain.reset_capacity

theorem CapacityInv.step {s t : State} (h : CapacityInv s) (hstep : Machine.step s = .next t) : CapacityInv t := by
  refine step_keeps_signal (P := CapacityInv) (fun rest => ?_) (fun _ _ _ h => h) (fun _ _ h k => k.capacity h)
    (fun _ _ h k => k.works.capacity h) (fun u p _ => ?_) h hstep
  · exact .of_empty (fun sen => by cases sen <;> rfl) rfl fun p => by cases p <;> rfl
  · exact .of_empty (fun sen => by cases sen <;> rfl) rfl fun p => by cases p <;> rfl

/-! ### Counts -/

/-- R2, R6, R9: the counts of one sensor's intake. -/
def IntakeRecord.Counted (r : IntakeRecord) : Prop :=
  r.offFrames ≤ 65535 ∧ r.consecutiveBad ≤ 8 ∧ r.consecutiveGood ≤ 64

theorem countInv_iff {s : State} : CountInv s ↔ PartCounts s ∧ (∀ sen, (s.intake.get sen).Counted)
    ∧ (∀ sen, (s.ring.get sen).mapCorrected ≤ 65535 ∧ (s.ring.get sen).mapFaults ≤ 65535)
    ∧ ∀ sen ch, (s.channel sen ch).lostTriggers ≤ 65535 := by
  constructor
  · rintro ⟨hm, hk, hb, hf, he, hr, hs⟩
    refine ⟨⟨hm, hk, hb, hf, he, hr, fun sen => ?_⟩, fun sen => ?_, fun sen => ?_, fun sen => ?_⟩ <;>
      obtain ⟨ho, hbad, hgood, hc, hfault, hlost, hch⟩ := hs sen
    · exact hlost
    · exact ⟨ho, hbad, hgood⟩
    · exact ⟨hc, hfault⟩
    · exact hch
  · rintro ⟨⟨hm, hk, hb, hf, he, hr, hlost⟩, hi, hring, hch⟩
    refine ⟨hm, hk, hb, hf, he, hr, fun sen => ?_⟩
    obtain ⟨ho, hbad, hgood⟩ := hi sen
    obtain ⟨hc, hfault⟩ := hring sen
    exact ⟨ho, hbad, hgood, hc, hfault, hlost sen, hch sen⟩

theorem WorksOn.partCounts {s t : State} (h : WorksOn s t) : PartCounts s → PartCounts t := by
  rintro ⟨hm, hk, hb, hf, he, hr, hl⟩
  obtain ⟨hf', he'⟩ := h.groupCounts ⟨hf, he⟩
  refine ⟨?_, ?_, ?_, hf', he', ?_, fun sen => h.lost sen (hl sen)⟩ <;> rw [h.rest] <;> assumption

theorem RingRecord.closeShort_counts (p : PageSize) (r : RingRecord) :
    (r.closeShort p).mapCorrected = r.mapCorrected ∧ (r.closeShort p).mapFaults = r.mapFaults := by
  unfold RingRecord.closeShort
  split <;> exact ⟨rfl, rfl⟩

theorem RingRecord.Places.counts {p : PageSize} {set : SampleSet} {e : MapEntry} {r u : RingRecord} {start : Bool}
    (h : r.Places p set e start u) : u.mapCorrected = r.mapCorrected ∧ u.mapFaults = r.mapFaults := by
  cases h with
  | opens start q hq =>
    rcases hq with ⟨-, rfl⟩ | rfl
    · exact ⟨rfl, rfl⟩
    · exact r.closeShort_counts p
  | appends m _ _ _ => exact ⟨rfl, rfl⟩

theorem CountInv.quiet {s t : State} (h : CountInv s) (k : Quiet s t) : CountInv t := by
  rw [countInv_iff] at h ⊢
  obtain ⟨hp, hi, hr, hc⟩ := h
  refine ⟨k.counts hp, fun sen => ?_, fun sen => (k.ring sen).counts (hr sen), fun sen ch =>
    (k.channel sen ch (heldSet none)).lost (hc sen ch)⟩
  rw [k.intake sen]
  exact hi sen

/-- A change of one sensor's intake record. -/
theorem CountInv.modIntake {s : State} (h : CountInv s) (sen : Sensor) {f : IntakeRecord → IntakeRecord}
    (hf : (s.intake.get sen).Counted → (f (s.intake.get sen)).Counted) : CountInv (s.modIntake sen f) := by
  rw [countInv_iff] at h ⊢
  obtain ⟨hp, hi, hr, hc⟩ := h
  refine ⟨hp, fun i => ?_, hr, hc⟩
  by_cases e : i = sen
  · subst e
    simpa using hf (hi i)
  · simpa [PerSensor.get_set_ne _ _ e] using hi i

theorem CountInv.setIntakeFlag {s : State} (h : CountInv s) (sen : Sensor) (f : IntakeFlag) :
    CountInv (s.setIntakeFlag sen f) :=
  h.modIntake sen (f := fun r => { r with flags := r.flags.insert f }) id

theorem Follows.lostTriggers {sen : Sensor} {x : SampleSet} {s t : State} (h : Follows sen x s t)
    (hc : ∀ i ch, (s.channel i ch).lostTriggers ≤ 65535) (i : Sensor) (ch : Channel) :
    (t.channel i ch).lostTriggers ≤ 65535 := by
  by_cases e : i = sen
  · subst e
    exact (h.channel ch).lost (hc i ch)
  · rw [State.channel, h.others i e]
    exact hc i ch

theorem CountInv.handOn {s : State} (h : CountInv s) (sen : Sensor) (set : SampleSet) (start : Bool) (arrival : Nat) :
    CountInv (s.handOn sen set start arrival) := by
  rw [countInv_iff] at h ⊢
  obtain ⟨hp, hi, hr, hc⟩ := h
  refine ⟨(s.handOn_works sen set start arrival).partCounts hp, by rwa [State.handOn_intake], fun i => ?_,
    (s.handOn_follows sen set start arrival).lostTriggers ?_⟩
  · by_cases e : i = sen
    · subst e
      obtain ⟨u, hu, hsettles⟩ := s.handOn_ring i set start arrival
      obtain ⟨hcorr, hfault⟩ := hu.counts
      exact hsettles.counts (by rw [hcorr, hfault]; exact hr i)
    · exact (s.handOn_ring_other e set start arrival).counts (hr i)
  · rw [(s.storeSet_stores sen set start arrival).rest]
    exact hc

/-- The counts stay in range but for those of bad and good frames of one sensor, which a GAP clears. -/
def CountsBut (sen : Sensor) (s : State) : Prop :=
  PartCounts s ∧ ((s.intake.get sen).offFrames ≤ 65535 ∧ ∀ i, i ≠ sen → (s.intake.get i).Counted)
    ∧ (∀ i, (s.ring.get i).mapCorrected ≤ 65535 ∧ (s.ring.get i).mapFaults ≤ 65535)
    ∧ ∀ i ch, (s.channel i ch).lostTriggers ≤ 65535

theorem CountInv.countsBut {s : State} (h : CountInv s) (sen : Sensor) : CountsBut sen s := by
  obtain ⟨hp, hi, hr, hc⟩ := countInv_iff.1 h
  exact ⟨hp, ⟨(hi sen).1, fun i _ => hi i⟩, hr, hc⟩

/-- The counts of frames of the sensor itself may change in any way. -/
theorem CountsBut.modIntake {s : State} {sen : Sensor} (h : CountsBut sen s) {f : IntakeRecord → IntakeRecord}
    (hf : (f (s.intake.get sen)).offFrames = (s.intake.get sen).offFrames) : CountsBut sen (s.modIntake sen f) := by
  obtain ⟨hp, ⟨ho, hi⟩, hr, hc⟩ := h
  refine ⟨hp, ⟨by simpa [hf] using ho, fun i e => ?_⟩, hr, hc⟩
  simpa [PerSensor.get_set_ne _ _ e] using hi i e

theorem CountsBut.setIntakeFlag {s : State} {sen : Sensor} (h : CountsBut sen s) (f : IntakeFlag) :
    CountsBut sen (s.setIntakeFlag sen f) :=
  h.modIntake (f := fun r => { r with flags := r.flags.insert f }) rfl

theorem CountsBut.announcedGap {s : State} {sen : Sensor} (h : CountsBut sen s) : CountsBut sen (s.announcedGap sen) := by
  have hworks : WorksOn s (s.announcedGap sen) :=
    (s.closePageShort_stores sen).works.trans (s.announcedGap_follows sen (heldSet none)).works
  obtain ⟨hp, hi, hr, hc⟩ := h
  refine ⟨hworks.partCounts hp, by rwa [State.announcedGap_intake], fun i => ?_,
    (s.announcedGap_follows sen (heldSet none)).lostTriggers hc⟩
  by_cases e : i = sen
  · subst e
    obtain ⟨hcorr, hfault⟩ := (s.ring.get i).closeShort_counts s.pageSize.active
    exact (s.announcedGap_ring i).counts (by rw [hcorr, hfault]; exact hr i)
  · exact (s.announcedGap_ring_other e).counts (hr i)

/-- R11: the counts of bad and good frames start again. -/
theorem CountsBut.enterGap {s : State} {sen : Sensor} (h : CountsBut sen s) : CountInv (s.modIntake sen .enterGap) := by
  obtain ⟨hp, ⟨ho, hi⟩, hr, hc⟩ := h
  refine countInv_iff.2 ⟨hp, fun i => ?_, hr, hc⟩
  by_cases e : i = sen
  · subst e
    simpa [IntakeRecord.Counted, IntakeRecord.enterGap] using ho
  · simpa [PerSensor.get_set_ne _ _ e] using hi i e

/-- R11: a GAP declaration counts nothing. -/
theorem CountsBut.declareGap {s : State} {sen : Sensor} (h : CountsBut sen s) (flag : Bool) :
    CountInv (s.declareGap sen flag) := by
  rw [State.declareGap_eq]
  cases flag with
  | false => exact h.announcedGap.enterGap
  | true => exact (h.announcedGap.setIntakeFlag .gap).enterGap

theorem CountInv.declareGap {s : State} (h : CountInv s) (sen : Sensor) (flag : Bool) :
    CountInv (s.declareGap sen flag) := (h.countsBut sen).declareGap flag

theorem CountInv.copyCorrection {s : State} (h : CountInv s) (sen : Sensor) : CountInv (s.copyCorrection sen) := by
  refine State.copyCorrection_keep (fun u t hu hstep => ?_) h
  cases hstep with
  | copy => exact hu.modIntake sen (f := .copyGroup) id
  | gap => exact hu.declareGap sen false
  | off =>
    exact (hu.modIntake sen (f := fun r => { r with state := .off }) id).quiet (State.retest_grants _).toPicksOnly.quiet
  | starting => exact hu.modIntake sen (f := .enterStarting) fun hr => ⟨hr.1, Nat.zero_le _, Nat.zero_le _⟩

theorem CountInv.intakeStep {s t : State} (h : CountInv s) (hstep : IntakeStep s t) : CountInv t := by
  cases hstep with
  | off sen => exact h.modIntake sen (f := .countOff) fun hr => ⟨bump_le _, hr.2⟩
  | flag sen f => exact h.setIntakeFlag sen f
  | bad sen now hbad =>
    refine (h.modIntake sen (f := .countBad now) fun hr => ⟨hr.1, ?_, Nat.zero_le _⟩).setIntakeFlag sen .parity
    exact hbad.le
  | badGap sen now _ =>
    exact (((h.countsBut sen).modIntake (f := .countBad now) rfl).setIntakeFlag .parity).declareGap true
  | expect sen => exact h.modIntake sen (f := .expectNext) id
  | held sen arrival => exact h.handOn sen _ false arrival
  | start f now _ =>
    exact (h.handOn f.sensor _ true now).modIntake f.sensor fun hr => ⟨hr.1, Nat.zero_le _, (by decide : 1 ≤ 64)⟩
  | take f g now auto =>
    exact (h.handOn f.sensor _ false now).modIntake f.sensor fun hr => ⟨hr.1, Nat.zero_le _, min_le_right _ _⟩
  | jump f g now =>
    exact (h.handOn f.sensor _ false now).modIntake f.sensor fun hr => ⟨hr.1, Nat.zero_le _, Nat.zero_le _⟩
  | gap sen flag _ => exact h.declareGap sen flag
  | copy sen => exact h.copyCorrection sen

theorem CountInv.softReset {s : State} (h : CountInv s) (p : Port) : CountInv (s.softReset p) := by
  obtain ⟨⟨hm, hk, hb, hf, he, hr, hl⟩, -⟩ := countInv_iff.1 h
  refine countInv_iff.2 ⟨⟨Nat.zero_le _, hk, hb, Nat.zero_le _, Nat.zero_le _, bump_le _, fun sen => ?_⟩, fun sen => ?_,
    fun sen => ?_, fun sen ch => ?_⟩
  · cases sen <;> exact Nat.zero_le _
  · simp only [State.softReset, PerSensor.get_map]
    exact ⟨Nat.zero_le _, Nat.zero_le _, Nat.zero_le _⟩
  · simp only [State.softReset, PerSensor.get_all]
    exact ⟨Nat.zero_le _, Nat.zero_le _⟩
  · simp only [State.softReset, State.channel, PerSensor.get_map, DetectorRecord.softReset]
    cases ch <;> exact Nat.zero_le _

theorem CountInv.reset (rest : List Instr) : CountInv { State.reset with pending := rest } := by
  refine countInv_iff.2 ⟨⟨?_, ?_, ?_, ?_, ?_, ?_, fun sen => ?_⟩, fun sen => ?_, fun sen => ?_, fun sen ch => ?_⟩
  any_goals exact Nat.zero_le _
  · cases sen <;> exact Nat.zero_le _
  · cases sen <;> exact ⟨Nat.zero_le _, Nat.zero_le _, Nat.zero_le _⟩
  · cases sen <;> exact ⟨Nat.zero_le _, Nat.zero_le _⟩
  · cases sen <;> cases ch <;> exact Nat.zero_le _

theorem CountInv.step {s t : State} (h : CountInv s) (hstep : Machine.step s = .next t) : CountInv t :=
  step_keeps_signal (P := CountInv) CountInv.reset (fun _ _ _ h => h) (fun _ _ h k => h.quiet k)
    (fun _ _ h k => h.intakeStep k) (fun _ p h => h.softReset p) h hstep

end Sys2Proof.Machine


/-! PROOFS. Ids (R109, R128), and the invariant of the Arrival Table (R108). -/

namespace Sys2Proof.Machine

/-! ### The first id that is free -/

theorem idAfter_range (y : Nat) : 1 ≤ idAfter y ∧ idAfter y ≤ 65535 := by
  have hmax : Config.idMax = 65535 := rfl
  unfold idAfter
  split <;> omega

/-- Ids go round: the id `j` places after one in range. -/
theorem idAfter_iterate {y : Nat} (h1 : 1 ≤ y) (h2 : y ≤ 65535) (j : Nat) :
    idAfter^[j] y = (y - 1 + j) % 65535 + 1 := by
  induction j with
  | zero =>
    rw [Function.iterate_zero, id, Nat.add_zero, Nat.mod_eq_of_lt (by omega)]
    omega
  | succ j ih =>
    rw [Function.iterate_succ_apply', ih, idAfter]
    have hmax : Config.idMax = 65535 := rfl
    split <;> omega

theorem idAfter_iterate_range {y : Nat} (h1 : 1 ≤ y) (h2 : y ≤ 65535) (j : Nat) :
    1 ≤ idAfter^[j] y ∧ idAfter^[j] y ≤ 65535 := by
  rw [idAfter_iterate h1 h2]
  omega

/-- Fewer than 65,535 candidates in a row are all different, wherever the count begins. -/
theorem idAfter_iterate_ne (y : Nat) {i j : Nat} (hij : i < j) (hj : j < 65535) : idAfter^[i] y ≠ idAfter^[j] y := by
  have inRange : ∀ z i j, 1 ≤ z → z ≤ 65535 → i < j → j < 65535 → idAfter^[i] z ≠ idAfter^[j] z :=
    fun z i j h1 h2 hij hj => by
      rw [idAfter_iterate h1 h2, idAfter_iterate h1 h2]
      omega
  obtain ⟨k, rfl⟩ : ∃ k, j = k + 1 := ⟨j - 1, by omega⟩
  obtain ⟨h1, h2⟩ := idAfter_range y
  cases i with
  | zero =>
    by_cases hy : 1 ≤ y ∧ y ≤ 65535
    · exact inRange y 0 _ hy.1 hy.2 hij hj
    · rw [Function.iterate_succ_apply]
      have := idAfter_iterate_range h1 h2 k
      rw [Function.iterate_zero, id]
      omega
  | succ i =>
    rw [Function.iterate_succ_apply, Function.iterate_succ_apply]
    exact inRange _ i k h1 h2 (by omega) (by omega)

/-- What `firstFree` looks at: candidates that are held, up to one that is not or to the end of the fuel. -/
theorem firstFree_eq (held : List Nat) (fuel id : Nat) : ∃ k, k ≤ fuel ∧ firstFree held fuel id = idAfter^[k] id
    ∧ (∀ j, j < k → idAfter^[j] id ∈ held) ∧ (k < fuel → firstFree held fuel id ∉ held) := by
  induction fuel generalizing id with
  | zero => exact ⟨0, le_refl _, rfl, fun _ h => absurd h (Nat.not_lt_zero _), fun h => absurd h (Nat.not_lt_zero _)⟩
  | succ fuel ih =>
    unfold firstFree
    split
    · rename_i hheld
      obtain ⟨k, hk, he, hall, hfree⟩ := ih (idAfter id)
      refine ⟨k + 1, by omega, by rw [he, Function.iterate_succ_apply], fun j hj => ?_, fun h => hfree (by omega)⟩
      cases j with
      | zero => simpa using hheld
      | succ j =>
        rw [Function.iterate_succ_apply]
        exact hall j (by omega)
    · rename_i hfree
      exact ⟨0, Nat.zero_le _, rfl, fun _ h => absurd h (Nat.not_lt_zero _), fun _ => by simpa using hfree⟩

/-- No more candidates are held than ids are. -/
theorem length_ge_of_iterates {held : List Nat} {y k : Nat} (hk : k ≤ 65535) (h : ∀ j, j < k → idAfter^[j] y ∈ held) :
    k ≤ held.length := by
  have hnodup : ((List.range k).map fun j => idAfter^[j] y).Nodup := by
    refine List.Nodup.map_on (fun i hi j hj e => ?_) List.nodup_range
    rw [List.mem_range] at hi hj
    rcases lt_trichotomy i j with hlt | heq | hgt
    · exact absurd e (idAfter_iterate_ne y hlt (by omega))
    · exact heq
    · exact absurd e.symm (idAfter_iterate_ne y hgt (by omega))
  have hsub : ((List.range k).map fun j => idAfter^[j] y) ⊆ held := fun x hx => by
    obtain ⟨j, hj, rfl⟩ := List.mem_map.1 hx
    exact h j (List.mem_range.1 hj)
  simpa using (hnodup.subperm hsub).length_le

/-- With fewer ids held than candidates are looked at, the id found is not held. -/
theorem firstFree_not_mem {held : List Nat} {fuel : Nat} (h : held.length < fuel) (hf : fuel ≤ 65535) (y : Nat) :
    firstFree held fuel y ∉ held := by
  obtain ⟨k, hk, -, hall, hfree⟩ := firstFree_eq held fuel y
  refine hfree ?_
  have := length_ge_of_iterates (by omega) hall
  omega

/-- Settles O18: among 65 candidates one is not held, because 65 different ids do not fit into 64. -/
theorem assignedIdIsFirstFree : Obligations.AssignedIdIsFirstFree := by
  intro held next hlen h1 h2
  obtain ⟨k, hk, he, hall, -⟩ := firstFree_eq held (Config.tableCapacity + 1) next
  have hrange := idAfter_iterate_range h1 h2 k
  exact ⟨firstFree_not_mem (Nat.lt_succ_of_le hlen) (by decide) next, he ▸ hrange.1, he ▸ hrange.2, k, he, hall⟩

/-! ### The Arrival Table (R108, R109) -/

theorem WorksOn.tableInv {s t : State} (k : WorksOn s t) (h : TableInv s) : TableInv t := by
  obtain ⟨hlen, hwork, hnodup, hids, h1, h2⟩ := h
  refine ⟨k.length_le.trans hlen, fun hw => ?_, k.ids.nodup hnodup, fun r hr => ?_, k.nextPick ▸ h1, k.nextPick ▸ h2⟩
  · rcases k.work hw with hs | hlt
    · exact k.length_le.trans_lt (hwork hs)
    · exact hlt
  · obtain ⟨r', hr', e⟩ := List.mem_map.1 (k.ids.subset (List.mem_map_of_mem hr))
    exact e ▸ hids r' hr'

theorem PicksOnly.tableInv {s t : State} (k : PicksOnly s t) (h : TableInv s) : TableInv t := k.works.tableInv h

/-- The ids, the next id and whether a refinement is in progress are all that the invariant sees. -/
theorem TableInv.congr {s t : State} (h : TableInv s)
    (hi : t.table.records.map (·.id) = s.table.records.map (·.id)) (hn : t.table.nextId = s.table.nextId)
    (hw : t.refiner.work.isSome = s.refiner.work.isSome) : TableInv t := by
  obtain ⟨hlen, hwork, hnodup, hids, h1, h2⟩ := h
  have hl : t.table.records.length = s.table.records.length := by simpa using congrArg List.length hi
  refine ⟨hl ▸ hlen, fun e => hl ▸ hwork (hw ▸ e), hi ▸ hnodup, fun r hr => ?_, hn ▸ h1, hn ▸ h2⟩
  obtain ⟨r', hr', e⟩ := List.mem_map.1 (hi ▸ List.mem_map_of_mem (f := PickRecord.id) hr)
  exact e ▸ hids r' hr'

/-- R109, R111: a record enters under an id that was free, while the refiner was BUSY and an entry free for it. -/
theorem TableInv.addRecord {s v : State} {r : PickRecord} (h : TableInv s) (hw : s.refiner.work.isSome = true)
    (hr : r.id = firstFree (s.table.records.map (·.id)) (Config.tableCapacity + 1) s.table.nextId)
    (k : GrantsOnly (s.addRecord r) v) (hv : v.refiner.work = none) : TableInv v := by
  obtain ⟨hlen, hwork, hnodup, hids, h1, h2⟩ := h
  obtain ⟨hfree, hr1, hr2, -⟩ := assignedIdIsFirstFree (s.table.records.map (·.id)) s.table.nextId
    (by rw [List.length_map]; exact hlen) h1 h2
  rw [← hr] at hfree hr1 hr2
  have hadded : ((s.addRecord r).table.records.map (·.id)).Nodup := by
    simpa [State.addRecord, List.nodup_append, hnodup] using fun x hx e => hfree (List.mem_map.2 ⟨x, hx, e⟩)
  have hrange : ∀ x ∈ (s.addRecord r).table.records, 1 ≤ x.id ∧ x.id ≤ Config.idMax := fun x hx => by
    rcases List.mem_append.1 hx with hx | hx
    · exact hids x hx
    · rw [List.mem_singleton.1 hx]
      exact ⟨hr1, hr2⟩
  have hnext := idAfter_range r.id
  refine ⟨k.length_le.trans ?_, (by rw [hv]; exact (nomatch ·)), k.ids.nodup hadded, fun x hx => ?_, ?_, ?_⟩
  · have := hwork hw
    simpa [State.addRecord] using this
  · obtain ⟨x', hx', e⟩ := List.mem_map.1 (k.ids.subset (List.mem_map_of_mem hx))
    exact e ▸ hrange x' hx'
  · rw [k.nextPick]
    exact hnext.1
  · rw [k.nextPick]
    exact hnext.2

theorem TableInv.detachPort {s : State} (h : TableInv s) (p : Port) : TableInv (s.detachPort p) := by
  obtain ⟨u, hu, e⟩ := s.detachPort_frames p
  have hw : TableInv (s.withdrawn p) := h.congr (s.withdrawn_ids p) rfl rfl
  rw [e]
  exact (hu.toPicksOnly.tableInv hw).congr rfl rfl rfl

theorem TableInv.answerApply {s : State} {p : Port} {same : Bool} {owner : State → State × Applied} (h : TableInv s)
    (ho : TableInv (owner s).1) : TableInv (s.answerApply p same owner).state := by
  rcases s.answerApply_cases p same owner with e | ⟨-, e | e⟩ <;> rw [e] <;> assumption

theorem TableInv.owned {s : State} {p : Port} {r : Request} {a : Answer} (h : TableInv s) (ha : Owned p s r a) :
    TableInv a.state := by
  cases ha with
  | attach =>
    rcases s.answerAttach_cases p with e | ⟨-, k⟩
    · rwa [e]
    · exact k.toPicksOnly.tableInv (h.congr (t := s.becomeAttached p) rfl rfl rfl)
  | detach =>
    rcases s.answerDetach_cases p with e | e <;> rw [e]
    · exact h
    · exact h.detachPort p
  | status => exact h
  | take =>
    rcases s.answerTake_cases p with ⟨-, e⟩ | ⟨n, rest, -, k⟩
    · rwa [e]
    · exact k.toPicksOnly.tableInv (h.congr (t := s.setNotices p rest) rfl rfl rfl)
  | readPick id => unfold State.answerReadPick; split <;> exact h
  | readGroup id => unfold State.answerReadGroup; split <;> exact h
  | retract id => exact (s.answerRetract_picks p id.toNat).tableInv h
  | setUnknown w v => exact h
  | set w v i =>
    rcases s.answerSet_cases p i v with e | ⟨s', k, -, e⟩ <;> rw [e]
    · exact h
    · have hs' : TableInv s' := h.congr (by rw [k.rest]) (by rw [k.rest]) (by rw [k.rest])
      split <;> exact hs'
  | getUnknown w => exact h
  | get w i =>
    change TableInv (s.afterGet i)
    unfold State.afterGet State.readIntake
    split <;> try split
    all_goals exact h
  | applyCorrection _ _ sen => exact h.answerApply ((s.applyCorrection_works sen).tableInv h)
  | applyDetector _ _ sen => exact h.answerApply ((s.applyDetector_works sen).tableInv h)
  | applyRefinement _ _ sen => exact h.answerApply ((s.applyRefinement_grants sen).toPicksOnly.tableInv h)
  | applyGrouping => exact h.answerApply h
  | applyPresets => exact h.answerApply h
  | freeze => unfold State.answerFreeze; split <;> exact h
  | loadChain count words => rcases s.answerLoad_cases p count words with e | ⟨-, l, -, e⟩ <;> rw [e] <;> exact h
  | startChain => exact (s.answerStart_keeps p).works.tableInv h
  | pauseChain => rcases s.answerPause_cases p with e | ⟨-, point, e⟩ <;> rw [e] <;> exact h
  | resetChain => exact h
  | readExcerpt maximum => rcases s.answerRead_cases p maximum.toNat with e | ⟨-, k, e⟩ <;> rw [e] <;> exact h
  | attnDone classes => rcases s.answerAttnDone_cases p classes.toNat with e | ⟨c, e⟩ <;> rw [e] <;> exact h
  | softReset =>
    exact ⟨Nat.zero_le _, (nomatch ·), List.nodup_nil, fun _ hr => (nomatch hr), le_refl _, (by decide : 1 ≤ Config.idMax)⟩

theorem TableInv.effect {s t : State} (h : TableInv s) (he : Effect s t) : TableInv t := by
  have intake : ∀ {u : State}, IntakeSteps s u → TableInv u := fun hu =>
    IntakeSteps.keep (P := TableInv) (fun _ _ k hstep => hstep.works.tableInv k) h hu
  cases he with
  | idle => exact h
  | frame bytes =>
    cases hf : parseFrame bytes with
    | none => unfold State.frame; rw [hf]; exact h
    | some f => exact intake (State.frame_steps hf)
  | frameSilence sen => exact intake (s.frameSilence_steps sen)
  | grant =>
    rcases s.grant_cases with e | ⟨r, -, e⟩ <;> rw [e]
    · exact h
    · cases r with
      | refiner => exact (State.refinerBlock_grants _).toPicksOnly.tableInv h
      | chain p =>
        have k := State.chainBlock_only { s with arbiter := s.arbiter.record (.chain p) } p
        exact h.congr (by rw [State.readBlock, k.rest]) (by rw [State.readBlock, k.rest]) (by rw [State.readBlock, k.rest])
  | pickWrite =>
    rcases s.pickWrite_cases with e | ⟨w, q, hw, e⟩ <;> rw [e]
    · exact h
    · obtain ⟨u, r, v, hu, hr, hv, hidle, ht⟩ := s.writePick_frames w q
      have hu' : TableInv u := h.congr (by rw [hu.rest]) (by rw [hu.rest]) (by rw [hu.rest])
      have hbusy : u.refiner.work.isSome = true := by rw [hu.rest]; simp [hw]
      exact ht.toPicksOnly.tableInv (hu'.addRecord hbusy hr hv hidle)
  | waitTimeout p kind => exact (s.waitTimeout_keeps p kind).works.tableInv h
  | timeLink chars => rw [(s.timeLink_event chars).rest]; exact h
  | messageExpiry => rw [s.messageExpiry_event.rest]; exact h
  | mark => rw [s.mark_event.rest]; exact h
  | markLoss => rw [s.markLoss_event.rest]; exact h
  | takeCommand p message sent =>
    obtain ⟨_, _, e⟩ := s.takeCommand_transacted p message sent
    rw [e]; exact h
  | takeResponse p clocked sent =>
    obtain ⟨_, _, e⟩ := s.takeResponse_transacted p clocked sent
    rw [e]; exact h
  | ignored p sent => exact h
  | portSilence p =>
    rcases s.portSilence_cases p with e | e <;> rw [e]
    · exact h
    · exact h.detachPort p
  | endPulse p => exact h
  | command p r a ha => exact h.owned ha

theorem TableInv.reset : TableInv State.reset :=
  ⟨Nat.zero_le _, (nomatch ·), List.nodup_nil, fun _ hr => (nomatch hr), le_refl _, by decide⟩

/-- Settles O55: records enter one at a time, while the refiner is BUSY, and elsewhere the ids only become fewer. -/
theorem tableKeepsDistinctIds : Obligations.TableKeepsDistinctIds := fun _ _ hs hstep =>
  step_keeps (P := TableInv) (fun _ => TableInv.reset) (fun _ _ _ h => h) (fun _ _ h he => h.effect he) hs hstep

end Sys2Proof.Machine


/-! PROOFS. Freezing (R205), the isolation of the ports (R187) and the run of local time (R21). -/

namespace Sys2Proof.Machine

/-! ### The settings that FREEZE closes -/

/-- The freeze mark and the settings that it closes stay. -/
def FrozenKept (s t : State) : Prop := t.frozen = s.frozen ∧ SameFrozenSettings s t

theorem FrozenKept.refl (s : State) : FrozenKept s s := ⟨rfl, fun _ => ⟨rfl, rfl, rfl⟩, rfl, rfl, rfl, rfl, rfl, rfl⟩

theorem FrozenKept.trans {s t u : State} (h : FrozenKept s t) (k : FrozenKept t u) : FrozenKept s u := by
  obtain ⟨hf, hsen, hg, hp, hps, hm, ha, hpol⟩ := h
  obtain ⟨kf, ksen, kg, kp, kps, km, ka, kpol⟩ := k
  refine ⟨kf.trans hf, fun sen => ?_, kg.trans hg, kp.trans hp, kps.trans hps, km.trans hm, ka.trans ha, kpol.trans hpol⟩
  obtain ⟨hc, hd, hr⟩ := hsen sen
  obtain ⟨kc, kd, kr⟩ := ksen sen
  exact ⟨kc.trans hc, kd.trans hd, kr.trans hr⟩

theorem WorksOn.frozenKept {s t : State} (h : WorksOn s t) : FrozenKept s t := by
  obtain ⟨hg, hm, ha⟩ := h.refinement
  refine ⟨by rw [h.rest], fun sen => ⟨(h.staged sen).1, (h.staged sen).2, by rw [hg]⟩, h.settings, ?_, ?_, hm, ha, ?_⟩ <;>
    rw [h.rest]

theorem PicksOnly.frozenKept {s t : State} (h : PicksOnly s t) : FrozenKept s t := h.works.frozenKept

theorem MapReads.frozenKept {s t : State} (h : MapReads s t) : FrozenKept s t := by
  rw [h.rest]
  exact .refl s

theorem ChainOnly.frozenKept {p : Port} {s t : State} (h : ChainOnly p s t) : FrozenKept s t := by
  rw [h.rest]
  exact .refl s

theorem SetsOnly.frozenKept {p : Port} {s t : State} (h : SetsOnly p false s t) : FrozenKept s t :=
  ⟨by rw [h.rest], h.frozen rfl⟩

theorem TimeEvent.frozenKept {s t : State} (h : TimeEvent s t) : FrozenKept s t := by
  rw [h.rest]
  exact .refl s

theorem State.detachPort_frozenKept (s : State) (p : Port) : FrozenKept s (s.detachPort p) := by
  obtain ⟨u, hu, e⟩ := s.detachPort_frames p
  have hw : FrozenKept s (s.withdrawn p) := .refl s
  have hs : FrozenKept u (u.silenced p) := .refl u
  rw [e]
  exact (hw.trans hu.frozenKept).trans hs

/-- R192, R193: a soft reset keeps the staged copies and the settings. -/
theorem State.softReset_frozenKept (s : State) (p : Port) : FrozenKept s (s.softReset p) := by
  refine ⟨rfl, fun sen => ⟨?_, ?_, rfl⟩, rfl, rfl, rfl, rfl, rfl, rfl⟩
  · simp only [State.softReset, PerSensor.get_map, IntakeRecord.softReset]
    split <;> rfl
  · simp only [State.softReset, PerSensor.get_map, DetectorRecord.softReset, DetectorRecord.settledGroup]
    split <;> rfl

/-- R204, R205: with the freeze mark set an APPLY is refused. -/
theorem State.answerApply_of_frozen {s : State} (h : s.frozen = true) (p : Port) (same : Bool)
    (owner : State → State × Applied) : (s.answerApply p same owner).state = s := by
  rcases s.answerApply_cases p same owner with e | ⟨hf, -⟩
  · exact e
  · rw [h] at hf
    cases hf

theorem FrozenKept.of_eq {s t : State} (h : t = s) : FrozenKept s t := h ▸ .refl s

/-- R201, R205: no command changes what FREEZE has closed. -/
theorem Owned.frozenKept {s : State} {p : Port} {r : Request} {a : Answer} (ha : Owned p s r a) (hf : s.frozen = true) :
    FrozenKept s a.state := by
  cases ha with
  | attach =>
    rcases s.answerAttach_cases p with e | ⟨-, k⟩
    · exact .of_eq e
    · exact FrozenKept.trans (t := s.becomeAttached p) (.refl s) k.frozenKept
  | detach =>
    rcases s.answerDetach_cases p with e | e
    · exact .of_eq e
    · rw [e]
      exact s.detachPort_frozenKept p
  | status => exact .refl s
  | take =>
    rcases s.answerTake_cases p with ⟨-, e⟩ | ⟨n, rest, -, k⟩
    · exact .of_eq e
    · exact FrozenKept.trans (t := s.setNotices p rest) (.refl s) k.frozenKept
  | readPick id => unfold State.answerReadPick; split <;> exact .refl s
  | readGroup id => unfold State.answerReadGroup; split <;> exact .refl s
  | retract id => exact (s.answerRetract_picks p id.toNat).frozenKept
  | setUnknown w v => exact .refl s
  | set w v i =>
    rcases s.answerSet_cases p i v with e | ⟨s', k, hopen, e⟩
    · exact .of_eq e
    · rw [hopen hf] at k
      rw [e]
      split
      · exact k.frozenKept
      · exact k.frozenKept.trans (.refl s')
  | getUnknown w => exact .refl s
  | get w i =>
    change FrozenKept s (s.afterGet i)
    unfold State.afterGet
    split
    · unfold State.readIntake
      split
      · exact .refl s
      · exact (State.modIntake_works (f := fun r => { r with flags := .none }) fun _ => rfl).frozenKept
    · exact .refl s
  | applyCorrection => exact .of_eq (State.answerApply_of_frozen hf _ _ _)
  | applyDetector => exact .of_eq (State.answerApply_of_frozen hf _ _ _)
  | applyRefinement => exact .of_eq (State.answerApply_of_frozen hf _ _ _)
  | applyGrouping => exact .of_eq (State.answerApply_of_frozen hf _ _ _)
  | applyPresets => exact .of_eq (State.answerApply_of_frozen hf _ _ _)
  | freeze =>
    refine .of_eq ?_
    unfold State.answerFreeze
    rw [if_pos hf]
    rfl
  | loadChain count words =>
    rcases s.answerLoad_cases p count words with e | ⟨-, l, -, e⟩
    · exact .of_eq e
    · exact e ▸ .refl s
  | startChain => exact (s.answerStart_keeps p).frozenKept
  | pauseChain =>
    rcases s.answerPause_cases p with e | ⟨-, point, e⟩
    · exact .of_eq e
    · exact e ▸ .refl s
  | resetChain => exact .refl s
  | readExcerpt maximum =>
    rcases s.answerRead_cases p maximum.toNat with e | ⟨-, k, e⟩
    · exact .of_eq e
    · exact e ▸ .refl s
  | attnDone classes =>
    rcases s.answerAttnDone_cases p classes.toNat with e | ⟨c, e⟩
    · exact .of_eq e
    · exact e ▸ .refl s
  | softReset => exact s.softReset_frozenKept p

theorem Effect.frozenKept {s t : State} (he : Effect s t) (hf : s.frozen = true) : FrozenKept s t := by
  cases he with
  | idle => exact .refl s
  | frame bytes =>
    cases hb : parseFrame bytes with
    | none => unfold State.frame; rw [hb]; exact .refl s
    | some f => exact (State.frame_works hb).frozenKept
  | frameSilence sen => exact (s.frameSilence_works sen).frozenKept
  | grant =>
    rcases s.grant_cases with e | ⟨r, -, e⟩
    · exact .of_eq e
    · have hrecord : FrozenKept s { s with arbiter := s.arbiter.record r } := by
        cases r <;> exact .refl s
      rw [e]
      refine hrecord.trans ?_
      cases r with
      | refiner => exact (State.refinerBlock_grants _).frozenKept
      | chain p => exact (State.chainBlock_only _ p).frozenKept
  | pickWrite =>
    rcases s.pickWrite_cases with e | ⟨w, q, -, e⟩ <;> rw [e]
    · exact .refl s
    · obtain ⟨u, r, v, hu, -, hv, -, ht⟩ := s.writePick_frames w q
      have hadd : FrozenKept u (u.addRecord r) := .refl u
      exact ((hu.frozenKept.trans hadd).trans hv.frozenKept).trans ht.frozenKept
  | waitTimeout p kind => exact (s.waitTimeout_keeps p kind).frozenKept
  | timeLink chars => exact (s.timeLink_event chars).frozenKept
  | messageExpiry => exact s.messageExpiry_event.frozenKept
  | mark => exact s.mark_event.frozenKept
  | markLoss => exact s.markLoss_event.frozenKept
  | takeCommand p message sent =>
    obtain ⟨_, _, e⟩ := s.takeCommand_transacted p message sent
    exact e ▸ .refl s
  | takeResponse p clocked sent =>
    obtain ⟨_, _, e⟩ := s.takeResponse_transacted p clocked sent
    exact e ▸ .refl s
  | ignored p sent => exact .refl s
  | portSilence p =>
    rcases s.portSilence_cases p with e | e
    · exact .of_eq e
    · rw [e]
      exact s.detachPort_frozenKept p
  | endPulse p => exact .refl s
  | command p r a ha => exact ha.frozenKept hf

/-- Settles O58: what a row does with samples, picks, chains and time touches no setting, and the commands that would are
refused. -/
theorem freezeHoldsUntilHardwareReset : Obligations.FreezeHoldsUntilHardwareReset := by
  intro i s hi hf
  obtain ⟨t, ht, he⟩ := exec_effect hi s
  obtain ⟨htf, hsame⟩ := he.frozenKept hf
  exact ⟨t, ht, htf.trans hf, hsame⟩

/-! ### The other port -/

theorem SamePort.of_parts {s t : State} {q : Port} (hp : t.ports.get q = s.ports.get q) (hc : t.chain q = s.chain q)
    (ho : (t.offers.get q).mode = (s.offers.get q).mode ∧ (t.offers.get q).setting = (s.offers.get q).setting)
    (ha : (s.attention.get q).Grows (t.attention.get q)) : SamePort s t q :=
  ⟨hp, hc, ho.1, ho.2, ha.mask, ha.lineMode, ha.clearMode, ha.keeps⟩

theorem SamePort.refl (s : State) (q : Port) : SamePort s s q := .of_parts rfl rfl ⟨rfl, rfl⟩ (.refl _)

theorem SamePort.of_eq {s t : State} {q : Port} (h : t = s) : SamePort s t q := h ▸ .refl s q

theorem SamePort.trans {s t u : State} {q : Port} (h : SamePort s t q) (k : SamePort t u q) : SamePort s u q := by
  obtain ⟨hp, hc, hm, hs, hmask, hl, hcl, hk⟩ := h
  obtain ⟨kp, kc, km, ks, kmask, kl, kcl, kk⟩ := k
  exact ⟨kp.trans hp, kc.trans hc, km.trans hm, ks.trans hs, kmask.trans hmask, kl.trans hl, kcl.trans hcl,
    fun c h0 h1 => kk c h0 (hk c h0 h1)⟩

theorem PicksOnly.samePort {s t : State} (h : PicksOnly s t) (q : Port) : SamePort s t q :=
  .of_parts (by rw [h.rest]) (by rw [h.rest]; rfl) (h.modes q) (h.attention q)

theorem ChainOnly.samePort {p : Port} {s t : State} (h : ChainOnly p s t) : SamePort s t p.other :=
  .of_parts (by rw [h.rest]) h.other (by rw [h.rest]; exact ⟨rfl, rfl⟩) (h.grows _)

theorem SetsOnly.samePort {p : Port} {closed : Bool} {s t : State} (h : SetsOnly p closed s t) : SamePort s t p.other :=
  .of_parts h.otherPort (by rw [h.rest]; rfl) (by rw [h.otherOffers]; exact ⟨rfl, rfl⟩) (by rw [h.otherAttention]; exact .refl _)

/-- R199: the announcement of a setting clears nothing. -/
theorem State.settingsChanged_samePort (s : State) (p : Port) : SamePort s (s.settingsChanged p) p.other := by
  obtain ⟨-, ho⟩ := settingsNews_get s.time.localTime p s.attention
  refine ⟨rfl, rfl, rfl, rfl, ?_, ?_, ?_, fun c _ hc => ?_⟩
  · exact (congrArg AttnRecord.mask ho).trans rfl
  · exact (congrArg AttnRecord.lineMode ho).trans rfl
  · exact (congrArg AttnRecord.clearMode ho).trans rfl
  · rw [Pends, State.has_settingsChanged, hc, Bool.true_or]

theorem State.modPort_samePort (s : State) (p : Port) (f : PortRecord → PortRecord) :
    SamePort s (s.modPort p f) p.other := .of_parts (by simp) rfl ⟨rfl, rfl⟩ (.refl _)

theorem State.modChain_samePort (s : State) (p : Port) (f : Chain → Chain) : SamePort s (s.modChain p f) p.other :=
  .of_parts rfl (State.chain_modChain_other s p f) ⟨rfl, rfl⟩ (.refl _)

theorem State.modAttention_samePort (s : State) (p : Port) (f : AttnRecord → AttnRecord) :
    SamePort s (s.modAttention p f) p.other :=
  .of_parts rfl rfl ⟨rfl, rfl⟩ (by rw [State.modAttention_attention, PerPort.get_set_other]; exact .refl _)

theorem State.modOffers_samePort (s : State) (p : Port) (f : OfferRecord → OfferRecord) :
    SamePort s (s.modOffers p f) p.other := .of_parts rfl rfl (by simp) (.refl _)

theorem State.setNotices_samePort (s : State) (p : Port) (l : List Notice) : SamePort s (s.setNotices p l) p.other :=
  .of_parts rfl rfl (by simp) (by simpa using AttnRecord.Grows.refl _)

theorem State.detachPort_samePort (s : State) (p : Port) : SamePort s (s.detachPort p) p.other := by
  obtain ⟨u, hu, e⟩ := s.detachPort_frames p
  have hw : SamePort s (s.withdrawn p) p.other :=
    (((s.setNotices_samePort p []).trans (State.modOffers_samePort _ p _)).trans
      (State.modChain_samePort _ p fun _ => .reset)).trans (.refl _ _)
  rw [e]
  exact (hw.trans (hu.samePort _)).trans ((State.modAttention_samePort _ p _).trans (State.modPort_samePort _ p _))

theorem State.answerApply_samePort {s : State} {p : Port} {same : Bool} {owner : State → State × Applied}
    (h : SamePort s (owner s).1 p.other) : SamePort s (s.answerApply p same owner).state p.other := by
  rcases s.answerApply_cases p same owner with e | ⟨-, e | e⟩ <;> rw [e]
  · exact .refl s _
  · exact h
  · exact h.trans (State.settingsChanged_samePort _ p)

/-- R17, R18: a copy outside RUNNING declares no GAP, and so no chain hears of it. -/
theorem State.copyCorrection_samePort {s : State} {sen : Sensor} (h : (s.intake.get sen).state ≠ .running) (q : Port) :
    SamePort s (s.copyCorrection sen) q := by
  have hoff : ∀ u : State, SamePort u (u.enterOff sen) q := fun u =>
    SamePort.trans (t := u.modIntake sen fun r => { r with state := .off }) (.refl u q)
      ((State.retest_grants _).samePort q)
  have copied : SamePort s (s.modIntake sen .copyGroup) q := .refl s q
  unfold State.copyCorrection
  dsimp only
  split
  · exact copied
  · split
    · exact absurd (by assumption) h
    · exact absurd (by assumption) h
    · exact copied.trans (hoff _)
    · exact copied.trans (hoff _)
    · exact copied.trans (hoff _)
    · exact copied.trans (.refl _ q)
    · exact copied

theorem Owned.samePort {s : State} {p : Port} {r : Request} {a : Answer} (ha : Owned p s r a) (hr : r ≠ .softReset) :
    SamePort s a.state p.other := by
  cases ha with
  | attach =>
    rcases s.answerAttach_cases p with e | ⟨-, k⟩
    · exact .of_eq e
    · exact ((s.modOffers_samePort p _).trans (State.modPort_samePort _ p _)).trans (k.samePort _)
  | detach =>
    rcases s.answerDetach_cases p with e | e
    · exact .of_eq e
    · rw [e]
      exact s.detachPort_samePort p
  | status => exact s.modAttention_samePort p _
  | take =>
    rcases s.answerTake_cases p with ⟨-, e⟩ | ⟨n, rest, -, k⟩
    · exact .of_eq e
    · exact (s.setNotices_samePort p rest).trans (k.samePort _)
  | readPick id => unfold State.answerReadPick; split <;> exact .refl s _
  | readGroup id => unfold State.answerReadGroup; split <;> exact .refl s _
  | retract id => exact (s.answerRetract_picks p id.toNat).samePort _
  | setUnknown w v => exact .refl s _
  | set w v i =>
    rcases s.answerSet_cases p i v with e | ⟨s', k, -, e⟩
    · exact .of_eq e
    · rw [e]
      split
      · exact k.samePort
      · exact k.samePort.trans (State.settingsChanged_samePort s' p)
  | getUnknown w => exact .refl s _
  | get w i =>
    change SamePort s (s.afterGet i) p.other
    unfold State.afterGet State.readIntake
    split <;> try split
    all_goals exact .refl s _
  | applyCorrection b same sen =>
    refine State.answerApply_samePort ?_
    unfold State.applyCorrection
    split
    · exact .refl s _
    · exact State.copyCorrection_samePort (by assumption) _
  | applyDetector b same sen =>
    refine State.answerApply_samePort ?_
    unfold State.applyDetector
    split <;> exact .refl s _
  | applyRefinement b same sen =>
    exact State.answerApply_samePort (SamePort.trans (t := s.withRefinement sen) (.refl s _)
      ((s.applyRefinement_grants sen).samePort _))
  | applyGrouping => exact State.answerApply_samePort (.refl s _)
  | applyPresets => exact State.answerApply_samePort (.refl s _)
  | freeze => unfold State.answerFreeze; split <;> exact .refl s _
  | loadChain count words =>
    rcases s.answerLoad_cases p count words with e | ⟨-, l, -, e⟩
    · exact .of_eq e
    · exact e ▸ s.modChain_samePort p _
  | startChain => exact (s.answerStart_keeps p).samePort
  | pauseChain =>
    rcases s.answerPause_cases p with e | ⟨-, point, e⟩
    · exact .of_eq e
    · exact e ▸ s.modChain_samePort p _
  | resetChain => exact s.modChain_samePort p fun _ => .reset
  | readExcerpt maximum =>
    rcases s.answerRead_cases p maximum.toNat with e | ⟨-, k, e⟩
    · exact .of_eq e
    · exact e ▸ s.modChain_samePort p _
  | attnDone classes =>
    rcases s.answerAttnDone_cases p classes.toNat with e | ⟨c, e⟩
    · exact .of_eq e
    · exact e ▸ s.modAttention_samePort p _
  | softReset => exact absurd rfl hr

theorem State.transacted_samePort (s : State) (p : Port) (slot : Slot) (reject : Bool) (sent : List Byte) :
    SamePort s (s.transacted p slot reject sent) p.other := s.modPort_samePort p _

/-- R187, R189: the performance of a port's command. -/
theorem exec_samePort {i : Instr} {p : Port} {r : Request} (h : i.performs = some (p, r)) (hr : r ≠ .softReset)
    (s : State) : ∃ t, Runs i s t ∧ SamePort s t p.other := by
  obtain ⟨owner, he, ha⟩ := exec_of_performs h s
  refine ⟨_, he, SamePort.trans (t := s.elapse i.elapsed) (.refl s _) ?_⟩
  unfold State.perform
  split
  · exact (ha.samePort hr).trans (State.modPort_samePort _ p _)
  · exact .refl _ _

/-- Settles O59: each row of a controller goes through the frame of its operation, which names its port. -/
theorem portsAreIsolated : Obligations.PortsAreIsolated := by
  have elapsed : ∀ (s : State) (dt : Nat) (q : Port), SamePort s (s.elapse dt) q := fun s _ q => .refl s q
  rintro i p s (⟨r, h, hr⟩ | ⟨dt, m, rfl⟩ | ⟨dt, n, rfl⟩ | ⟨dt, b, rfl⟩ | ⟨dt, rfl⟩ | ⟨dt, rfl⟩ | ⟨dt, rfl⟩ | ⟨dt, rfl⟩)
  · exact exec_samePort h hr s
  · obtain ⟨_, _, e⟩ := (s.elapse dt).takeCommand_transacted p m ((s.elapse dt).sentInCommand p m)
    exact ⟨_, rfl, (elapsed s dt _).trans (e ▸ State.transacted_samePort _ p _ _ _)⟩
  · obtain ⟨_, _, e⟩ := (s.elapse dt).takeResponse_transacted p n ((s.elapse dt).sentInResponse p n)
    exact ⟨_, rfl, (elapsed s dt _).trans (e ▸ State.transacted_samePort _ p _ _ _)⟩
  · obtain ⟨_, _, e⟩ := (s.elapse dt).endTransaction_transacted p ((s.elapse dt).sentInIgnored p b)
    exact ⟨_, rfl, (elapsed s dt _).trans (e ▸ State.transacted_samePort _ p _ _ _)⟩
  · refine ⟨_, rfl, (elapsed s dt _).trans ?_⟩
    rcases (s.elapse dt).portSilence_cases p with e | e
    · exact .of_eq e
    · rw [e]
      exact State.detachPort_samePort _ p
  · exact ⟨_, rfl, (elapsed s dt _).trans ((s.elapse dt).waitTimeout_keeps p .start).samePort⟩
  · exact ⟨_, rfl, (elapsed s dt _).trans ((s.elapse dt).waitTimeout_keeps p .data).samePort⟩
  · exact ⟨_, rfl, (elapsed s dt _).trans (State.modAttention_samePort _ p _)⟩

/-! ### Local time (R21) -/

theorem State.validMark_localTime (s : State) (seconds : Nat) : (s.validMark seconds).time.localTime = s.time.localTime := by
  unfold State.validMark
  dsimp only
  split
  · rfl
  · split <;> rfl

theorem State.mark_localTime (s : State) : s.mark.time.localTime = s.time.localTime := by
  unfold State.mark
  split
  · split
    · exact s.validMark_localTime _
    · rfl
  · rfl

/-- R24 to R26: a mark locks the Timebase or leaves its state. -/
theorem State.mark_state (s : State) : s.mark.time.state = .locked ∨ s.mark.time.state = s.time.state := by
  unfold State.mark
  split
  · rename_i m _
    split
    · exact .inl (s.validMark_holds m.seconds).1
    · exact .inr rfl
  · exact .inr rfl

theorem Effect.time {s t : State} (he : Effect s t) : t.time.localTime = s.time.localTime
    ∧ (s.time.state ≠ .noTime → t.time.state ≠ .noTime) := by
  rcases he.time_cases with e | ⟨chars, rfl⟩ | rfl | rfl | rfl
  · rw [e]
    exact ⟨rfl, id⟩
  · refine ⟨(s.timeLink_times chars).localTime, fun h => ?_⟩
    rcases (s.timeLink_times chars).lost with ⟨e, -, -⟩ | ⟨-, e, -, -⟩ <;> rw [e]
    · exact h
    · decide
  · unfold State.messageExpiry
    split <;> exact ⟨rfl, id⟩
  · refine ⟨s.mark_localTime, fun h => ?_⟩
    rcases s.mark_state with e | e <;> rw [e]
    · decide
    · exact h
  · unfold State.markLoss
    split
    · exact ⟨rfl, fun _ e => nomatch e⟩
    · exact ⟨rfl, id⟩

/-- Settles O4: a row's time passes first, and what then happens leaves the local time. -/
theorem timeRunsOnThroughEveryRow : Obligations.TimeRunsOnThroughEveryRow := by
  intro i s hi
  obtain ⟨t, ht, he⟩ := exec_effect hi s
  exact ⟨t, ht, he.time⟩

end Sys2Proof.Machine


/-! PROOFS. How the notices, the records and the groups hang together (R121, R131, R133, R148): `Consistent`, with one
rule for each kind of change. -/

namespace Sys2Proof.Machine

/-! ### The relation -/

/-- The records, the ports' lists and the groups agree: a pick notice names a record that is not PENDING, a group notice a
group in the state that it reports, the members of a live group are records that are grouped so, and a PENDING record
has been offered to no port. -/
structure Consistent (records : List PickRecord) (notices : Port → List Notice) (groups : List GroupRecord) : Prop where
  ids : (records.map (·.id)).Nodup
  keys : ∀ p, ((notices p).map Notice.key).Nodup
  picks : ∀ p id, (true, id) ∈ (notices p).map Notice.key → ∃ r ∈ records, r.id = id ∧ ∀ g, r.grouping ≠ .pending g
  declared : ∀ p id, .groupDeclared id ∈ notices p → ∃ g ∈ groups, g.id = id ∧ g.state = .declared
  closed : ∀ p id, .groupClosed id ∈ notices p → ∃ g ∈ groups, g.id = id ∧ g.state = .closed
  delivery : ∀ r ∈ records, (∃ g, r.grouping = .pending g) → ∀ p, r.delivery.get p = .none
  room : groups.length ≤ Config.groupCapacity
  groupIds : (groups.map (·.id)).Nodup
  pairs : ∀ g ∈ groups, (g.members.map fun m => (m.sensor, m.phase)).Nodup
  members : ∀ g ∈ groups, g.state ≠ .closed → (g.members.map (·.pick)).Nodup
    ∧ ∀ m ∈ g.members, ∃ r ∈ records, r.id = m.pick ∧ r.grouping = g.groupingOf

section Rules

variable {R R' : List PickRecord} {N N' : Port → List Notice} {G G' : List GroupRecord}

/-- A notice in a list has its key among the list's. -/
theorem Notice.key_mem {n : Notice} {l : List Notice} (h : n ∈ l) : n.key ∈ l.map Notice.key := List.mem_map_of_mem h

theorem Notice.namesPick_iff {n : Notice} {id : Nat} : n.namesPick id = true ↔ n.key = (true, id) := by
  cases n <;> simp [Notice.namesPick, Notice.key]

theorem Notice.namesGroup_iff {n : Notice} {id : Nat} : n.namesGroup id = true ↔ n.key = (false, id) := by
  cases n <;> simp [Notice.namesGroup, Notice.key]

theorem any_namesPick {l : List Notice} {id : Nat} :
    l.any (Notice.namesPick id) = true ↔ (true, id) ∈ l.map Notice.key := by
  simp [List.any_eq_true, Notice.namesPick_iff]

theorem any_namesGroup {l : List Notice} {id : Nat} :
    l.any (Notice.namesGroup id) = true ↔ (false, id) ∈ l.map Notice.key := by
  simp [List.any_eq_true, Notice.namesGroup_iff]

theorem Consistent.eq_of_id (h : Consistent R N G) {r r' : PickRecord} (hr : r ∈ R) (hr' : r' ∈ R) (e : r.id = r'.id) :
    r = r' := List.inj_on_of_nodup_map h.ids hr hr' e

theorem Consistent.eq_of_groupId (h : Consistent R N G) {g g' : GroupRecord} (hg : g ∈ G) (hg' : g' ∈ G)
    (e : g.id = g'.id) : g = g' := List.inj_on_of_nodup_map h.groupIds hg hg' e

/-- A member of a live group is grouped in it. -/
theorem Consistent.grouping_of_member (h : Consistent R N G) {g : GroupRecord} (hg : g ∈ G) (hs : g.state ≠ .closed)
    {m : Member} (hm : m ∈ g.members) {r : PickRecord} (hr : r ∈ R) (e : r.id = m.pick) : r.grouping = g.groupingOf := by
  obtain ⟨r', hr', e', hgr⟩ := (h.members g hg hs).2 m hm
  rw [h.eq_of_id hr hr' (e.trans e'.symm)]
  exact hgr

/-- No notice names a PENDING record. -/
theorem Consistent.not_named (h : Consistent R N G) {r : PickRecord} (hr : r ∈ R) {g : Nat}
    (e : r.grouping = .pending g) (p : Port) : (true, r.id) ∉ (N p).map Notice.key := fun hk => by
  obtain ⟨r', hr', e', hn⟩ := h.picks p _ hk
  exact hn g (h.eq_of_id hr hr' e'.symm ▸ e)

/-- No notice names an OPEN group. -/
theorem Consistent.group_not_named (h : Consistent R N G) {g : GroupRecord} (hg : g ∈ G) (hs : g.state = .opened)
    (p : Port) : (false, g.id) ∉ (N p).map Notice.key := fun hk => by
  obtain ⟨n, hn, e⟩ := List.mem_map.1 hk
  cases n with
  | pickNew i => cases e
  | pickFinal i => cases e
  | pickRetracted i _ => cases e
  | groupDeclared i =>
    cases e
    obtain ⟨g', hg', e', hst⟩ := h.declared p _ hn
    rw [h.eq_of_groupId hg hg' e'.symm, hst] at hs
    cases hs
  | groupClosed i =>
    cases e
    obtain ⟨g', hg', e', hst⟩ := h.closed p _ hn
    rw [h.eq_of_groupId hg hg' e'.symm, hst] at hs
    cases hs

/-- A group that a notice names is live. -/
theorem Consistent.group_of_named (h : Consistent R N G) {id : Nat} {p : Port} (hk : (false, id) ∈ (N p).map Notice.key) :
    ∃ g ∈ G, g.id = id := by
  obtain ⟨n, hn, e⟩ := List.mem_map.1 hk
  cases n with
  | pickNew i => cases e
  | pickFinal i => cases e
  | pickRetracted i _ => cases e
  | groupDeclared i =>
    cases e
    obtain ⟨g, hg, e, -⟩ := h.declared p _ hn
    exact ⟨g, hg, e⟩
  | groupClosed i =>
    cases e
    obtain ⟨g, hg, e, -⟩ := h.closed p _ hn
    exact ⟨g, hg, e⟩

theorem groupingOf_opened {g : GroupRecord} (h : g.state = .opened) : g.groupingOf = .pending g.id := if_pos h

/-- A group says by the grouping that it gives which group it is. -/
theorem groupingOf_id {g g' : GroupRecord} (h : g.groupingOf = g'.groupingOf) : g.id = g'.id := by
  unfold GroupRecord.groupingOf at h
  split at h <;> split at h
  · exact Grouping.pending.inj h
  · cases h
  · cases h
  · exact Grouping.grouped.inj h

/-- R131, R133: no pick is a member of two live groups. -/
theorem Consistent.eq_of_member (h : Consistent R N G) {g g' : GroupRecord} (hg : g ∈ G) (hg' : g' ∈ G)
    (hs : g.state ≠ .closed) (hs' : g'.state ≠ .closed) {m m' : Member} (hm : m ∈ g.members) (hm' : m' ∈ g'.members)
    (e : m.pick = m'.pick) : g = g' := by
  obtain ⟨r, hr, hid, hgr⟩ := (h.members g hg hs).2 m hm
  have hgr' := h.grouping_of_member hg' hs' hm' hr (hid.trans e)
  exact h.eq_of_groupId hg hg' (groupingOf_id (hgr.symm.trans hgr'))

/-! ### Changes of the lists -/

/-- Notices that leave. -/
theorem Consistent.notices_sublist (h : Consistent R N G) (hs : ∀ p, (N' p).Sublist (N p)) : Consistent R N' G where
  ids := h.ids
  keys p := ((hs p).map _).nodup (h.keys p)
  picks p id hk := h.picks p id (((hs p).map _).subset hk)
  declared p id hn := h.declared p id ((hs p).subset hn)
  closed p id hn := h.closed p id ((hs p).subset hn)
  delivery := h.delivery
  room := h.room
  groupIds := h.groupIds
  pairs := h.pairs
  members := h.members

/-- A notice changed in place for another of the same pick. -/
theorem Consistent.notices_keys (h : Consistent R N G) (hk : ∀ p, (N' p).map Notice.key = (N p).map Notice.key)
    (hd : ∀ p id, .groupDeclared id ∈ N' p → .groupDeclared id ∈ N p)
    (hc : ∀ p id, .groupClosed id ∈ N' p → .groupClosed id ∈ N p) : Consistent R N' G where
  ids := h.ids
  keys p := hk p ▸ h.keys p
  picks p id hn := h.picks p id (hk p ▸ hn)
  declared p id hn := h.declared p id (hd p id hn)
  closed p id hn := h.closed p id (hc p id hn)
  delivery := h.delivery
  room := h.room
  groupIds := h.groupIds
  pairs := h.pairs
  members := h.members

/-- A notice that is appended to one port's list. -/
theorem Consistent.notices_append (h : Consistent R N G) {p : Port} {n : Notice} (hp : N' p = N p ++ [n])
    (ho : N' p.other = N p.other) (hk : n.key ∉ (N p).map Notice.key)
    (hpick : ∀ id, n.key = (true, id) → ∃ r ∈ R, r.id = id ∧ ∀ g, r.grouping ≠ .pending g)
    (hd : ∀ id, n = .groupDeclared id → ∃ g ∈ G, g.id = id ∧ g.state = .declared)
    (hc : ∀ id, n = .groupClosed id → ∃ g ∈ G, g.id = id ∧ g.state = .closed) : Consistent R N' G where
  ids := h.ids
  keys q := by
    rcases Port.eq_or_other p q with rfl | rfl
    · rw [hp, List.map_append, List.nodup_append]
      refine ⟨h.keys _, by simp, fun a ha b hb e => hk ?_⟩
      simp only [List.map_cons, List.map_nil, List.mem_singleton] at hb
      exact hb ▸ e ▸ ha
    · exact ho ▸ h.keys _
  picks q id hq := by
    rcases Port.eq_or_other p q with rfl | rfl
    · rw [hp, List.map_append, List.mem_append] at hq
      rcases hq with hq | hq
      · exact h.picks _ id hq
      · simp only [List.map_cons, List.map_nil, List.mem_singleton] at hq
        exact hpick id hq.symm
    · exact h.picks _ id (ho ▸ hq)
  declared q id hq := by
    rcases Port.eq_or_other p q with rfl | rfl
    · rw [hp, List.mem_append, List.mem_singleton] at hq
      rcases hq with hq | hq
      · exact h.declared _ id hq
      · exact hd id hq.symm
    · exact h.declared _ id (ho ▸ hq)
  closed q id hq := by
    rcases Port.eq_or_other p q with rfl | rfl
    · rw [hp, List.mem_append, List.mem_singleton] at hq
      rcases hq with hq | hq
      · exact h.closed _ id hq
      · exact hc id hq.symm
    · exact h.closed _ id (ho ▸ hq)
  delivery := h.delivery
  room := h.room
  groupIds := h.groupIds
  pairs := h.pairs
  members := h.members

/-! ### Changes of the records -/

/-- Records and groups that change together, each record under its id and none of them PENDING that a notice names or
that has been offered. -/
theorem Consistent.regroup (h : Consistent R N G) (f : PickRecord → PickRecord) (hid : ∀ r, (f r).id = r.id)
    (hpend : ∀ r ∈ R, ∀ g, (f r).grouping = .pending g →
      (∀ p, (f r).delivery.get p = .none) ∧ ∀ p, (true, r.id) ∉ (N p).map Notice.key)
    (hd : ∀ g ∈ G, g.state = .declared → (∃ p, .groupDeclared g.id ∈ N p) → ∃ g' ∈ G', g'.id = g.id ∧ g'.state = .declared)
    (hc : ∀ g ∈ G, g.state = .closed → (∃ p, .groupClosed g.id ∈ N p) → ∃ g' ∈ G', g'.id = g.id ∧ g'.state = .closed)
    (hroom : G'.length ≤ Config.groupCapacity) (hids : (G'.map (·.id)).Nodup)
    (hpairs : ∀ g ∈ G', (g.members.map fun m => (m.sensor, m.phase)).Nodup)
    (hmem : ∀ g ∈ G', g.state ≠ .closed → (g.members.map (·.pick)).Nodup
      ∧ ∀ m ∈ g.members, ∃ r ∈ R, r.id = m.pick ∧ (f r).grouping = g.groupingOf) :
    Consistent (R.map f) N G' where
  ids := by simpa [Function.comp_def, hid] using h.ids
  keys := h.keys
  picks p id hk := by
    obtain ⟨r, hr, e, -⟩ := h.picks p id hk
    exact ⟨f r, List.mem_map_of_mem hr, (hid r).trans e, fun g hg => (hpend r hr g hg).2 p (e ▸ hk)⟩
  declared p id hn := by
    obtain ⟨g, hg, e, hs⟩ := h.declared p id hn
    obtain ⟨g', hg', e', hs'⟩ := hd g hg hs ⟨p, e ▸ hn⟩
    exact ⟨g', hg', e'.trans e, hs'⟩
  closed p id hn := by
    obtain ⟨g, hg, e, hs⟩ := h.closed p id hn
    obtain ⟨g', hg', e', hs'⟩ := hc g hg hs ⟨p, e ▸ hn⟩
    exact ⟨g', hg', e'.trans e, hs'⟩
  delivery r hr := by
    obtain ⟨r', hr', rfl⟩ := List.mem_map.1 hr
    rintro ⟨g, hg⟩
    exact (hpend r' hr' g hg).1
  room := hroom
  groupIds := hids
  pairs := hpairs
  members g hg hs := by
    obtain ⟨hn, hm⟩ := hmem g hg hs
    refine ⟨hn, fun m hm' => ?_⟩
    obtain ⟨r, hr, e, hgr⟩ := hm m hm'
    exact ⟨f r, List.mem_map_of_mem hr, (hid r).trans e, hgr⟩

/-- Records that change under their ids and keep their groupings, and the PENDING ones their delivery fields. -/
theorem Consistent.map_records (h : Consistent R N G) (f : PickRecord → PickRecord) (hid : ∀ r, (f r).id = r.id)
    (hg : ∀ r ∈ R, (f r).grouping = r.grouping)
    (hdel : ∀ r ∈ R, ∀ g, r.grouping = .pending g → ∀ p, (f r).delivery.get p = .none) : Consistent (R.map f) N G := by
  refine h.regroup f hid (fun r hr g e => ?_) (fun g hg' hs _ => ⟨g, hg', rfl, hs⟩) (fun g hg' hs _ => ⟨g, hg', rfl, hs⟩)
    h.room h.groupIds h.pairs fun g hg' hs => ?_
  · rw [hg r hr] at e
    exact ⟨hdel r hr g e, h.not_named hr e⟩
  · obtain ⟨hn, hm⟩ := h.members g hg' hs
    refine ⟨hn, fun m hm' => ?_⟩
    obtain ⟨r, hr, e, hgr⟩ := hm m hm'
    exact ⟨r, hr, e, (hg r hr).trans hgr⟩

/-- R124: a record that no notice names and no live group lists is freed. -/
theorem Consistent.free (h : Consistent R N G) {id : Nat} (hn : ∀ p, (true, id) ∉ (N p).map Notice.key)
    (hl : ∀ g ∈ G, g.state ≠ .closed → ∀ m ∈ g.members, m.pick ≠ id) :
    Consistent (R.filter fun r => r.id != id) N G where
  ids := (List.filter_sublist.map _).nodup h.ids
  keys := h.keys
  picks p i hk := by
    obtain ⟨r, hr, e, hp⟩ := h.picks p i hk
    refine ⟨r, List.mem_filter.2 ⟨hr, ?_⟩, e, hp⟩
    simp only [bne_iff_ne, ne_eq]
    rintro rfl
    exact hn p (e ▸ hk)
  declared := h.declared
  closed := h.closed
  delivery r hr := h.delivery r (List.mem_filter.1 hr).1
  room := h.room
  groupIds := h.groupIds
  pairs := h.pairs
  members g hg hs := by
    obtain ⟨hnd, hm⟩ := h.members g hg hs
    refine ⟨hnd, fun m hm' => ?_⟩
    obtain ⟨r, hr, e, hgr⟩ := hm m hm'
    exact ⟨r, List.mem_filter.2 ⟨hr, by simpa [e] using hl g hg hs m hm'⟩, e, hgr⟩

/-- R111: a new record under an id that no record holds. -/
theorem Consistent.add (h : Consistent R N G) {r : PickRecord} (hid : r.id ∉ R.map (·.id)) (hg : r.grouping = .single) :
    Consistent (R ++ [r]) N G where
  ids := by
    rw [List.map_append, List.nodup_append]
    refine ⟨h.ids, by simp, fun a ha b hb e => hid ?_⟩
    simp only [List.map_cons, List.map_nil, List.mem_singleton] at hb
    exact hb ▸ e ▸ ha
  keys := h.keys
  picks p id hk := by
    obtain ⟨r', hr', e⟩ := h.picks p id hk
    exact ⟨r', List.mem_append_left _ hr', e⟩
  declared := h.declared
  closed := h.closed
  delivery r' hr' := by
    rcases List.mem_append.1 hr' with hr' | hr'
    · exact h.delivery r' hr'
    · rw [List.mem_singleton.1 hr', hg]
      rintro ⟨g, e⟩
      cases e
  room := h.room
  groupIds := h.groupIds
  pairs := h.pairs
  members g hg' hs := by
    obtain ⟨hnd, hm⟩ := h.members g hg' hs
    refine ⟨hnd, fun m hm' => ?_⟩
    obtain ⟨r', hr', e⟩ := hm m hm'
    exact ⟨r', List.mem_append_left _ hr', e⟩

/-! ### Changes of the groups -/

/-- R128: a group that no notice names is freed. -/
theorem Consistent.freeGroup (h : Consistent R N G) {id : Nat} (hn : ∀ p, (false, id) ∉ (N p).map Notice.key) :
    Consistent R N (G.filter fun g => g.id != id) := by
  have hlive : ∀ p n, n ∈ N p → n.key ≠ (false, id) := fun p n hm e => hn p (e ▸ Notice.key_mem hm)
  have stays : ∀ p n i, n ∈ N p → n.key = (false, i) → i ≠ id := fun p n i hm e => by
    rintro rfl
    exact hlive p n hm e
  refine ⟨h.ids, h.keys, h.picks, fun p i hm => ?_, fun p i hm => ?_, h.delivery,
    (List.length_filter_le _ _).trans h.room, (List.filter_sublist.map _).nodup h.groupIds,
    fun g hg => h.pairs g (List.mem_filter.1 hg).1, fun g hg => h.members g (List.mem_filter.1 hg).1⟩
  · obtain ⟨g, hg, e, hs⟩ := h.declared p i hm
    exact ⟨g, List.mem_filter.2 ⟨hg, by simpa [e] using stays p _ i hm rfl⟩, e, hs⟩
  · obtain ⟨g, hg, e, hs⟩ := h.closed p i hm
    exact ⟨g, List.mem_filter.2 ⟨hg, by simpa [e] using stays p _ i hm rfl⟩, e, hs⟩

end Rules

/-! ### The invariant and its parts -/

/-- `Consistent`, and the list of a DETACHED port is empty. -/
structure ListsOk (s : State) : Prop where
  consistent : Consistent s.table.records s.notices s.grouper.groups
  silent : ∀ p, s.attached p = false → s.notices p = []

theorem NoticeInv.consistent {s : State} (h : NoticeInv s) (hnd : (s.table.records.map (·.id)).Nodup) :
    Consistent s.table.records s.notices s.grouper.groups := by
  obtain ⟨hn, hdel, hroom, hids, hgroups⟩ := h
  refine ⟨hnd, fun p => (hn p).2.1, fun p id hk => ?_, fun p id hm => (hn p).2.2 _ hm,
    fun p id hm => (hn p).2.2 _ hm, hdel, hroom, hids, fun g hg => (hgroups g hg).2.1,
    fun g hg => (hgroups g hg).2.2⟩
  obtain ⟨n, hm, e⟩ := List.mem_map.1 hk
  have h := (hn p).2.2 n hm
  cases n with
  | pickNew i => cases e; exact h
  | pickFinal i => cases e; exact h
  | pickRetracted i _ => cases e; exact h
  | groupDeclared i => cases e
  | groupClosed i => cases e

theorem ListsOk.of_noticeInv {s : State} (h : NoticeInv s) (ht : TableInv s) (hp : PortInv s) : ListsOk s :=
  ⟨h.consistent ht.2.2.1, fun p hd => ((hp p).1 hd).1⟩

/-- Different keys of live subjects: no more than 64 of picks and 8 of groups. -/
theorem Consistent.length_le {R : List PickRecord} {N : Port → List Notice} {G : List GroupRecord} (h : Consistent R N G)
    (hlen : R.length ≤ Config.tableCapacity) (p : Port) : (N p).length ≤ 72 := by
  let subjects := R.map (fun r => (true, r.id)) ++ G.map fun g => (false, g.id)
  have hsub : (N p).map Notice.key ⊆ subjects := fun k hk => by
    obtain ⟨isPick, id⟩ := k
    rw [List.mem_append, List.mem_map, List.mem_map]
    cases isPick with
    | true =>
      obtain ⟨r, hr, e, -⟩ := h.picks p id hk
      exact .inl ⟨r, hr, by rw [e]⟩
    | false =>
      obtain ⟨g, hg, e⟩ := h.group_of_named hk
      exact .inr ⟨g, hg, by rw [e]⟩
  have hle := ((h.keys p).subperm hsub).length_le
  have hroom := h.room
  simp only [subjects, List.length_append, List.length_map, Config.tableCapacity, Config.groupCapacity] at hle hlen hroom
  omega

/-- Four sensors and two phases. -/
theorem pairs_length_le {l : List (Sensor × MemberPhase)} (h : l.Nodup) : l.length ≤ 8 := by
  let all : List (Sensor × MemberPhase) :=
    [(.s0, .p), (.s1, .p), (.s2, .p), (.s3, .p), (.s0, .s), (.s1, .s), (.s2, .s), (.s3, .s)]
  have hsub : l ⊆ all := fun x _ => by
    obtain ⟨sen, ph⟩ := x
    cases sen <;> cases ph <;> simp [all]
  exact (h.subperm hsub).length_le

theorem ListsOk.noticeInv {s : State} (h : ListsOk s) (ht : TableInv s) : NoticeInv s := by
  have hc := h.consistent
  refine ⟨fun p => ⟨hc.length_le ht.1 p, hc.keys p, fun n hm => ?_⟩, hc.delivery, hc.room, hc.groupIds, fun g hg =>
    ⟨?_, hc.pairs g hg, hc.members g hg⟩⟩
  · cases n with
    | pickNew i => exact hc.picks p i (Notice.key_mem hm)
    | pickFinal i => exact hc.picks p i (Notice.key_mem hm)
    | pickRetracted i _ => exact hc.picks p i (Notice.key_mem hm)
    | groupDeclared i => exact hc.declared p i hm
    | groupClosed i => exact hc.closed p i hm
  · simpa using pairs_length_le (hc.pairs g hg)

/-- What the operations on picks keep of DETACHED ports. -/
theorem ListsOk.of_picks {s t : State} (h : ListsOk s) (k : PicksOnly s t)
    (hc : Consistent t.table.records t.notices t.grouper.groups) : ListsOk t :=
  ⟨hc, fun p hd => by
    rw [k.attached] at hd
    rw [k.detached p hd]
    exact h.silent p hd⟩

/-- Records, lists, modes and groups are all that the relation sees. -/
theorem ListsOk.congr {s t : State} (h : ListsOk s) (hr : t.table.records = s.table.records)
    (ho : ∀ p, (t.offers.get p).notices = (s.offers.get p).notices ∧ (t.offers.get p).mode = (s.offers.get p).mode)
    (hg : t.grouper.groups = s.grouper.groups) : ListsOk t := by
  have hn : t.notices = s.notices := funext fun p => (ho p).1
  obtain ⟨hc, hs⟩ := h
  refine ⟨by rwa [hr, hn, hg], fun p hd => ?_⟩
  rw [hn]
  exact hs p (by rwa [State.attached_congr (ho p).2] at hd)

end Sys2Proof.Machine


/-! PROOFS. The Offer Lists, the Arrival Table and the grouper keep the relation of notices, records and groups. -/

namespace Sys2Proof.Machine

/-! ### Finding records and groups -/

theorem State.mem_of_findPick {s : State} {id : Nat} {r : PickRecord} (h : s.findPick id = some r) :
    r ∈ s.table.records ∧ r.id = id :=
  ⟨List.mem_of_find?_eq_some h, by simpa using List.find?_some h⟩

theorem State.mem_of_findGroup {s : State} {id : Nat} {g : GroupRecord} (h : s.findGroup id = some g) :
    g ∈ s.grouper.groups ∧ g.id = id :=
  ⟨List.mem_of_find?_eq_some h, by simpa using List.find?_some h⟩

/-- Where ids differ, the record of an id is found. -/
theorem State.findPick_of_mem {s : State} (h : (s.table.records.map (·.id)).Nodup) {r : PickRecord}
    (hr : r ∈ s.table.records) : s.findPick r.id = some r := by
  cases hf : s.findPick r.id with
  | none => exact absurd (List.find?_eq_none.1 hf r hr) (by simp)
  | some r' =>
    obtain ⟨hr', e⟩ := State.mem_of_findPick hf
    rw [List.inj_on_of_nodup_map h hr' hr e]

/-! ### Lists of one port -/

@[simp] theorem State.notices_setNotices (s : State) (p : Port) (l : List Notice) : (s.setNotices p l).notices p = l := by
  simp [State.notices]

@[simp] theorem State.notices_setNotices_other (s : State) (p : Port) (l : List Notice) :
    (s.setNotices p l).notices p.other = s.notices p.other := by
  simp [State.notices]

@[simp] theorem State.attached_setNotices (s : State) (p q : Port) (l : List Notice) :
    (s.setNotices p l).attached q = s.attached q := by
  rcases Port.eq_or_other p q with rfl | rfl <;> simp [State.attached]

theorem State.attached_of_mode {s : State} {p : Port} {m : OfferMode} (h : (s.offers.get p).mode = some m) :
    s.attached p = true := by simp [State.attached, h]

/-- A notice that is in a list names a port that is attached. -/
theorem ListsOk.attached_of_mem {s : State} (h : ListsOk s) {p : Port} {n : Notice} (hn : n ∈ s.notices p) :
    s.attached p = true := by
  cases ha : s.attached p with
  | true => rfl
  | false =>
    rw [h.silent p ha] at hn
    cases hn

/-- Notices of an attached port leave. -/
theorem ListsOk.setNotices_sublist {s : State} (h : ListsOk s) {p : Port} {l : List Notice} (ha : s.attached p = true)
    (hl : l.Sublist (s.notices p)) : ListsOk (s.setNotices p l) := by
  refine h.of_picks (State.setNotices_reports l ha).toPicksOnly (h.consistent.notices_sublist fun q => ?_)
  rcases Port.eq_or_other p q with rfl | rfl
  · simpa using hl
  · simp

/-- A notice of a live subject is appended to an attached port's list. -/
theorem ListsOk.appendNotice {s : State} (h : ListsOk s) {p : Port} {n : Notice} (ha : s.attached p = true)
    (hk : n.key ∉ (s.notices p).map Notice.key)
    (hpick : ∀ id, n.key = (true, id) → ∃ r ∈ s.table.records, r.id = id ∧ ∀ g, r.grouping ≠ .pending g)
    (hd : ∀ id, n = .groupDeclared id → ∃ g ∈ s.grouper.groups, g.id = id ∧ g.state = .declared)
    (hc : ∀ id, n = .groupClosed id → ∃ g ∈ s.grouper.groups, g.id = id ∧ g.state = .closed) :
    ListsOk (s.appendNotice p n) :=
  h.of_picks (State.appendNotice_reports n ha).toPicksOnly
    (h.consistent.notices_append (State.notices_setNotices s p _) (State.notices_setNotices_other s p _) hk hpick hd hc)

/-- A delivery field of a record changes: to NONE, or of a record that is not PENDING. -/
theorem ListsOk.setDelivery {s : State} (h : ListsOk s) (p : Port) (id : Nat) (d : Delivery)
    (hd : d = .none ∨ ∀ r ∈ s.table.records, r.id = id → ∀ g, r.grouping ≠ .pending g) :
    ListsOk (s.setDelivery p id d) := by
  refine h.of_picks (s.setDelivery_reports p id d).toPicksOnly (h.consistent.map_records _ (fun r => ?_) (fun r _ => ?_)
    fun r hr g hg q => ?_)
  · split <;> rfl
  · split <;> rfl
  · have hnone := h.consistent.delivery r hr ⟨g, hg⟩
    split
    · rename_i e
      rcases hd with rfl | hn
      · rcases Port.eq_or_other p q with rfl | rfl
        · simp
        · simpa using hnone p.other
      · exact absurd hg (hn r hr e g)
    · exact hnone q

/-! ### Offering -/

/-- A live record, not PENDING, that no notice of a port names. -/
def Offerable (s : State) (p : Port) (id : Nat) : Prop :=
  (∃ r ∈ s.table.records, r.id = id ∧ ∀ g, r.grouping ≠ .pending g) ∧ (true, id) ∉ (s.notices p).map Notice.key

theorem State.offerPick_notices (s : State) (p : Port) (id : Nat) :
    (s.offerPick p id).notices p = s.notices p ++ [.pickNew id]
      ∧ (s.offerPick p id).notices p.other = s.notices p.other :=
  ⟨State.notices_setNotices s p _, State.notices_setNotices_other s p _⟩

/-- A record that stays so by id and grouping. -/
theorem State.setDelivery_subject {s : State} {p : Port} {id i : Nat} {d : Delivery}
    (h : ∃ r ∈ s.table.records, r.id = i ∧ ∀ g, r.grouping ≠ .pending g) :
    ∃ r ∈ (s.setDelivery p id d).table.records, r.id = i ∧ ∀ g, r.grouping ≠ .pending g := by
  obtain ⟨r, hr, e, hn⟩ := h
  refine ⟨_, List.mem_map_of_mem hr, ?_, fun g => ?_⟩
  · split <;> exact e
  · split <;> exact hn g

theorem ListsOk.offerPick {s : State} (h : ListsOk s) {p : Port} {id : Nat} (ha : s.attached p = true)
    (ho : Offerable s p id) : ListsOk (s.offerPick p id) := by
  obtain ⟨⟨r, hr, e, hn⟩, hk⟩ := ho
  have happ : ListsOk (s.appendNotice p (.pickNew id)) := h.appendNotice ha hk
    (fun i ei => ⟨r, hr, by cases ei; exact e, hn⟩) (fun _ e => nomatch e) fun _ e => nomatch e
  refine happ.setDelivery p id .waiting (.inr fun r' hr' e' => ?_)
  rw [h.consistent.eq_of_id hr' hr (e'.trans e.symm)]
  exact hn

theorem Offerable.offerPick {s : State} {p q : Port} {id i : Nat} (h : Offerable s q i) (hne : q ≠ p ∨ i ≠ id) :
    Offerable (s.offerPick p id) q i := by
  refine ⟨State.setDelivery_subject h.1, ?_⟩
  rcases Port.eq_or_other p q with rfl | rfl
  · rw [(s.offerPick_notices _ id).1, List.map_append, List.mem_append]
    have hi : i ≠ id := hne.resolve_left fun e => e rfl
    rintro (hk | hk)
    · exact h.2 hk
    · simp only [List.map_cons, List.map_nil, List.mem_singleton, Notice.key, Prod.mk.injEq, true_and] at hk
      exact hi hk
  · rw [(s.offerPick_notices _ id).2]
    exact h.2

/-- Different records that can be offered to an attached port are offered to it, with nothing at the other. -/
theorem ListsOk.offerPicks {s : State} (h : ListsOk s) {p : Port} {l : List Nat} (ha : s.attached p = true)
    (hl : l.Nodup) (ho : ∀ id ∈ l, Offerable s p id) :
    ListsOk (l.foldl (fun t id => t.offerPick p id) s)
      ∧ (l.foldl (fun t id => t.offerPick p id) s).notices p = s.notices p ++ l.map .pickNew
      ∧ (∀ i, Offerable s p.other i → Offerable (l.foldl (fun t id => t.offerPick p id) s) p.other i) := by
  induction l generalizing s with
  | nil => exact ⟨h, (List.append_nil _).symm, fun _ h => h⟩
  | cons id rest ih =>
    obtain ⟨hid, hrest⟩ := List.nodup_cons.1 hl
    have h1 := h.offerPick ha (ho id List.mem_cons_self)
    have ha1 : (s.offerPick p id).attached p = true := ((State.offerPick_reports id ha).attached p).trans ha
    obtain ⟨hok, hnotices, hother⟩ := ih h1 ha1 hrest fun i hi =>
      (ho i (List.mem_cons_of_mem _ hi)).offerPick (.inr fun e => hid (e ▸ hi))
    refine ⟨hok, ?_, fun i hi => hother i (hi.offerPick (.inl (Port.other_ne p)))⟩
    rw [List.foldl_cons, hnotices, (s.offerPick_notices p id).1, List.append_assoc]
    rfl

/-- What is done for each attached port, at one port. -/
def State.atAttached (f : State → Port → OfferMode → State) (t : State) (p : Port) : State :=
  match (t.offers.get p).mode with
  | none => t
  | some m => f t p m

theorem State.eachAttached_eq (s : State) (f : State → Port → OfferMode → State) :
    s.eachAttached f = State.atAttached f (State.atAttached f s .a) .b := rfl

/-- What is done for each attached port keeps what each of its parts keeps; `R p` is what the part of `p` needs. -/
theorem State.eachAttached_keep {s : State} {f : State → Port → OfferMode → State} {P : State → Prop}
    {R : Port → State → Prop} (h : P s) (hR : ∀ p, R p s)
    (step : ∀ t p m, P t → R p t → (t.offers.get p).mode = some m →
      P (f t p m) ∧ (R p.other t → R p.other (f t p m))) : P (s.eachAttached f) := by
  have one : ∀ t p, P t → R p t → P (State.atAttached f t p) ∧ (R p.other t → R p.other (State.atAttached f t p)) :=
    fun t p ht hr => by
      unfold State.atAttached
      split
      · exact ⟨ht, fun h => h⟩
      · rename_i m hm
        exact step t p m ht hr hm
  obtain ⟨ha, hb⟩ := one s .a h (hR .a)
  exact (one _ .b ha (hb (hR .b))).1

/-- R151: a record that no notice names is offered. -/
theorem ListsOk.offerNew {s : State} (h : ListsOk s) {id : Nat} (hn : ∀ p, (true, id) ∉ (s.notices p).map Notice.key) :
    ListsOk (s.offerNew id) := by
  unfold State.offerNew
  split
  · exact h
  · rename_i r hf
    obtain ⟨hr, e⟩ := State.mem_of_findPick hf
    refine State.eachAttached_keep (P := ListsOk) (R := fun p t => (∀ g, r.grouping ≠ .pending g) → Offerable t p id) h
      (fun p hp => ⟨⟨r, hr, e, hp⟩, hn p⟩) fun t p m ht ho hm => ?_
    split
    · rename_i hoff
      have hp : ∀ g, r.grouping ≠ .pending g := fun g eg => by
        rw [eg] at hoff
        cases m <;> cases hoff
      exact ⟨ht.offerPick (State.attached_of_mode hm) (ho hp), fun ho' hp =>
        (ho' hp).offerPick (.inl (Port.other_ne p))⟩
    · exact ⟨ht, fun ho' => ho'⟩

/-- R153: so is a record that expiry made SINGLE; the others stay as they can be offered. -/
theorem ListsOk.offerExpired {s : State} (h : ListsOk s) {id : Nat} (ho : ∀ p, Offerable s p id) :
    ListsOk (s.offerExpired id) := by
  refine State.eachAttached_keep (P := ListsOk) (R := fun p t => Offerable t p id) h ho fun t p m ht hp hm => ?_
  split
  · exact ⟨ht.offerPick (State.attached_of_mode hm) hp, fun ho' => ho'.offerPick (.inl (Port.other_ne p))⟩
  · exact ⟨ht, fun h => h⟩

theorem Offerable.offerExpired {s : State} {q : Port} {id i : Nat} (h : Offerable s q i) (hne : i ≠ id) :
    Offerable (s.offerExpired id) q i := by
  refine State.eachAttached_keep (P := fun t => Offerable t q i) (R := fun _ _ => True) h (fun _ => trivial)
    fun t p m ht _ _ => ⟨?_, fun h => h⟩
  split
  · exact ht.offerPick (.inr hne)
  · exact ht

theorem ListsOk.offerExpireds {s : State} (h : ListsOk s) {l : List Nat} (hl : l.Nodup)
    (ho : ∀ id ∈ l, ∀ p, Offerable s p id) : ListsOk (l.foldl State.offerExpired s) := by
  induction l generalizing s with
  | nil => exact h
  | cons id rest ih =>
    obtain ⟨hid, hrest⟩ := List.nodup_cons.1 hl
    exact ih (h.offerExpired (ho id List.mem_cons_self)) hrest fun i hi p =>
      (ho i (List.mem_cons_of_mem _ hi) p).offerExpired fun e => hid (e ▸ hi)

/-- R152: the members of a declared group are offered, and the declaration after them. -/
theorem ListsOk.offerDeclaration {s : State} (h : ListsOk s) {l : List Nat} {id : Nat} (hl : l.Nodup)
    (ho : ∀ i ∈ l, ∀ p, Offerable s p i) (hg : ∃ g ∈ s.grouper.groups, g.id = id ∧ g.state = .declared)
    (hn : ∀ p, (false, id) ∉ (s.notices p).map Notice.key) : ListsOk (s.offerDeclaration l id) := by
  refine (State.eachAttached_keep (P := fun t => ListsOk t ∧ t.grouper.groups = s.grouper.groups)
    (R := fun p t => (∀ i ∈ l, Offerable t p i) ∧ (false, id) ∉ (t.notices p).map Notice.key) ⟨h, rfl⟩
    (fun p => ⟨fun i hi => ho i hi p, hn p⟩) fun t p m ht hp hm => ?_).1
  have ha := State.attached_of_mode hm
  obtain ⟨hok, hgroups⟩ := ht
  obtain ⟨hoff, hname⟩ := hp
  obtain ⟨hok', hnotices, hother⟩ := hok.offerPicks ha hl hoff
  have hrep := State.offerPicks_reports (s := t) l ha
  have hgroups' : (l.foldl (fun u i => u.offerPick p i) t).grouper.groups = s.grouper.groups := by
    rw [← hgroups]
    clear hok' hnotices hother hrep hoff hname hok hgroups hm ha hl ho
    induction l generalizing t with
    | nil => rfl
    | cons i rest ih => exact ih _
  have hnames : (l.foldl (fun u i => u.offerPick p i) t).notices p.other = t.notices p.other := by
    clear hok' hnotices hother hrep hoff hname hok hgroups hm ha hl ho hgroups'
    induction l generalizing t with
    | nil => rfl
    | cons i rest ih => exact (ih _).trans (t.offerPick_notices p i).2
  refine ⟨⟨hok'.appendNotice ((hrep.attached p).trans ha) ?_ (fun _ e => nomatch e) (fun i ei => ?_) fun _ e => (nomatch e),
    hgroups'⟩, fun ⟨ho', hn'⟩ => ⟨fun i hi => ?_, ?_⟩⟩
  · rw [hnotices, List.map_append, List.mem_append, not_or]
    refine ⟨hname, fun hk => ?_⟩
    simp only [List.map_map, List.mem_map, Function.comp_apply, Notice.key, Prod.mk.injEq] at hk
    obtain ⟨_, _, e, -⟩ := hk
    cases e
  · cases ei
    rw [hgroups']
    exact hg
  · obtain ⟨hsub, hfree⟩ := hother i (ho' i hi)
    exact ⟨hsub, by rwa [State.appendNotice, State.notices_setNotices_other]⟩
  · rw [State.appendNotice, State.notices_setNotices_other, hnames]
    exact hn'

/-! ### Merges (R154) -/

/-- A pick that has been taken at a port is a record that is not PENDING. -/
theorem ListsOk.subject_of_delivery {s : State} (h : ListsOk s) {p : Port} {id : Nat} (hd : s.delivery p id ≠ .none) :
    ∃ r ∈ s.table.records, r.id = id ∧ ∀ g, r.grouping ≠ .pending g := by
  unfold State.delivery at hd
  split at hd
  · exact absurd rfl hd
  · rename_i r hf
    obtain ⟨hr, e⟩ := State.mem_of_findPick hf
    exact ⟨r, hr, e, fun g hg => hd (h.consistent.delivery r hr ⟨g, hg⟩ p)⟩

theorem State.not_named_of_pickNotice {s : State} {p : Port} {id : Nat} (h : s.pickNotice p id = none) :
    (true, id) ∉ (s.notices p).map Notice.key := fun hk => by
  obtain ⟨n, hn, e⟩ := List.mem_map.1 hk
  exact List.find?_eq_none.1 h n hn (Notice.namesPick_iff.2 e)

theorem ListsOk.mergeFinal {s : State} (h : ListsOk s) (id : Nat) : ListsOk (s.mergeFinal id) := by
  refine State.eachAttached_keep (P := ListsOk) (R := fun _ _ => True) h (fun _ => trivial) fun t p m ht _ hm => ⟨?_, fun h => h⟩
  split
  · exact ht
  · rename_i hnone
    split
    · rename_i hd
      obtain ⟨r, hr, e, hp⟩ := ht.subject_of_delivery (p := p) (id := id) (by rw [hd]; exact (nomatch ·))
      exact ht.appendNotice (State.attached_of_mode hm) (State.not_named_of_pickNotice hnone)
        (fun i ei => ⟨r, hr, by cases ei; exact e, hp⟩) (fun _ e => nomatch e) fun _ e => nomatch e
    · exact ht

/-- R154: a PICK_FINAL that becomes PICK_RETRACTED. -/
theorem ListsOk.retractInPlace {s : State} (h : ListsOk s) {p : Port} (ha : s.attached p = true) (id : Nat) (by_ : Port) :
    ListsOk (s.setNotices p (retractInPlace id by_ (s.notices p))) := by
  have hkeys : (Machine.retractInPlace id by_ (s.notices p)).map Notice.key = (s.notices p).map Notice.key := by
    simp only [Machine.retractInPlace, List.map_map]
    refine List.map_congr_left fun n _ => ?_
    simp only [Function.comp_apply]
    split
    · rename_i e
      rw [e]
      rfl
    · rfl
  have hgroup : ∀ n, n ∈ Machine.retractInPlace id by_ (s.notices p) → n.key.1 = false → n ∈ s.notices p := fun n hn hf => by
    obtain ⟨n', hn', rfl⟩ := List.mem_map.1 hn
    split at hf
    · cases hf
    · rename_i hne
      rw [if_neg hne]
      exact hn'
  refine h.of_picks (State.setNotices_reports _ ha).toPicksOnly (h.consistent.notices_keys (fun q => ?_) (fun q i hq => ?_)
    fun q i hq => ?_)
  · rcases Port.eq_or_other p q with rfl | rfl
    · simpa using hkeys
    · simp
  · rcases Port.eq_or_other p q with rfl | rfl
    · exact hgroup _ (by simpa using hq) rfl
    · simpa using hq
  · rcases Port.eq_or_other p q with rfl | rfl
    · exact hgroup _ (by simpa using hq) rfl
    · simpa using hq

theorem ListsOk.mergeRetractionAt {s : State} (h : ListsOk s) (id : Nat) (by_ : Port) {p : Port}
    (ha : s.attached p = true) : ListsOk (s.mergeRetractionAt id by_ p) := by
  have hdrop : ListsOk (s.setNotices p (dropPick id (s.notices p))) := h.setNotices_sublist ha List.filter_sublist
  unfold State.mergeRetractionAt
  split
  · dsimp only
    split
    · exact hdrop.setDelivery p id .none (.inl rfl)
    · exact hdrop
  · split
    · exact hdrop
    · exact h.retractInPlace ha id by_
  · exact h
  · rename_i hnone
    split
    · rename_i hd
      have hne : s.delivery p id ≠ .none := by
        rcases hd.2 with e | e <;> rw [e] <;> exact (nomatch ·)
      obtain ⟨r, hr, e, hp⟩ := h.subject_of_delivery hne
      exact h.appendNotice ha (State.not_named_of_pickNotice hnone)
        (fun i ei => ⟨r, hr, by cases ei; exact e, hp⟩) (fun _ e => nomatch e) fun _ e => nomatch e
    · exact h

theorem ListsOk.mergeRetraction {s : State} (h : ListsOk s) (id : Nat) (by_ : Port) :
    ListsOk (s.mergeRetraction id by_) :=
  State.eachAttached_keep (P := ListsOk) (R := fun _ _ => True) h (fun _ => trivial) fun _ _ _ ht _ hm =>
    ⟨ht.mergeRetractionAt id by_ (State.attached_of_mode hm), fun h => h⟩

/-! ### Releases (R123, R124, R142) -/

theorem ListsOk.releaseTest {s : State} (h : ListsOk s) (id : Nat) : ListsOk (s.releaseTest id) := by
  unfold State.releaseTest
  split
  · exact h
  · rename_i r hf
    obtain ⟨-, e⟩ := State.mem_of_findPick hf
    split
    · rename_i hrel
      simp only [State.releasable, State.portNeeds, State.listedLive, Bool.and_eq_true, Bool.not_eq_true',
        Bool.and_eq_false_iff, Bool.or_eq_false_iff] at hrel
      obtain ⟨⟨⟨⟨-, ha⟩, hb⟩, -⟩, hl⟩ := hrel
      have hport : ∀ p, s.attached p = false ∨ (s.notices p).any (Notice.namesPick r.id) = false := fun p => by
        cases p
        · exact ha.imp_right fun h => h.1
        · exact hb.imp_right fun h => h.1
      refine h.of_picks (s.free_reports id).toPicksOnly (h.consistent.free (fun p hk => ?_) fun g hg hs m hm hmid => ?_)
      · rcases hport p with hd | hn
        · rw [h.silent p hd] at hk
          cases hk
        · rw [e, ← Bool.not_eq_true, any_namesPick] at hn
          exact hn hk
      · rw [← Bool.not_eq_true, List.any_eq_true] at hl
        refine hl ⟨g, hg, ?_⟩
        simp only [hs, ne_eq, not_false_eq_true, decide_true, Bool.true_and, List.any_eq_true, beq_iff_eq]
        exact ⟨m, hm, hmid.trans e.symm⟩
    · exact h

theorem ListsOk.releaseTests {s : State} (h : ListsOk s) (ids : List Nat) : ListsOk (s.releaseTests ids) := by
  induction ids generalizing s with
  | nil => exact h
  | cons id rest ih => exact ih (h.releaseTest id)

theorem ListsOk.groupFreeTest {s : State} (h : ListsOk s) (id : Nat) : ListsOk (s.groupFreeTest id) := by
  unfold State.groupFreeTest
  split
  · exact h
  · split
    · rename_i hfree
      refine h.of_picks (s.freeGroup_reports id).toPicksOnly (h.consistent.freeGroup fun p hk => ?_)
      have hn := hfree.2
      simp only [State.groupNamed, Bool.or_eq_false_iff, Bool.and_eq_false_iff] at hn
      have hport : s.attached p = false ∨ (s.notices p).any (Notice.namesGroup id) = false := by
        cases p
        · exact hn.1
        · exact hn.2
      rcases hport with hd | hnot
      · rw [h.silent p hd] at hk
        cases hk
      · rw [← Bool.not_eq_true, any_namesGroup] at hnot
        exact hnot hk
    · exact h

theorem ListsOk.groupFreeTests {s : State} (h : ListsOk s) : ListsOk s.groupFreeTests := by
  unfold State.groupFreeTests
  generalize s.grouper.groups.map (·.id) = l
  induction l generalizing s with
  | nil => exact h
  | cons id rest ih => exact ih (h.groupFreeTest id)

end Sys2Proof.Machine


/-! PROOFS. The Coincidence Grouper keeps the relation of notices, records and groups (R130 to R143). -/

namespace Sys2Proof.Machine

/-! ### Changes at every attached port -/

/-- What a change of one port's list by its mode in force leaves. -/
theorem State.atAttached_setNotices (F : OfferMode → List Notice → List Notice) (s : State) (p : Port) :
    let t := State.atAttached (fun u q m => u.setNotices q (F m (u.notices q))) s p
    t = { s with offers := t.offers, attention := t.attention }
      ∧ (∀ q, (t.offers.get q).mode = (s.offers.get q).mode ∧ (t.offers.get q).setting = (s.offers.get q).setting)
      ∧ t.notices p = (match (s.offers.get p).mode with
          | none => s.notices p
          | some m => F m (s.notices p))
      ∧ t.notices p.other = s.notices p.other := by
  cases hm : (s.offers.get p).mode with
  | none =>
    have he : State.atAttached (fun u q m => u.setNotices q (F m (u.notices q))) s p = s := by
      simp only [State.atAttached, hm]
    rw [he]
    exact ⟨rfl, fun _ => ⟨rfl, rfl⟩, rfl, rfl⟩
  | some m =>
    have he : State.atAttached (fun u q m => u.setNotices q (F m (u.notices q))) s p
        = s.setNotices p (F m (s.notices p)) := by
      simp only [State.atAttached, hm]
    rw [he]
    refine ⟨rfl, fun q => ?_, State.notices_setNotices _ _ _, State.notices_setNotices_other _ _ _⟩
    rcases Port.eq_or_other p q with rfl | rfl <;> simp

/-- Every attached port's list is changed by its mode in force; nothing else is but the attention records. -/
theorem State.eachAttached_setNotices (F : OfferMode → List Notice → List Notice) (s : State) :
    let t := s.eachAttached fun u p m => u.setNotices p (F m (u.notices p))
    t = { s with offers := t.offers, attention := t.attention }
      ∧ (∀ p, (t.offers.get p).mode = (s.offers.get p).mode ∧ (t.offers.get p).setting = (s.offers.get p).setting)
      ∧ ∀ p, t.notices p = match (s.offers.get p).mode with
          | none => s.notices p
          | some m => F m (s.notices p) := by
  obtain ⟨hra, hma, hna, hoa⟩ := State.atAttached_setNotices F s .a
  obtain ⟨hrb, hmb, hnb, hob⟩ := State.atAttached_setNotices F
    (State.atAttached (fun u q m => u.setNotices q (F m (u.notices q))) s .a) .b
  refine ⟨by rw [State.eachAttached_eq, hrb, hra], fun p => ⟨(hmb p).1.trans (hma p).1, (hmb p).2.trans (hma p).2⟩,
    fun p => ?_⟩
  cases p with
  | a => exact hob.trans hna
  | b =>
    refine hnb.trans ?_
    rw [(hma .b).1]
    change _ = _ at hoa
    rw [show State.notices _ .b = s.notices .b from hoa]

/-- R154: what the closing of a group makes of a list. -/
def closingList (group : Nat) (l : List Notice) : List Notice :=
  if l.any (Notice.namesGroup group) then closeInPlace group l else l ++ [.groupClosed group]

theorem State.mergeClosing_eq (s : State) (group : Nat) :
    s.mergeClosing group = s.eachAttached fun t p _ => t.setNotices p (closingList group (t.notices p)) := by
  unfold State.mergeClosing
  congr 1
  funext t p _
  unfold closingList State.groupNotice
  split
  · rename_i n hn
    rw [if_pos (List.any_eq_true.2 ⟨n, List.mem_of_find?_eq_some hn, List.find?_some hn⟩)]
  · rename_i hn
    rw [if_neg]
    · rfl
    · rw [List.any_eq_true]
      rintro ⟨n, hm, e⟩
      exact List.find?_eq_none.1 hn n hm e

theorem closingList_keys {group : Nat} {l : List Notice} (h : (l.map Notice.key).Nodup) :
    ((closingList group l).map Notice.key).Nodup
      ∧ ∀ id, (true, id) ∈ (closingList group l).map Notice.key → (true, id) ∈ l.map Notice.key := by
  unfold closingList
  split
  · have hkeys : (closeInPlace group l).map Notice.key = l.map Notice.key := by
      simp only [closeInPlace, List.map_map]
      refine List.map_congr_left fun n _ => ?_
      simp only [Function.comp_apply]
      split
      · rename_i e
        rw [e]
        rfl
      · rfl
    rw [hkeys]
    exact ⟨h, fun _ hk => hk⟩
  · rename_i hn
    rw [any_namesGroup] at hn
    rw [List.map_append, List.nodup_append]
    refine ⟨⟨h, by simp, fun a ha b hb e => hn ?_⟩, fun id hk => ?_⟩
    · simp only [List.map_cons, List.map_nil, List.mem_singleton] at hb
      exact (hb ▸ e ▸ ha : Notice.key (.groupClosed group) ∈ _)
    · rcases List.mem_append.1 hk with hk | hk
      · exact hk
      · simp [Notice.key] at hk

/-- After the closing the list reports no declaration of the group, and no closing but that and those before. -/
theorem mem_closingList {group id : Nat} {l : List Notice} :
    (.groupDeclared id ∈ closingList group l → id ≠ group ∧ .groupDeclared id ∈ l)
      ∧ (.groupClosed id ∈ closingList group l → id = group ∨ .groupClosed id ∈ l) := by
  unfold closingList
  split
  · unfold closeInPlace
    constructor <;> intro h <;> obtain ⟨n, hn, e⟩ := List.mem_map.1 h <;> split at e
    · cases e
    · rename_i hne
      rw [e] at hne hn
      exact ⟨fun e => hne (by rw [e]), hn⟩
    · cases e
      exact .inl rfl
    · exact .inr (e ▸ hn)
  · rename_i hn
    constructor <;> intro h <;> rcases List.mem_append.1 h with h | h
    · refine ⟨fun e => hn ?_, h⟩
      rw [any_namesGroup]
      exact e ▸ Notice.key_mem h
    · simp at h
    · exact .inr h
    · exact .inl (by simpa using h)

/-! ### Groupings of several records -/

/-- The groupings of the records of several ids, changed at once. -/
theorem State.foldl_setGrouping (s : State) (l : List Nat) (G : Grouping) :
    l.foldl (fun t id => t.setGrouping id G) s = { s with table := { s.table with
      records := s.table.records.map fun r => if r.id ∈ l then { r with grouping := G } else r } } := by
  induction l generalizing s with
  | nil => simp
  | cons id rest ih =>
    rw [List.foldl_cons, ih]
    simp only [State.setGrouping, State.modPick, List.map_map, List.mem_cons]
    congr 3
    funext r
    simp only [Function.comp_apply]
    by_cases h : r.id = id
    · simp [h]
    · simp [h]

/-- No notice of any port names a pick. -/
def Unnamed (s : State) (id : Nat) : Prop := ∀ p, (true, id) ∉ (s.notices p).map Notice.key

theorem Unnamed.congr {s t : State} {id : Nat} (h : Unnamed s id) (ho : t.offers = s.offers) : Unnamed t id := fun p => by
  rw [State.notices, ho]
  exact h p

theorem State.releaseTest_offers (s : State) (id : Nat) : (s.releaseTest id).offers = s.offers := by
  unfold State.releaseTest
  split
  · rfl
  · split <;> rfl

theorem State.releaseTests_offers (s : State) (ids : List Nat) : (s.releaseTests ids).offers = s.offers := by
  induction ids generalizing s with
  | nil => rfl
  | cons id rest ih => exact (ih _).trans (s.releaseTest_offers id)

theorem State.groupFreeTest_offers (s : State) (id : Nat) : (s.groupFreeTest id).offers = s.offers := by
  unfold State.groupFreeTest
  split
  · rfl
  · split <;> rfl

theorem Unnamed.offerPick {s : State} {id i : Nat} (h : Unnamed s id) (p : Port) (hne : id ≠ i) :
    Unnamed (s.offerPick p i) id := fun q => by
  rcases Port.eq_or_other p q with rfl | rfl
  · rw [(s.offerPick_notices _ i).1, List.map_append, List.mem_append]
    rintro (hk | hk)
    · exact h _ hk
    · simp only [List.map_cons, List.map_nil, List.mem_singleton, Notice.key, Prod.mk.injEq, true_and] at hk
      exact hne hk
  · rw [(s.offerPick_notices _ i).2]
    exact h _

theorem Unnamed.offerExpired {s : State} {id i : Nat} (h : Unnamed s id) (hne : id ≠ i) : Unnamed (s.offerExpired i) id := by
  refine State.eachAttached_keep (P := fun t => Unnamed t id) (R := fun _ _ => True) h (fun _ => trivial)
    fun t p m ht _ _ => ⟨?_, fun h => h⟩
  split
  · exact ht.offerPick p hne
  · exact ht

theorem Unnamed.offerExpireds {s : State} {id : Nat} (h : Unnamed s id) {l : List Nat} (hl : id ∉ l) :
    Unnamed (l.foldl State.offerExpired s) id := by
  induction l generalizing s with
  | nil => exact h
  | cons i rest ih =>
    obtain ⟨hne, hrest⟩ := not_or.1 (List.mem_cons.not.1 hl)
    exact ih (h.offerExpired hne) hrest

/-! ### Expiry (R140) -/

/-- What the grouper holds does not matter to an offer. -/
theorem State.offerExpired_freeGroup (s : State) (id gid : Nat) :
    (s.offerExpired id).freeGroup gid = (s.freeGroup gid).offerExpired id := by
  let f : State → Port → OfferMode → State := fun t p m => if m = .all then t.offerPick p id else t
  have one : ∀ (t : State) (p : Port),
      (State.atAttached f t p).freeGroup gid = State.atAttached f (t.freeGroup gid) p := fun t p => by
    have hmode : ((t.freeGroup gid).offers.get p).mode = (t.offers.get p).mode := rfl
    unfold State.atAttached
    rw [hmode]
    split
    · rfl
    · dsimp only [f]
      split <;> rfl
  change (s.eachAttached f).freeGroup gid = (s.freeGroup gid).eachAttached f
  rw [State.eachAttached_eq, State.eachAttached_eq, one, one]

theorem State.offerExpireds_freeGroup (s : State) (l : List Nat) (gid : Nat) :
    (l.foldl State.offerExpired s).freeGroup gid = l.foldl State.offerExpired (s.freeGroup gid) := by
  induction l generalizing s with
  | nil => rfl
  | cons id rest ih => rw [List.foldl_cons, ih, State.offerExpired_freeGroup, List.foldl_cons]

theorem GroupRecord.mem_others {g : GroupRecord} {handling : Option Nat} {id : Nat} :
    id ∈ g.others handling ↔ id ∈ g.members.map (·.pick) ∧ handling ≠ some id := by
  simp [GroupRecord.others]

/-- R140: the members of an OPEN group become SINGLE and the group is freed. -/
theorem ListsOk.expired {s : State} (h : ListsOk s) {g : GroupRecord} (hg : g ∈ s.grouper.groups)
    (hs : g.state = .opened) :
    ListsOk (((g.members.map (·.pick)).foldl (fun t id => t.setGrouping id .single) s).freeGroup g.id) := by
  have hc := h.consistent
  have hlive : g.state ≠ .closed := by rw [hs]; exact (nomatch ·)
  have hreport := (ReportsOnly.foldl (fun t id => t.setGrouping_reports id .single) (g.members.map (·.pick)) s).trans
    (State.freeGroup_reports _ g.id)
  have stays : ∀ g' ∈ s.grouper.groups, g'.state ≠ .opened → g' ∈ s.grouper.groups.filter fun x => x.id != g.id :=
    fun g' hg' hne => List.mem_filter.2 ⟨hg', bne_iff_ne.2 fun e => hne (hc.eq_of_groupId hg' hg e ▸ hs)⟩
  refine h.of_picks hreport.toPicksOnly ?_
  rw [State.foldl_setGrouping]
  refine hc.regroup _ (fun r => ?_) (fun r hr g' e => ?_)
    (fun g' hg' hs' _ => ⟨g', stays g' hg' (by rw [hs']; exact (nomatch ·)), rfl, hs'⟩)
    (fun g' hg' hs' _ => ⟨g', stays g' hg' (by rw [hs']; exact (nomatch ·)), rfl, hs'⟩) ((List.length_filter_le _ _).trans hc.room)
    ((List.filter_sublist.map _).nodup hc.groupIds) (fun g' hg' => hc.pairs g' (List.mem_filter.1 hg').1)
    fun g' hg' hs' => ?_
  · split <;> rfl
  · split at e
    · cases e
    · rename_i hne
      rw [if_neg hne]
      exact ⟨hc.delivery r hr ⟨g', e⟩, hc.not_named hr e⟩
  · obtain ⟨hmem, hne⟩ := List.mem_filter.1 hg'
    obtain ⟨hnd, hm⟩ := hc.members g' hmem hs'
    refine ⟨hnd, fun m hm' => ?_⟩
    obtain ⟨r, hr, e, hgr⟩ := hm m hm'
    refine ⟨r, hr, e, ?_⟩
    rw [if_neg]
    · exact hgr
    · rw [List.mem_map]
      rintro ⟨m', hin, e'⟩
      have := hc.eq_of_member hg hmem hlive hs' hin hm' (e'.trans e)
      rw [this] at hne
      simp at hne

theorem ListsOk.expireGroup {s : State} (h : ListsOk s) {g : GroupRecord} (hg : g ∈ s.grouper.groups)
    (hs : g.state = .opened) (handling : Option Nat) : ListsOk (s.expireGroup g handling) := by
  have hc := h.consistent
  have hlive : g.state ≠ .closed := by rw [hs]; exact (nomatch ·)
  obtain ⟨hnd, hmem⟩ := hc.members g hg hlive
  have hoff : ∀ id ∈ g.others handling, ∀ p,
      Offerable (((g.members.map (·.pick)).foldl (fun t id => t.setGrouping id .single) s).freeGroup g.id) p id := by
    intro id hid p
    have hpick := (GroupRecord.mem_others.1 hid).1
    obtain ⟨m, hm, rfl⟩ := List.mem_map.1 hpick
    obtain ⟨r, hr, e, hgr⟩ := hmem m hm
    rw [groupingOf_opened hs] at hgr
    rw [State.foldl_setGrouping]
    refine ⟨⟨_, List.mem_map_of_mem hr, ?_, fun g' => ?_⟩, ?_⟩
    · split <;> exact e
    · rw [if_pos (e ▸ hpick)]
      exact (nomatch ·)
    · exact e ▸ hc.not_named hr hgr p
  have hoffered := (h.expired hg hs).offerExpireds (l := g.others handling) (hnd.filter _) hoff
  rw [← State.offerExpireds_freeGroup] at hoffered
  refine ListsOk.releaseTests ?_ _
  exact hoffered.congr rfl (fun _ => ⟨rfl, rfl⟩) rfl

theorem Unnamed.expireGroup {s : State} {id : Nat} (h : Unnamed s id) (g : GroupRecord) :
    Unnamed (s.expireGroup g (some id)) id := by
  have h1 : Unnamed ((g.members.map (·.pick)).foldl (fun t id => t.setGrouping id .single) s) id := by
    rw [State.foldl_setGrouping]
    exact h
  have h2 := h1.offerExpireds (l := g.others (some id)) fun hid => (GroupRecord.mem_others.1 hid).2 rfl
  exact h2.congr (State.releaseTests_offers _ _)

/-! ### Closing (R141) -/

/-- The lists after a closing. -/
theorem State.mergeClosing_notices (s : State) (group : Nat) (p : Port) :
    (s.mergeClosing group).notices p
      = if s.attached p then closingList group (s.notices p) else s.notices p := by
  rw [State.mergeClosing_eq, (State.eachAttached_setNotices (fun _ => closingList group) s).2.2 p, State.attached]
  cases (s.offers.get p).mode <;> rfl

theorem ListsOk.closed {s : State} (h : ListsOk s) {g : GroupRecord} (hg : g ∈ s.grouper.groups) :
    ListsOk ((s.modGroup g.id fun x => { x with state := .closed }).mergeClosing g.id) := by
  have hc := h.consistent
  let u := s.modGroup g.id fun x => { x with state := .closed }
  have hrest := (State.eachAttached_setNotices (fun _ => closingList g.id) u).1
  rw [← State.mergeClosing_eq] at hrest
  have hid : ∀ x : GroupRecord, (if x.id = g.id then { x with state := .closed } else x).id = x.id := fun x => by
    split <;> rfl
  have hnotices : ∀ p, (u.mergeClosing g.id).notices p
      = if s.attached p then closingList g.id (s.notices p) else s.notices p := u.mergeClosing_notices g.id
  refine h.of_picks ((State.modGroup_reports s _ _).trans (State.mergeClosing_reports _ _)).toPicksOnly ?_
  change Consistent (u.mergeClosing g.id).table.records (u.mergeClosing g.id).notices (u.mergeClosing g.id).grouper.groups
  have htable : (u.mergeClosing g.id).table.records = s.table.records := by rw [hrest]; rfl
  have hgroups : (u.mergeClosing g.id).grouper.groups
      = s.grouper.groups.map fun x => if x.id = g.id then { x with state := .closed } else x := by rw [hrest]; rfl
  rw [htable, hgroups]
  refine ⟨hc.ids, fun p => ?_, fun p id hk => ?_, fun p id hm => ?_, fun p id hm => ?_, hc.delivery, by simpa using hc.room,
    by simpa [Function.comp_def, hid] using hc.groupIds, fun x hx => ?_, fun x hx hs => ?_⟩
  · rw [hnotices]
    split
    · exact (closingList_keys (hc.keys p)).1
    · exact hc.keys p
  · rw [hnotices] at hk
    split at hk
    · exact hc.picks p id ((closingList_keys (hc.keys p)).2 id hk)
    · exact hc.picks p id hk
  · rw [hnotices] at hm
    split at hm
    · obtain ⟨hne, hm⟩ := mem_closingList.1 hm
      obtain ⟨x, hx, e, hst⟩ := hc.declared p id hm
      exact ⟨_, List.mem_map_of_mem hx, by rw [hid, e], by rw [if_neg (e ▸ hne)]; exact hst⟩
    · rename_i hd
      rw [h.silent p (by simpa using hd)] at hm
      cases hm
  · have found : ∀ i, .groupClosed i ∈ s.notices p → ∃ x ∈ s.grouper.groups.map
        (fun x => if x.id = g.id then { x with state := .closed } else x), x.id = i ∧ x.state = .closed := fun i hi => by
      obtain ⟨x, hx, e, hst⟩ := hc.closed p i hi
      refine ⟨_, List.mem_map_of_mem hx, by rw [hid, e], ?_⟩
      split
      · rfl
      · exact hst
    rw [hnotices] at hm
    split at hm
    · rcases mem_closingList.2 hm with rfl | hm
      · exact ⟨_, List.mem_map_of_mem hg, by rw [hid], by rw [if_pos rfl]⟩
      · exact found id hm
    · exact found id hm
  · obtain ⟨y, hy, rfl⟩ := List.mem_map.1 hx
    split <;> exact hc.pairs y hy
  · obtain ⟨y, hy, rfl⟩ := List.mem_map.1 hx
    split at hs
    · exact absurd rfl hs
    · rename_i hne
      rw [if_neg hne]
      exact hc.members y hy hs

theorem ListsOk.closeGroup {s : State} (h : ListsOk s) {g : GroupRecord} (hg : g ∈ s.grouper.groups)
    (handling : Option Nat) : ListsOk (s.closeGroup g handling) :=
  ((h.closed hg).releaseTests _).groupFreeTest _

theorem Unnamed.closeGroup {s : State} (hs : ListsOk s) {id : Nat} (h : Unnamed s id) (g : GroupRecord)
    (handling : Option Nat) : Unnamed (s.closeGroup g handling) id := by
  have hmerge : Unnamed ((s.modGroup g.id fun x => { x with state := .closed }).mergeClosing g.id) id := fun p hk => by
    rw [State.mergeClosing_notices] at hk
    split at hk
    · exact h p ((closingList_keys (hs.consistent.keys p)).2 id hk)
    · exact h p hk
  exact hmerge.congr ((State.groupFreeTest_offers _ _).trans (State.releaseTests_offers _ _))

/-! ### The completeness tests (R138, R139) -/

theorem ListsOk.testGroup {s : State} (h : ListsOk s) (handling : Option Nat) (id : Nat) :
    ListsOk (s.testGroup handling id) := by
  unfold State.testGroup
  split
  · exact h
  · rename_i g hf
    obtain ⟨hg, -⟩ := State.mem_of_findGroup hf
    split <;> try split
    · rename_i hs _
      exact h.expireGroup hg hs handling
    · exact h
    · exact h.closeGroup hg handling
    · exact h
    · exact h

theorem Unnamed.testGroup {s : State} (hs : ListsOk s) {id : Nat} (h : Unnamed s id) (gid : Nat) :
    Unnamed (s.testGroup (some id) gid) id := by
  unfold State.testGroup
  split
  · exact h
  · split <;> try split
    · exact h.expireGroup _
    · exact h
    · exact h.closeGroup hs _ _
    · exact h
    · exact h

theorem ListsOk.testGroups {s : State} (h : ListsOk s) : ListsOk s.testGroups := by
  unfold State.testGroups
  generalize s.grouper.groups.map (·.id) = l
  induction l generalizing s with
  | nil => exact h
  | cons id rest ih => exact ih (h.testGroup none id)

/-! ### Declaration (R135, R136) -/

theorem State.insertByOnset_perm (s : State) (id : Nat) (l : List Nat) : (s.insertByOnset id l).Perm (id :: l) := by
  induction l with
  | nil => exact .refl _
  | cons x rest ih =>
    unfold State.insertByOnset
    split
    · exact .refl _
    · exact (ih.cons x).trans (.swap id x rest)

/-- R136: the order by onset holds the same picks. -/
theorem State.byOnset_perm (s : State) (l : List Nat) : (s.byOnset l).Perm l := by
  have go : ∀ (l acc : List Nat), (l.foldl (fun acc id => s.insertByOnset id acc) acc).Perm (l ++ acc) := by
    intro l
    induction l with
    | nil => exact fun acc => .refl acc
    | cons id rest ih =>
      intro acc
      refine (ih _).trans (((s.insertByOnset_perm id acc).append_left rest).trans ?_)
      exact List.perm_middle
  simpa [State.byOnset] using go l []

/-- The members of an OPEN group are PENDING. -/
theorem ListsOk.members_pending {s : State} (h : ListsOk s) {g : GroupRecord} (hg : g ∈ s.grouper.groups)
    (hs : g.state = .opened) : (g.members.map (·.pick)).filter s.isPending = g.members.map (·.pick) := by
  rw [List.filter_eq_self]
  intro id hid
  obtain ⟨m, hm, rfl⟩ := List.mem_map.1 hid
  obtain ⟨r, hr, e, hgr⟩ := (h.consistent.members g hg (by rw [hs]; exact (nomatch ·))).2 m hm
  rw [State.isPending, ← e, State.findPick_of_mem h.consistent.ids hr]
  simp [hgr, groupingOf_opened hs, Grouping.isPending]

/-- R135: an OPEN group that is declared, its members GROUPED in it. -/
theorem ListsOk.declared {s : State} (h : ListsOk s) {g : GroupRecord} (hg : g ∈ s.grouper.groups)
    (hs : g.state = .opened) : ListsOk ((g.members.map (·.pick)).foldl (fun t id => t.setGrouping id (.grouped g.id))
      (s.modGroup g.id fun x => { x with state := .declared, declareTime := some s.time.localTime })) := by
  have hc := h.consistent
  have hlive : g.state ≠ .closed := by rw [hs]; exact (nomatch ·)
  let F : GroupRecord → GroupRecord := fun x =>
    if x.id = g.id then { x with state := .declared, declareTime := some s.time.localTime } else x
  have hF : ∀ x, (F x).id = x.id ∧ (F x).members = x.members := fun x => by
    dsimp only [F]
    split <;> exact ⟨rfl, rfl⟩
  have hother : ∀ x ∈ s.grouper.groups, x.id ≠ g.id → F x = x := fun x _ hne => if_neg hne
  have stays : ∀ x ∈ s.grouper.groups, x.state ≠ .opened → F x = x := fun x hx hst => by
    refine hother x hx fun e => hst ?_
    rw [hc.eq_of_groupId hx hg e]
    exact hs
  refine h.of_picks (((State.modGroup_reports s _ _).trans
    (.foldl (fun t id => t.setGrouping_reports id (.grouped g.id)) _ _)).toPicksOnly) ?_
  rw [State.foldl_setGrouping]
  refine hc.regroup _ (fun r => ?_) (fun r hr g' e => ?_)
    (fun x hx hst _ => ⟨F x, List.mem_map_of_mem hx, (hF x).1, ?_⟩)
    (fun x hx hst _ => ⟨F x, List.mem_map_of_mem hx, (hF x).1, ?_⟩) (by simpa using hc.room) ?_ (fun x hx => ?_)
    fun x hx hst => ?_
  · split <;> rfl
  · split at e
    · cases e
    · rename_i hne
      rw [if_neg hne]
      exact ⟨hc.delivery r hr ⟨g', e⟩, hc.not_named hr e⟩
  · rw [stays x hx (by rw [hst]; exact (nomatch ·)), hst]
  · rw [stays x hx (by rw [hst]; exact (nomatch ·)), hst]
  · have : (s.grouper.groups.map F).map (·.id) = s.grouper.groups.map (·.id) := by
      rw [List.map_map]
      exact List.map_congr_left fun x _ => (hF x).1
    exact this ▸ hc.groupIds
  · obtain ⟨y, hy, rfl⟩ := List.mem_map.1 hx
    change ((F y).members.map _).Nodup
    rw [(hF y).2]
    exact hc.pairs y hy
  · obtain ⟨y, hy, rfl⟩ := List.mem_map.1 hx
    change (F y).state ≠ .closed at hst
    change ((F y).members.map _).Nodup ∧ ∀ m ∈ (F y).members, ∃ r ∈ s.table.records, r.id = m.pick
      ∧ (if r.id ∈ g.members.map (·.pick) then { r with grouping := .grouped g.id } else r).grouping = (F y).groupingOf
    rw [(hF y).2]
    by_cases e : y.id = g.id
    · have hyg := hc.eq_of_groupId hy hg e
      subst hyg
      obtain ⟨hnd, hm⟩ := hc.members y hy hlive
      refine ⟨hnd, fun m hm' => ?_⟩
      obtain ⟨r, hr, er, -⟩ := hm m hm'
      refine ⟨r, hr, er, ?_⟩
      rw [if_pos (er ▸ List.mem_map_of_mem hm')]
      simp [F, GroupRecord.groupingOf]
    · rw [hother y hy e] at hst ⊢
      obtain ⟨hnd, hm⟩ := hc.members y hy hst
      refine ⟨hnd, fun m hm' => ?_⟩
      obtain ⟨r, hr, er, hgr⟩ := hm m hm'
      refine ⟨r, hr, er, ?_⟩
      rw [if_neg]
      · exact hgr
      · rw [List.mem_map]
        rintro ⟨m', hin, e'⟩
        exact e (congrArg GroupRecord.id (hc.eq_of_member hg hy hlive hst hin hm' (e'.trans er))).symm

theorem ListsOk.declareGroup {s : State} (h : ListsOk s) {g : GroupRecord} (hg : g ∈ s.grouper.groups)
    (hs : g.state = .opened) (handling : Nat) : ListsOk (s.declareGroup g handling) := by
  have hc := h.consistent
  have hlive : g.state ≠ .closed := by rw [hs]; exact (nomatch ·)
  obtain ⟨hnd, hmem⟩ := hc.members g hg hlive
  have hdecl := h.declared hg hs
  have hperm := s.byOnset_perm (g.members.map (·.pick))
  unfold State.declareGroup
  dsimp only
  rw [h.members_pending hg hs]
  refine ((hdecl.offerDeclaration (hperm.nodup_iff.2 hnd) (fun id hid p => ?_) ?_ fun p => ?_).releaseTests _).testGroup _ _
  · have hpick := hperm.mem_iff.1 hid
    obtain ⟨m, hm, rfl⟩ := List.mem_map.1 hpick
    obtain ⟨r, hr, e, hgr⟩ := hmem m hm
    rw [groupingOf_opened hs] at hgr
    rw [State.foldl_setGrouping]
    refine ⟨⟨_, List.mem_map_of_mem hr, ?_, fun g' => ?_⟩, ?_⟩
    · split <;> exact e
    · rw [if_pos (e ▸ hpick)]
      exact (nomatch ·)
    · exact e ▸ hc.not_named hr hgr p
  · rw [State.foldl_setGrouping]
    exact ⟨_, List.mem_map_of_mem hg, by rw [if_pos rfl], by rw [if_pos rfl]⟩
  · rw [State.foldl_setGrouping]
    exact hc.group_not_named hg hs p

theorem ListsOk.declareIfReached {s : State} (h : ListsOk s) (groupId handling : Nat) :
    ListsOk (s.declareIfReached groupId handling).1 := by
  unfold State.declareIfReached
  split
  · exact h
  · rename_i g hf
    split
    · rename_i hreach
      exact h.declareGroup (State.mem_of_findGroup hf).1 hreach.1 handling
    · exact h

theorem State.declareIfReached_false {s : State} {groupId handling : Nat} (h : (s.declareIfReached groupId handling).2 = false) :
    (s.declareIfReached groupId handling).1 = s := by
  unfold State.declareIfReached at h ⊢
  split at h
  · rfl
  · split at h
    · cases h
    · rename_i hn
      rw [if_neg hn]

/-! ### Joining and opening (R130 to R134) -/

/-- A record that has just been made: SINGLE, offered nowhere and named nowhere. -/
structure Fresh (s : State) (r : PickRecord) : Prop where
  mem : r ∈ s.table.records
  single : r.grouping = .single
  delivery : ∀ p, r.delivery.get p = .none
  unnamed : Unnamed s r.id

theorem Fresh.not_member {s : State} {r : PickRecord} (hr : Fresh s r) (h : ListsOk s) {g : GroupRecord}
    (hg : g ∈ s.grouper.groups) (hs : g.state ≠ .closed) {m : Member} (hm : m ∈ g.members) : m.pick ≠ r.id := fun e => by
  have hgr := h.consistent.grouping_of_member hg hs hm hr.mem e.symm
  rw [hr.single] at hgr
  unfold GroupRecord.groupingOf at hgr
  split at hgr <;> cases hgr

/-- A record that no live group lists takes a grouping that is not PENDING. -/
theorem ListsOk.setGrouping {s : State} (h : ListsOk s) {id : Nat} {G : Grouping} (hG : ∀ g, G ≠ .pending g)
    (hl : ∀ g ∈ s.grouper.groups, g.state ≠ .closed → ∀ m ∈ g.members, m.pick ≠ id) : ListsOk (s.setGrouping id G) := by
  have hc := h.consistent
  refine h.of_picks (s.setGrouping_reports id G).toPicksOnly (hc.regroup _ (fun r => ?_) (fun r hr g e => ?_)
    (fun g hg hs _ => ⟨g, hg, rfl, hs⟩) (fun g hg hs _ => ⟨g, hg, rfl, hs⟩) hc.room hc.groupIds hc.pairs fun g hg hs => ?_)
  · split <;> rfl
  · split at e
    · exact absurd e (hG g)
    · rename_i hne
      rw [if_neg hne]
      exact ⟨hc.delivery r hr ⟨g, e⟩, hc.not_named hr e⟩
  · obtain ⟨hnd, hm⟩ := hc.members g hg hs
    refine ⟨hnd, fun m hm' => ?_⟩
    obtain ⟨r, hr, e, hgr⟩ := hm m hm'
    exact ⟨r, hr, e, by rw [if_neg (e ▸ hl g hg hs m hm')]; exact hgr⟩

/-- The two conditions of R131 and R133 on which a join turns. -/
theorem GroupRecord.not_pair_of_has {g : GroupRecord} {sen : Sensor} {ph : MemberPhase} (h : g.has sen ph = false) :
    (sen, ph) ∉ g.members.map fun m => (m.sensor, m.phase) := fun hm => by
  obtain ⟨m, hin, e⟩ := List.mem_map.1 hm
  cases e
  rw [← Bool.not_eq_true, GroupRecord.has, List.any_eq_true] at h
  exact h ⟨m, hin, by simp⟩

theorem GroupRecord.join_fields (g : GroupRecord) (m : Member) :
    (g.join m).id = g.id ∧ (g.join m).state = g.state ∧ (g.join m).members = g.members ++ [m] := ⟨rfl, rfl, rfl⟩

/-- R131, R133: a fresh record joins a live group that lists no member of its sensor and phase. -/
theorem ListsOk.joinGroup {s : State} (h : ListsOk s) {r : PickRecord} (hr : Fresh s r) {g : GroupRecord}
    (hg : g ∈ s.grouper.groups) (hs : g.state ≠ .closed) {ph : MemberPhase} (hhas : g.has r.sensor ph = false) :
    ListsOk (s.joinGroup r g ph) := by
  have hc := h.consistent
  let F : GroupRecord → GroupRecord := fun x =>
    if x.id = g.id then x.join { pick := r.id, sensor := r.sensor, phase := ph } else x
  have hF : ∀ x, (F x).id = x.id ∧ (F x).state = x.state := fun x => by
    dsimp only [F]
    split <;> exact ⟨rfl, rfl⟩
  have hnew : ∀ r' ∈ s.table.records, ∀ x ∈ s.grouper.groups, x.state ≠ .closed → ∀ m ∈ x.members, r'.id = m.pick →
      (if r'.id = r.id then { r' with grouping := g.groupingOf } else r').grouping = r'.grouping :=
    fun r' _ x hx hst m hm e => by rw [if_neg (e ▸ hr.not_member h hx hst hm)]
  refine h.of_picks (s.joinGroup_reports r g ph).toPicksOnly (hc.regroup _ (fun r' => ?_) (fun r' hr' g' e => ?_)
    (fun x hx hst _ => ⟨F x, List.mem_map_of_mem hx, (hF x).1, (hF x).2.trans hst⟩)
    (fun x hx hst _ => ⟨F x, List.mem_map_of_mem hx, (hF x).1, (hF x).2.trans hst⟩)
    ((List.length_map (f := F)).le.trans hc.room) ?_
    (fun x hx => ?_) fun x hx hst => ?_)
  · split <;> rfl
  · split at e
    · rename_i hid
      rw [if_pos hid, hc.eq_of_id hr' hr.mem hid]
      exact ⟨hr.delivery, hr.unnamed⟩
    · rename_i hne
      rw [if_neg hne]
      exact ⟨hc.delivery r' hr' ⟨g', e⟩, hc.not_named hr' e⟩
  · have : (s.grouper.groups.map F).map (·.id) = s.grouper.groups.map (·.id) := by
      rw [List.map_map]
      exact List.map_congr_left fun x _ => (hF x).1
    exact this ▸ hc.groupIds
  · obtain ⟨y, hy, rfl⟩ := List.mem_map.1 hx
    change ((F y).members.map _).Nodup
    by_cases e : y.id = g.id
    · have hyg := hc.eq_of_groupId hy hg e
      subst hyg
      rw [show F y = y.join _ from if_pos rfl, (y.join_fields _).2.2, List.map_append, List.nodup_append]
      refine ⟨hc.pairs y hy, by simp, fun a ha b hb eab => GroupRecord.not_pair_of_has hhas ?_⟩
      simp only [List.map_cons, List.map_nil, List.mem_singleton] at hb
      exact hb ▸ eab ▸ ha
    · rw [show F y = y from if_neg e]
      exact hc.pairs y hy
  · obtain ⟨y, hy, rfl⟩ := List.mem_map.1 hx
    change (F y).state ≠ .closed at hst
    rw [(hF y).2] at hst
    obtain ⟨hnd, hm⟩ := hc.members y hy hst
    have hgr : (F y).groupingOf = y.groupingOf := by
      unfold GroupRecord.groupingOf
      rw [(hF y).1, (hF y).2]
    have hold : ∀ m ∈ y.members, ∃ r' ∈ s.table.records, r'.id = m.pick
        ∧ (if r'.id = r.id then { r' with grouping := g.groupingOf } else r').grouping = (F y).groupingOf :=
      fun m hm' => by
        obtain ⟨r', hr', e', hg'⟩ := hm m hm'
        exact ⟨r', hr', e', (hnew r' hr' y hy hst m hm' e').trans (hg'.trans hgr.symm)⟩
    change ((F y).members.map _).Nodup ∧ ∀ m ∈ (F y).members, _
    by_cases e : y.id = g.id
    · have hyg := hc.eq_of_groupId hy hg e
      subst hyg
      rw [show (F y).members = y.members ++ [{ pick := r.id, sensor := r.sensor, phase := ph }] from
        (congrArg GroupRecord.members (if_pos rfl : F y = y.join _)).trans rfl, List.map_append, List.nodup_append]
      refine ⟨⟨hnd, by simp, fun a ha b hb eab => ?_⟩, fun m hm' => ?_⟩
      · obtain ⟨m, hm', rfl⟩ := List.mem_map.1 ha
        simp only [List.map_cons, List.map_nil, List.mem_singleton] at hb
        exact hr.not_member h hy hst hm' (eab.trans hb)
      · rcases List.mem_append.1 hm' with hm' | hm'
        · exact hold m hm'
        · rw [List.mem_singleton.1 hm']
          exact ⟨r, hr.mem, rfl, by rw [if_pos rfl, hgr]⟩
    · rw [show (F y).members = y.members from congrArg GroupRecord.members (if_neg e : F y = y)]
      exact ⟨hnd, hold⟩

/-- R128, R132: a fresh record opens a group under an id that no group holds. -/
theorem ListsOk.openGroup {s : State} (h : ListsOk s) {r : PickRecord} (hr : Fresh s r) (t : Nat) :
    ListsOk (s.openGroup r t) := by
  have hc := h.consistent
  have hrep := (s.openGroup_reports r t).toPicksOnly
  unfold State.openGroup at hrep ⊢
  split at hrep
  · rename_i hroom
    rw [if_pos hroom]
    have hid : (s.newGroup r t).id ∉ s.grouper.groups.map (·.id) :=
      firstFree_not_mem (by rw [List.length_map]; exact Nat.lt_succ_of_lt hroom) (by decide) s.grouper.nextId
    refine h.of_picks hrep (hc.regroup _ (fun r' => ?_) (fun r' hr' g' e => ?_)
      (fun x hx hst _ => ⟨x, List.mem_append_left _ hx, rfl, hst⟩)
      (fun x hx hst _ => ⟨x, List.mem_append_left _ hx, rfl, hst⟩) 
      (by change (s.grouper.groups ++ [_]).length ≤ _; rw [List.length_append]; exact hroom) ?_ (fun x hx => ?_)
      fun x hx hst => ?_)
    · split <;> rfl
    · split at e
      · rename_i hid
        rw [if_pos hid, hc.eq_of_id hr' hr.mem hid]
        exact ⟨hr.delivery, hr.unnamed⟩
      · rename_i hne
        rw [if_neg hne]
        exact ⟨hc.delivery r' hr' ⟨g', e⟩, hc.not_named hr' e⟩
    · change ((s.grouper.groups ++ [s.newGroup r t]).map (·.id)).Nodup
      rw [List.map_append, List.nodup_append]
      refine ⟨hc.groupIds, by simp, fun a ha b hb e => hid ?_⟩
      simp only [List.map_cons, List.map_nil, List.mem_singleton] at hb
      exact hb ▸ e ▸ ha
    · rcases List.mem_append.1 hx with hx | hx
      · exact hc.pairs x hx
      · rw [List.mem_singleton.1 hx]
        simp [State.newGroup]
    · rcases List.mem_append.1 hx with hx | hx
      · obtain ⟨hnd, hm⟩ := hc.members x hx hst
        refine ⟨hnd, fun m hm' => ?_⟩
        obtain ⟨r', hr', e', hg'⟩ := hm m hm'
        exact ⟨r', hr', e', by rw [if_neg (e' ▸ hr.not_member h hx hst hm')]; exact hg'⟩
      · rw [List.mem_singleton.1 hx]
        refine ⟨by simp [State.newGroup], fun m hm' => ?_⟩
        rw [List.mem_singleton.1 hm']
        exact ⟨r, hr.mem, rfl, by rw [if_pos rfl]; rfl⟩
  · rename_i hfull
    rw [if_neg hfull]
    refine h.of_picks hrep (hc.regroup _ (fun r' => ?_) (fun r' hr' g' e => ?_)
      (fun x hx hst _ => ⟨x, hx, rfl, hst⟩) (fun x hx hst _ => ⟨x, hx, rfl, hst⟩) hc.room hc.groupIds hc.pairs
      fun x hx hst => ?_)
    · split <;> rfl
    · split at e
      · cases e
      · rename_i hne
        rw [if_neg hne]
        exact ⟨hc.delivery r' hr' ⟨g', e⟩, hc.not_named hr' e⟩
    · obtain ⟨hnd, hm⟩ := hc.members x hx hst
      refine ⟨hnd, fun m hm' => ?_⟩
      obtain ⟨r', hr', e', hg'⟩ := hm m hm'
      exact ⟨r', hr', e', by rw [if_neg (e' ▸ hr.not_member h hx hst hm')]; exact hg'⟩

/-! ### Handing on a new record (R112, R130) -/

/-- After a join or an opening the lists agree, and the pick is named only where a declaration reported it. -/
theorem ListsOk.afterJoin {s : State} (h : ListsOk s) {id : Nat} (hn : Unnamed s id) (gid : Nat) :
    ListsOk (s.afterJoin id gid).1 ∧ ((s.afterJoin id gid).2 = false → Unnamed (s.afterJoin id gid).1 id) := by
  have hd := h.declareIfReached gid id
  refine ⟨hd.testGroup _ _, fun hf => Unnamed.testGroup hd ?_ gid⟩
  rwa [State.declareIfReached_false hf]

theorem latestGroup_mem {best : Option GroupRecord} {l : List GroupRecord} {g : GroupRecord}
    (h : latestGroup best l = some g) : best = some g ∨ g ∈ l := by
  induction l generalizing best with
  | nil => cases best <;> exact .inl h
  | cons x rest ih =>
    cases best with
    | none =>
      rcases ih h with e | e
      · cases e
        exact .inr List.mem_cons_self
      · exact .inr (List.mem_cons_of_mem _ e)
    | some b =>
      rcases ih h with e | e
      · split at e <;> cases e
        · exact .inr List.mem_cons_self
        · exact .inl rfl
      · exact .inr (List.mem_cons_of_mem _ e)

theorem GroupRecord.live_of_admitsP {g : GroupRecord} {sen : Sensor} {t : Nat} (h : g.admitsP sen t = true) :
    g.state ≠ .closed ∧ g.has sen .p = false := by
  simp only [GroupRecord.admitsP, Bool.and_eq_true, decide_eq_true_eq, Bool.not_eq_true'] at h
  exact ⟨h.1.1.1, h.1.1.2⟩

theorem GroupRecord.live_of_admitsS {g : GroupRecord} {sen : Sensor} {t : Nat} (h : g.admitsS sen t = true) :
    g.state ≠ .closed ∧ g.has sen .s = false := by
  simp only [GroupRecord.admitsS, Bool.and_eq_true, decide_eq_true_eq, Bool.not_eq_true'] at h
  exact ⟨h.1.1.1, h.1.1.2⟩

theorem Unnamed.openGroup {s : State} {id : Nat} (h : Unnamed s id) (r : PickRecord) (t : Nat) :
    Unnamed (s.openGroup r t) id := by
  unfold State.openGroup
  split <;> exact h

theorem ListsOk.groupPick {s : State} (h : ListsOk s) {r : PickRecord} (hr : Fresh s r) :
    ListsOk (s.groupPick r.id).1 ∧ ((s.groupPick r.id).2 = false → Unnamed (s.groupPick r.id).1 r.id) := by
  have hsingle : ListsOk (s.setGrouping r.id .single) ∧ Unnamed (s.setGrouping r.id .single) r.id :=
    ⟨h.setGrouping (fun _ e => nomatch e) fun g hg hs m hm => hr.not_member h hg hs hm, hr.unnamed⟩
  unfold State.groupPick
  rw [State.findPick_of_mem h.consistent.ids hr.mem]
  dsimp only
  split
  · exact ⟨hsingle.1, fun _ => hsingle.2⟩
  · split
    · exact ⟨hsingle.1, fun _ => hsingle.2⟩
    · split
      · exact ⟨hsingle.1, fun _ => hsingle.2⟩
      · unfold State.placeP
        split
        · rename_i g hf
          have hadm := List.find?_some hf
          obtain ⟨hlive, hhas⟩ := GroupRecord.live_of_admitsP (g := g) hadm
          exact (h.joinGroup hr (List.mem_of_find?_eq_some hf) hlive hhas).afterJoin (id := r.id) hr.unnamed _
        · split
          · exact (h.openGroup hr _).afterJoin (hr.unnamed.openGroup _ _) _
          · exact ⟨h.openGroup hr _, fun _ => hr.unnamed.openGroup _ _⟩
      · unfold State.placeS
        split
        · rename_i g hf
          have hmem := (latestGroup_mem hf).resolve_left (fun e => nomatch e)
          obtain ⟨hg, hadm⟩ := List.mem_filter.1 hmem
          obtain ⟨hlive, hhas⟩ := GroupRecord.live_of_admitsS hadm
          have hj := h.joinGroup hr hg hlive hhas
          exact ⟨hj.testGroup _ _, fun _ => Unnamed.testGroup hj hr.unnamed _⟩
        · exact ⟨hsingle.1, fun _ => hsingle.2⟩

theorem ListsOk.handOnRecord {s : State} (h : ListsOk s) {r : PickRecord} (hr : Fresh s r) :
    ListsOk (s.handOnRecord r.id) := by
  obtain ⟨hok, hn⟩ := h.groupPick hr
  unfold State.handOnRecord
  dsimp only
  split
  · exact hok.releaseTest _
  · rename_i hf
    exact (hok.offerNew (hn (by simpa using hf))).releaseTest _

/-! ### Retraction (R117, R143) -/

theorem GroupRecord.leave_fields (g : GroupRecord) (pick : Nat) :
    (g.leave pick).id = g.id ∧ (g.leave pick).state = g.state
      ∧ (g.leave pick).members = g.members.filter fun m => m.pick != pick := by
  unfold GroupRecord.leave
  split
  · rename_i hf
    refine ⟨rfl, rfl, (List.filter_eq_self.2 fun m hm => ?_).symm⟩
    simpa using List.find?_eq_none.1 hf m hm
  · exact ⟨rfl, rfl, rfl⟩

/-- R143: a pick leaves a live group; where it stands in no other it then stands in none. -/
theorem ListsOk.leaveGroup {s : State} (h : ListsOk s) {r : PickRecord} (hr : r ∈ s.table.records) {gid : Nat}
    (hgr : ∀ g ∈ s.grouper.groups, r.grouping = g.groupingOf → g.id = gid) :
    ListsOk (s.leaveGroup r.id gid) ∧ ∀ g ∈ (s.leaveGroup r.id gid).grouper.groups, g.state ≠ .closed →
      ∀ m ∈ g.members, m.pick ≠ r.id := by
  have hc := h.consistent
  have hin : ∀ g ∈ s.grouper.groups, g.state ≠ .closed → ∀ m ∈ g.members, m.pick = r.id → g.id = gid :=
    fun g hg hs m hm e => hgr g hg (hc.grouping_of_member hg hs hm hr e.symm)
  have hrep := (s.leaveGroup_reports r.id gid).toPicksOnly
  unfold State.leaveGroup at hrep ⊢
  cases hf : s.findGroup gid with
  | none =>
    refine ⟨h, fun g hg hs m hm e => ?_⟩
    have hne := List.find?_eq_none.1 hf g hg
    simp [hin g hg hs m hm e] at hne
  | some g =>
    obtain ⟨hg, hgid⟩ := State.mem_of_findGroup hf
    simp only [hf] at hrep ⊢
    split at hrep
    · rename_i hcl
      rw [if_pos hcl]
      refine ⟨h, fun x hx hs m hm e => hs ?_⟩
      rw [hc.eq_of_groupId hx hg ((hin x hx hs m hm e).trans hgid.symm)]
      exact hcl
    · rename_i hlive
      rw [if_neg hlive]
      obtain ⟨hlid, hlst, hlm⟩ := g.leave_fields r.id
      split at hrep
      · rename_i hempty
        rw [if_pos hempty]
        refine ⟨h.of_picks hrep (hc.freeGroup fun p => hgid ▸ hc.group_not_named hg hempty.1 p),
          fun x hx hs m hm e => ?_⟩
        obtain ⟨hx', hne⟩ := List.mem_filter.1 hx
        simp [hin x hx' hs m hm e] at hne
      · rename_i hempty
        rw [if_neg hempty]
        have hmem : ∀ x ∈ s.grouper.groups.map (fun x => if x.id = gid then g.leave r.id else x),
            ∃ y ∈ s.grouper.groups, x.id = y.id ∧ x.state = y.state ∧ x.members.Sublist y.members
              ∧ (y.id = gid → x = g.leave r.id) := fun x hx => by
          obtain ⟨y, hy, rfl⟩ := List.mem_map.1 hx
          refine ⟨y, hy, ?_⟩
          split
          · rename_i e
            rw [hc.eq_of_groupId hy hg (e.trans hgid.symm), hlid, hlst, hlm]
            exact ⟨rfl, rfl, List.filter_sublist, fun _ => rfl⟩
          · rename_i e
            exact ⟨rfl, rfl, .refl _, fun e' => absurd e' e⟩
        have hstate : ∀ x ∈ s.grouper.groups, ∃ y ∈ s.grouper.groups.map (fun x => if x.id = gid then g.leave r.id else x),
            y.id = x.id ∧ y.state = x.state := fun x hx => by
          refine ⟨_, List.mem_map_of_mem hx, ?_⟩
          split
          · rename_i e
            rw [hc.eq_of_groupId hx hg (e.trans hgid.symm)]
            exact ⟨hlid, hlst⟩
          · exact ⟨rfl, rfl⟩
        refine ⟨h.of_picks hrep ⟨hc.ids, hc.keys, hc.picks, fun p id hn => ?_, fun p id hn => ?_, hc.delivery,
          by simpa using hc.room, ?_, fun x hx => ?_, fun x hx hs => ?_⟩, fun x hx hs m hm e => ?_⟩
        · obtain ⟨x, hx, e, hst⟩ := hc.declared p id hn
          obtain ⟨y, hy, e', hst'⟩ := hstate x hx
          exact ⟨y, hy, e'.trans e, hst'.trans hst⟩
        · obtain ⟨x, hx, e, hst⟩ := hc.closed p id hn
          obtain ⟨y, hy, e', hst'⟩ := hstate x hx
          exact ⟨y, hy, e'.trans e, hst'.trans hst⟩
        · have : (s.grouper.groups.map fun x => if x.id = gid then g.leave r.id else x).map (·.id)
              = s.grouper.groups.map (·.id) := by
            rw [List.map_map]
            refine List.map_congr_left fun x _ => ?_
            simp only [Function.comp_apply]
            split
            · rename_i e
              rw [hlid, hgid, e]
            · rfl
          exact this ▸ hc.groupIds
        · obtain ⟨y, hy, -, -, hsub, -⟩ := hmem x hx
          exact (hsub.map _).nodup (hc.pairs y hy)
        · obtain ⟨y, hy, hid, hst, hsub, -⟩ := hmem x hx
          obtain ⟨hnd, hm⟩ := hc.members y hy (hst ▸ hs)
          refine ⟨(hsub.map _).nodup hnd, fun m hm' => ?_⟩
          have hgo : x.groupingOf = y.groupingOf := by
            unfold GroupRecord.groupingOf
            rw [hid, hst]
          rw [hgo]
          exact hm m (hsub.subset hm')
        · obtain ⟨y, hy, hid, hst, hsub, hleft⟩ := hmem x hx
          have hy' := hin y hy (hst ▸ hs) m (hsub.subset hm) e
          rw [hleft hy', hlm] at hm
          simp [e] at hm

theorem ListsOk.groupRetract {s : State} (h : ListsOk s) {r : PickRecord} (hr : ∃ r' ∈ s.table.records,
    r'.id = r.id ∧ r'.grouping = r.grouping) : ListsOk (s.groupRetract r) := by
  obtain ⟨r', hr', hid, hgr⟩ := hr
  have leave : ∀ gid, (∀ g ∈ s.grouper.groups, r.grouping = g.groupingOf → g.id = gid) →
      ListsOk ((s.leaveGroup r.id gid).setGrouping r.id .single) := fun gid hg => by
    have := h.leaveGroup hr' (gid := gid) fun g hgm e => hg g hgm (hgr ▸ e)
    rw [hid] at this
    exact this.1.setGrouping (fun _ e => nomatch e) this.2
  unfold State.groupRetract
  split
  · exact h
  · rename_i gid e
    refine leave gid fun g _ eg => ?_
    rw [e] at eg
    unfold GroupRecord.groupingOf at eg
    split at eg <;> cases eg
    rfl
  · rename_i gid e
    refine leave gid fun g _ eg => ?_
    rw [e] at eg
    unfold GroupRecord.groupingOf at eg
    split at eg <;> cases eg
    rfl

theorem ListsOk.handOnRetraction {s : State} (h : ListsOk s) {r : PickRecord} (hr : ∃ r' ∈ s.table.records,
    r'.id = r.id ∧ r'.grouping = r.grouping) (p : Port) : ListsOk (s.handOnRetraction p r) :=
  ((h.groupRetract hr).mergeRetraction _ _).releaseTest _

end Sys2Proof.Machine


/-! PROOFS. Every step keeps the relation of notices, records and groups; with the capacities and the counts this is
O57. -/

namespace Sys2Proof.Machine

/-- A change of neither records, lists nor groups. -/
theorem ListsOk.same {s t : State} (h : ListsOk s) (ht : t.table = s.table) (ho : t.offers = s.offers)
    (hg : t.grouper = s.grouper) : ListsOk t :=
  h.congr (by rw [ht]) (fun p => by rw [ho]; exact ⟨rfl, rfl⟩) (by rw [hg])

/-! ### The Onset Refiner -/

theorem ListsOk.finalize {s : State} (h : ListsOk s) (sen : Sensor) (ch : Channel) (trigger : Nat) (info : EndInfo) :
    ListsOk (s.finalize sen ch trigger info) := by
  unfold State.finalize
  split
  · exact h
  · rename_i r _
    split
    · refine ListsOk.releaseTest (ListsOk.mergeFinal ?_ _) _
      refine h.of_picks (State.modPick_picks fun _ => rfl) (h.consistent.map_records _ (fun x => ?_) (fun x _ => ?_)
        fun x hx g hg p => ?_)
      · split <;> rfl
      · split <;> rfl
      · have hnone := h.consistent.delivery x hx ⟨g, hg⟩ p
        split <;> exact hnone
    · exact h

theorem ListsOk.discardBy {s : State} (h : ListsOk s) (sen : Sensor) (leave : List RefineRequest → List RefineRequest) :
    ListsOk (s.discardBy sen leave) :=
  (h.same (t := (s.modQueue sen leave).loseRequest sen) rfl rfl rfl).testGroups

theorem ListsOk.grantDecision {s : State} (h : ListsOk s) (fuel : Nat) : ListsOk (s.grantDecision fuel) := by
  induction fuel generalizing s with
  | zero => exact h
  | succ fuel ih =>
    unfold State.grantDecision
    split
    · exact h.same rfl rfl rfl
    · split
      · unfold State.stall
        split
        · exact h
        · exact h.same rfl rfl rfl
      · split
        · exact h
        · dsimp only
          split
          · refine ih (ListsOk.discardBy ?_ _ _)
            exact h.same rfl rfl rfl
          · exact h.same rfl rfl rfl

theorem ListsOk.settle {s : State} (h : ListsOk s) (before : State) : ListsOk (State.settle before s) := by
  unfold State.settle
  split
  · exact h
  · split
    · exact h.grantDecision _
    · split
      · exact h.same rfl rfl rfl
      · exact h

theorem ListsOk.retest {s : State} (h : ListsOk s) : ListsOk s.retest := h.testGroups.settle s

theorem ListsOk.discardOverwritten {s : State} (h : ListsOk s) (sen : Sensor) : ListsOk (s.discardOverwritten sen) := by
  unfold State.discardOverwritten
  generalize (s.refiner.queues.get sen).filter (s.overwritten sen) = l
  induction l generalizing s with
  | nil => exact h
  | cons q rest ih => exact ih (h.discardBy sen _)

theorem State.clearGapMark_refiner (s : State) (sen : Sensor) :
    s.clearGapMark sen = { s with refiner := (s.clearGapMark sen).refiner } := by
  unfold State.clearGapMark
  split
  · split <;> rfl
  · rfl

theorem ListsOk.refinerReport {s : State} (h : ListsOk s) (sen : Sensor) (raised : Bool) :
    ListsOk (s.refinerReport sen raised) := by
  have hclear : ListsOk (s.clearGapMark sen) := by
    rw [s.clearGapMark_refiner sen]
    exact h.same rfl rfl rfl
  have hready : ListsOk ((s.clearGapMark sen).modQueue sen fun l => l.map ((s.clearGapMark sen).readyIf sen)) :=
    hclear.same rfl rfl rfl
  unfold State.refinerReport
  dsimp only
  split
  · exact (hready.discardOverwritten sen).settle s
  · exact hready.settle s

theorem ListsOk.refinerBlock {s : State} (h : ListsOk s) : ListsOk s.refinerBlock := by
  unfold State.refinerBlock
  split
  · exact h
  · split
    · exact h
    · split
      · exact h.same rfl rfl rfl
      · have hidle : ListsOk { s with refiner := { s.refiner with work := none } } := h.same rfl rfl rfl
        exact (hidle.discardBy _ _).grantDecision _

/-- R102, R111: the new record is handed on under an id that no notice names. -/
theorem ListsOk.writePick {s : State} (h : ListsOk s) (ht : TableInv s) (w : Work) (q : RefineRequest) :
    ListsOk (s.writePick w q) := by
  let m := pickMath w.group q.channel (windowOf w q.trigger)
  let t := s.timeOf w.sensor m.onset
  let r := (t.1.newRecord w q (windowOf w q.trigger) m t.2).withInfo q.info
  have hread := State.timeOf_mapReads s w.sensor m.onset
  have h1 : ListsOk t.1 := h.same (by rw [hread.rest]) (by rw [hread.rest]) (by rw [hread.rest])
  have ht1 : TableInv t.1 := ht.congr (by rw [hread.rest]) (by rw [hread.rest]) (by rw [hread.rest])
  have hinfo : r.id = firstFree (t.1.table.records.map (·.id)) (Config.tableCapacity + 1) t.1.table.nextId
      ∧ r.grouping = .single ∧ r.delivery = .all .none := by
    change (PickRecord.withInfo _ q.info).id = _ ∧ (PickRecord.withInfo _ q.info).grouping = _
      ∧ (PickRecord.withInfo _ q.info).delivery = _
    cases q.info <;> exact ⟨rfl, rfl, rfl⟩
  obtain ⟨hid, hsingle, hdel⟩ := hinfo
  have hfree : r.id ∉ t.1.table.records.map (·.id) := by
    rw [hid]
    exact firstFree_not_mem (by rw [List.length_map]; exact Nat.lt_succ_of_le ht1.1) (by decide) t.1.table.nextId
  have hadd : ListsOk (t.1.addRecord r) := ⟨h1.consistent.add hfree hsingle, h1.silent⟩
  have hfresh : Fresh (t.1.addRecord r) r :=
    { mem := List.mem_append_right _ List.mem_cons_self
      single := hsingle
      delivery := fun p => by rw [hdel]; cases p <;> rfl
      unnamed := fun p hk => by
        obtain ⟨x, hx, e, -⟩ := h1.consistent.picks p r.id hk
        exact hfree (List.mem_map.2 ⟨x, hx, e⟩) }
  have hon : ListsOk ((t.1.addRecord r).handOnRecord r.id) := hadd.handOnRecord hfresh
  unfold State.writePick
  exact ((hon.same (t := { ((t.1.addRecord r).handOnRecord r.id).modQueue w.sensor List.tail with
    refiner := { (((t.1.addRecord r).handOnRecord r.id).modQueue w.sensor List.tail).refiner with work := none } })
    rfl rfl rfl).testGroups).grantDecision _

/-! ### The Detector and the hand-off of a set -/

theorem ListsOk.handOnEpisode {s : State} (h : ListsOk s) (sen : Sensor) (ch : Channel) (e : Episode) (n : Nat)
    (cause : EndCause) : ListsOk (s.handOnEpisode sen ch e n cause) := by
  unfold State.handOnEpisode State.detriggerInfo
  split
  · split
    · exact h.same rfl rfl rfl
    · exact (h.finalize _ _ _ _).settle s
  · exact h

theorem ListsOk.endEpisodes {s : State} (h : ListsOk s) (sen : Sensor) (f : ChannelRecord → ChannelRecord) :
    ListsOk (s.endEpisodes sen f) := by
  have blind : ∀ (u : State) (ch : Channel) (c : ChannelRecord), ListsOk u → ListsOk (u.handOnBlind sen ch c) :=
    fun u ch c hu => by
      unfold State.handOnBlind
      split
      · exact hu.handOnEpisode _ _ _ _ _
      · exact hu
  exact blind _ _ _ (blind _ _ _ (h.same rfl rfl rfl))

theorem ListsOk.detectorGap {s : State} (h : ListsOk s) (sen : Sensor) : ListsOk (s.detectorGap sen) := by
  unfold State.detectorGap
  split
  · exact h
  · exact (h.endEpisodes sen _).retest

theorem ListsOk.trigger {s : State} (h : ListsOk s) (sen : Sensor) (ch : Channel) (n localTime : Nat) :
    ListsOk (s.trigger sen ch n localTime) := by
  have hpost : ListsOk (s.postRequest sen ch n localTime).1 := by
    unfold State.postRequest
    split
    · refine ListsOk.settle ?_ s
      exact h.same rfl rfl rfl
    · exact h.same rfl rfl rfl
  exact hpost.same rfl rfl rfl

theorem ListsOk.evaluate {s : State} (h : ListsOk s) (sen : Sensor) (ch : Channel) (suspended : Bool)
    (n localTime : Nat) : ListsOk (s.evaluate sen ch suspended n localTime) := by
  unfold State.evaluate
  dsimp only
  split
  · exact h.same rfl rfl rfl
  · split
    · exact h.trigger _ _ _ _
    · exact h
  · split
    · unfold State.episodeSet
      dsimp only
      split
      · exact h.same rfl rfl rfl
      · exact (h.handOnEpisode sen ch _ n _).same rfl rfl rfl
    · exact h
  · exact h.same rfl rfl rfl
  · exact h

theorem ListsOk.detectorSet {s : State} (h : ListsOk s) (sen : Sensor) (x : SampleSet) (start : Bool) :
    ListsOk (s.detectorSet sen x start) := by
  have starts : ListsOk (s.detectorStart sen start) := by
    unfold State.detectorStart
    split
    · exact h.endEpisodes sen _
    · exact h
  have applies : ListsOk (if ((s.detectorStart sen start).detector.get sen).appliesNow
      then (s.detectorStart sen start).modDetector sen DetectorRecord.apply else s.detectorStart sen start) := by
    split
    · exact starts.same rfl rfl rfl
    · exact starts
  unfold State.detectorSet
  refine ListsOk.evaluate (ListsOk.evaluate ?_ _ _ _ _ _) _ _ _ _ _
  exact applies.same rfl rfl rfl

theorem ListsOk.handOn {s : State} (h : ListsOk s) (sen : Sensor) (x : SampleSet) (start : Bool) (arrival : Nat) :
    ListsOk (s.handOn sen x start arrival) := by
  have hstore := s.storeSet_stores sen x start arrival
  have h1 : ListsOk (s.storeSet sen x start arrival) :=
    h.same (by rw [hstore.rest]) (by rw [hstore.rest]) (by rw [hstore.rest])
  have report : ∀ (u : State) (p : Port), ListsOk u → ListsOk (u.chainReport sen p) := fun u p hu => by
    have k := u.chainReport_keeps sen p
    exact hu.same (by rw [k.rest]) (by rw [k.rest]) (by rw [k.rest])
  unfold State.handOn State.ringReport State.excerptReport
  exact (report _ _ (report _ _ (h1.refinerReport _ _).retest)).detectorSet _ _ _

/-! ### Sample Intake -/

theorem ListsOk.declareGap {s : State} (h : ListsOk s) (sen : Sensor) (flag : Bool) : ListsOk (s.declareGap sen flag) := by
  have hclose : ListsOk (s.closePageShort sen) := h.same rfl rfl rfl
  have hcut : ListsOk (((s.closePageShort sen).detectorGap sen).refinerGap sen) :=
    (hclose.detectorGap sen).same rfl rfl rfl
  have hann : ListsOk (s.announcedGap sen) := hcut.settle _
  rw [State.declareGap_eq]
  split <;> exact hann.same rfl rfl rfl

theorem ListsOk.intakeStep {s t : State} (h : ListsOk s) (k : IntakeStep s t) : ListsOk t := by
  cases k with
  | off sen => exact h.same rfl rfl rfl
  | flag sen f => exact h.same rfl rfl rfl
  | bad sen now hb => exact h.same rfl rfl rfl
  | badGap sen now hne =>
    refine ListsOk.declareGap ?_ sen true
    exact h.same rfl rfl rfl
  | expect sen => exact h.same rfl rfl rfl
  | held sen arrival => exact h.handOn _ _ _ _
  | start f now hne => exact (h.handOn _ _ _ _).same rfl rfl rfl
  | take f g now auto => exact (h.handOn _ _ _ _).same rfl rfl rfl
  | jump f g now => exact (h.handOn _ _ _ _).same rfl rfl rfl
  | gap sen flag hne => exact h.declareGap sen flag
  | copy sen =>
    refine State.copyCorrection_keep (P := ListsOk) (fun u v hu hstep => ?_) h
    cases hstep with
    | copy => exact hu.same rfl rfl rfl
    | gap => exact hu.declareGap sen false
    | off =>
      refine ListsOk.retest ?_
      exact hu.same rfl rfl rfl
    | starting => exact hu.same rfl rfl rfl

/-! ### Commands -/

/-- R160: a port that detaches has no list, and no record stands for it. -/
theorem ListsOk.withdrawn {s : State} (h : ListsOk s) (p : Port) : ListsOk (s.withdrawn p) := by
  have hc := h.consistent
  have hoff := s.withdrawn_offers p
  have hnotices : ∀ q, ((s.withdrawn p).notices q).Sublist (s.notices q) := fun q => by
    unfold State.notices
    rw [hoff]
    rcases Port.eq_or_other p q with rfl | rfl <;> simp
  have hrec : (s.withdrawn p).table.records
      = s.table.records.map fun r => { r with delivery := r.delivery.set p .none } := rfl
  refine ⟨?_, fun q hd => ?_⟩
  · rw [hrec]
    refine (hc.notices_sublist hnotices).map_records _ (fun _ => rfl) (fun _ _ => rfl) fun r hr g hg q => ?_
    have hnone := hc.delivery r hr ⟨g, hg⟩
    rcases Port.eq_or_other p q with rfl | rfl
    · simp
    · simpa using hnone p.other
  · unfold State.notices
    unfold State.attached at hd
    rw [hoff] at hd ⊢
    rcases Port.eq_or_other p q with rfl | rfl
    · simp
    · rw [PerPort.get_set_other] at hd ⊢
      exact h.silent _ hd

theorem ListsOk.detachPort {s : State} (h : ListsOk s) (p : Port) : ListsOk (s.detachPort p) := by
  have hw : ListsOk (s.withdrawn p) := h.withdrawn p
  unfold State.detachPort
  dsimp only
  exact (((hw.releaseTests _).settle _).groupFreeTests).same rfl rfl rfl

/-- The grouper's DECLARED groups, by their ids, are named where their declaration is. -/
theorem ListsOk.appendDeclared {s : State} (h : ListsOk s) {p : Port} {l : List GroupRecord} (ha : s.attached p = true)
    (hl : ∀ g ∈ l, g ∈ s.grouper.groups ∧ g.state = .declared) (hnd : (l.map (·.id)).Nodup)
    (hn : ∀ g ∈ l, (false, g.id) ∉ (s.notices p).map Notice.key) :
    ListsOk ((l.map (·.id)).foldl (fun t g => t.appendNotice p (.groupDeclared g)) s) := by
  induction l generalizing s with
  | nil => exact h
  | cons g rest ih =>
    obtain ⟨hg, hs⟩ := hl g List.mem_cons_self
    obtain ⟨hid, hrest⟩ := List.nodup_cons.1 hnd
    have h1 : ListsOk (s.appendNotice p (.groupDeclared g.id)) :=
      h.appendNotice ha (hn g List.mem_cons_self) (fun _ e => nomatch e)
        (fun i e => ⟨g, hg, by cases e; rfl, hs⟩) fun _ e => nomatch e
    refine ih h1 (((State.appendNotice_reports _ ha).attached p).trans ha)
      (fun x hx => hl x (List.mem_cons_of_mem _ hx)) hrest fun x hx => ?_
    rw [show (s.appendNotice p (.groupDeclared g.id)).notices p = s.notices p ++ [.groupDeclared g.id] from
      State.notices_setNotices s p _, List.map_append, List.mem_append, not_or]
    refine ⟨hn x (List.mem_cons_of_mem _ hx), fun hk => hid ?_⟩
    simp only [List.map_cons, List.map_nil, List.mem_singleton, Notice.key, Prod.mk.injEq, true_and] at hk
    exact List.mem_map.2 ⟨x, hx, hk⟩

theorem ListsOk.becomeAttached {s : State} (h : ListsOk s) {p : Port} (hd : s.attached p = false) :
    ListsOk (s.becomeAttached p) ∧ (s.becomeAttached p).notices p = [] := by
  have hn : (s.becomeAttached p).notices = s.notices := funext fun q => by
    unfold State.notices State.becomeAttached
    rcases Port.eq_or_other p q with rfl | rfl <;> simp
  refine ⟨⟨by rw [hn]; exact h.consistent, fun q hq => ?_⟩, by rw [hn]; exact h.silent p hd⟩
  rw [hn]
  rcases Port.eq_or_other p q with rfl | rfl
  · exact h.silent _ hd
  · refine h.silent _ ?_
    simpa [State.becomeAttached, State.attached] using hq

/-- R159: the catch-up of a port whose list is empty. -/
theorem ListsOk.catchUp {s : State} (h : ListsOk s) {p : Port} (ha : s.attached p = true) (hn : s.notices p = []) :
    ListsOk (s.catchUp p) := by
  have hc := h.consistent
  obtain ⟨hok, hnotices, -⟩ := h.offerPicks (p := p)
    (l := (s.table.records.filter (PickRecord.offeredAt (s.offers.get p).setting)).map (·.id)) ha
    ((List.filter_sublist.map _).nodup hc.ids) fun id hid => by
      obtain ⟨r, hr, e⟩ := List.mem_map.1 hid
      obtain ⟨hr, hoff⟩ := List.mem_filter.1 hr
      refine ⟨⟨r, hr, e, fun g hg => ?_⟩, by simp [hn]⟩
      simp [PickRecord.offeredAt, hg, OfferMode.offers] at hoff
  have hrep := State.offerPicks_reports (s := s)
    ((s.table.records.filter (PickRecord.offeredAt (s.offers.get p).setting)).map (·.id)) ha
  have hgroups : ∀ (l : List Nat) (u : State), (l.foldl (fun t id => t.offerPick p id) u).grouper = u.grouper :=
    fun l => by
      induction l with
      | nil => exact fun _ => rfl
      | cons id rest ih => exact fun u => ih _
  refine hok.appendDeclared ((hrep.attached p).trans ha) (fun g hg => ?_) ((List.filter_sublist.map _).nodup hc.groupIds)
    fun g hg hk => ?_
  · rw [hgroups]
    simpa using hg
  · rw [hnotices, hn] at hk
    simp [Notice.key] at hk

theorem ListsOk.tookNotice {s : State} (h : ListsOk s) (p : Port) {n : Notice}
    (hn : ∀ id, n.key = (true, id) → ∃ r ∈ s.table.records, r.id = id ∧ ∀ g, r.grouping ≠ .pending g) :
    ListsOk (s.tookNotice p n) := by
  have took : ∀ id, n.key = (true, id) → ListsOk (s.tookPick p id) := fun id e => by
    unfold State.tookPick
    split
    · exact h
    · obtain ⟨r, hr, er, hp⟩ := hn id e
      refine (h.setDelivery p id _ (.inr fun r' hr' e' => ?_)).releaseTest id
      rw [h.consistent.eq_of_id hr' hr (e'.trans er.symm)]
      exact hp
  cases n with
  | pickNew id => exact took id rfl
  | pickFinal id => exact took id rfl
  | pickRetracted id _ => exact took id rfl
  | groupDeclared g => exact h.groupFreeTest g
  | groupClosed g => exact h.groupFreeTest g

theorem ListsOk.answerTake {s : State} (h : ListsOk s) (p : Port) : ListsOk (s.answerTake p).state := by
  unfold State.answerTake
  cases hl : s.notices p with
  | nil => exact h
  | cons n rest =>
    have hmem : n ∈ s.notices p := by rw [hl]; exact List.mem_cons_self
    have h1 : ListsOk (s.setNotices p rest) :=
      h.setNotices_sublist (h.attached_of_mem hmem) (by rw [hl]; exact List.sublist_cons_self n rest)
    refine (h1.tookNotice p fun id e => ?_).settle _
    exact h.consistent.picks p id (e ▸ Notice.key_mem hmem)

theorem ListsOk.answerRetract {s : State} (h : ListsOk s) (p : Port) (id : Nat) : ListsOk (s.answerRetract p id).state := by
  unfold State.answerRetract
  split
  · exact h
  · rename_i r hf
    obtain ⟨hr, hid⟩ := State.mem_of_findPick hf
    split
    · exact h
    · have h1 : ListsOk (s.modPick id (PickRecord.retract p)) := by
        refine h.of_picks (State.modPick_picks fun _ => rfl) (h.consistent.map_records _ (fun x => ?_) (fun x _ => ?_)
          fun x hx g hg q => ?_)
        · split <;> rfl
        · split <;> rfl
        · have hnone := h.consistent.delivery x hx ⟨g, hg⟩ q
          split <;> exact hnone
      refine ListsOk.settle (h1.handOnRetraction ⟨_, List.mem_map_of_mem hr, ?_, ?_⟩ p) s
      · split <;> rfl
      · split <;> rfl

theorem ListsOk.answerApply {s : State} {p : Port} {same : Bool} {owner : State → State × Applied} (h : ListsOk s)
    (ho : ListsOk (owner s).1) : ListsOk (s.answerApply p same owner).state := by
  rcases s.answerApply_cases p same owner with e | ⟨-, e | e⟩ <;> rw [e]
  · exact h
  · exact ho
  · exact ho.same rfl rfl rfl

theorem ListsOk.applyRefinement {s : State} (h : ListsOk s) (sen : Sensor) : ListsOk (s.applyRefinement sen).1 := by
  have h1 : ListsOk ((s.withRefinement sen).modQueue sen fun l =>
      l.map ((s.withRefinement sen).retestRequest sen)) := h.same rfl rfl rfl
  unfold State.applyRefinement
  dsimp only
  split
  · exact h1.settle s
  · exact (h1.settle s).retest

theorem ListsOk.of_empty {s : State} (ht : s.table.records = []) (hn : ∀ p, s.notices p = []) (hg : s.grouper.groups = []) :
    ListsOk s := by
  refine ⟨⟨?_, fun p => ?_, fun p id hk => ?_, fun p id hm => ?_, fun p id hm => ?_, fun r hr => ?_, ?_, ?_, fun g h => ?_,
    fun g h => ?_⟩, fun p _ => hn p⟩
  · simp [ht]
  · simp [hn]
  · simp [hn] at hk
  · simp [hn] at hm
  · simp [hn] at hm
  · simp [ht] at hr
  · simp [hg]
  · simp [hg]
  · simp [hg] at h
  · simp [hg] at h

theorem ListsOk.owned {s : State} {p : Port} {r : Request} {a : Answer} (h : ListsOk s) (ha : Owned p s r a) :
    ListsOk a.state := by
  cases ha with
  | attach =>
    unfold State.answerAttach
    split
    · exact h
    · rename_i hd
      obtain ⟨hb, hn⟩ := h.becomeAttached (p := p) (by simpa using hd)
      exact hb.catchUp (s.attached_becomeAttached p) hn
  | detach =>
    rcases s.answerDetach_cases p with e | e <;> rw [e]
    · exact h
    · exact h.detachPort p
  | status => exact h.same rfl rfl rfl
  | take => exact h.answerTake p
  | readPick id => unfold State.answerReadPick; split <;> exact h
  | readGroup id => unfold State.answerReadGroup; split <;> exact h
  | retract id => exact h.answerRetract p id.toNat
  | setUnknown w v => exact h
  | set w v i =>
    rcases s.answerSet_cases p i v with e | ⟨s', k, -, e⟩ <;> rw [e]
    · exact h
    · have hs' : ListsOk s' := h.congr (by rw [k.rest]) k.offers (by rw [k.rest])
      split
      · exact hs'
      · exact hs'.same rfl rfl rfl
  | getUnknown w => exact h
  | get w i =>
    change ListsOk (s.afterGet i)
    unfold State.afterGet State.readIntake
    split <;> try split
    all_goals exact h.same rfl rfl rfl
  | applyCorrection _ _ sen =>
    refine h.answerApply ?_
    unfold State.applyCorrection
    split
    · exact h.same rfl rfl rfl
    · exact h.intakeStep (.copy sen)
  | applyDetector _ _ sen =>
    refine h.answerApply ?_
    unfold State.applyDetector
    split <;> exact h.same rfl rfl rfl
  | applyRefinement _ _ sen => exact h.answerApply (h.applyRefinement sen)
  | applyGrouping => exact h.answerApply (h.congr rfl (fun _ => ⟨rfl, rfl⟩) rfl)
  | applyPresets => exact h.answerApply (h.same rfl rfl rfl)
  | freeze => unfold State.answerFreeze; split <;> exact h.same rfl rfl rfl
  | loadChain count words =>
    rcases s.answerLoad_cases p count words with e | ⟨-, l, -, e⟩ <;> rw [e]
    · exact h
    · exact h.same rfl rfl rfl
  | startChain =>
    have k := s.answerStart_keeps p
    exact h.same (by rw [k.rest]) (by rw [k.rest]) (by rw [k.rest])
  | pauseChain =>
    rcases s.answerPause_cases p with e | ⟨-, point, e⟩ <;> rw [e]
    · exact h
    · exact h.same rfl rfl rfl
  | resetChain => exact h.same rfl rfl rfl
  | readExcerpt maximum =>
    rcases s.answerRead_cases p maximum.toNat with e | ⟨-, k, e⟩ <;> rw [e]
    · exact h
    · exact h.same rfl rfl rfl
  | attnDone classes =>
    rcases s.answerAttnDone_cases p classes.toNat with e | ⟨c, e⟩ <;> rw [e]
    · exact h
    · exact h.same rfl rfl rfl
  | softReset => exact .of_empty rfl (fun p => by cases p <;> rfl) rfl

theorem ListsOk.effect {s t : State} (h : ListsOk s) (ht : TableInv s) (he : Effect s t) : ListsOk t := by
  have intake : ∀ {u : State}, IntakeSteps s u → ListsOk u := fun hu =>
    IntakeSteps.keep (P := ListsOk) (fun _ _ k hstep => k.intakeStep hstep) h hu
  cases he with
  | idle => exact h
  | frame bytes =>
    cases hf : parseFrame bytes with
    | none => unfold State.frame; rw [hf]; exact h.same rfl rfl rfl
    | some f => exact intake (State.frame_steps hf)
  | frameSilence sen => exact intake (s.frameSilence_steps sen)
  | grant =>
    rcases s.grant_cases with e | ⟨r, -, e⟩ <;> rw [e]
    · exact h
    · have h1 : ListsOk { s with arbiter := s.arbiter.record r } := h.same rfl rfl rfl
      cases r with
      | refiner => exact h1.refinerBlock
      | chain p =>
        have k := State.chainBlock_only { s with arbiter := s.arbiter.record (.chain p) } p
        exact h1.same (by rw [State.readBlock, k.rest]) (by rw [State.readBlock, k.rest])
          (by rw [State.readBlock, k.rest])
  | pickWrite =>
    rcases s.pickWrite_cases with e | ⟨w, q, -, e⟩ <;> rw [e]
    · exact h
    · exact h.writePick ht w q
  | waitTimeout p kind =>
    have k := s.waitTimeout_keeps p kind
    exact h.same (by rw [k.rest]) (by rw [k.rest]) (by rw [k.rest])
  | timeLink chars =>
    rw [(s.timeLink_event chars).rest]
    exact h.same rfl rfl rfl
  | messageExpiry =>
    rw [s.messageExpiry_event.rest]
    exact h.same rfl rfl rfl
  | mark =>
    rw [s.mark_event.rest]
    exact h.same rfl rfl rfl
  | markLoss =>
    rw [s.markLoss_event.rest]
    exact h.same rfl rfl rfl
  | takeCommand p message sent =>
    obtain ⟨_, _, e⟩ := s.takeCommand_transacted p message sent
    rw [e]
    exact h.same rfl rfl rfl
  | takeResponse p clocked sent =>
    obtain ⟨_, _, e⟩ := s.takeResponse_transacted p clocked sent
    rw [e]
    exact h.same rfl rfl rfl
  | ignored p sent => exact h.same rfl rfl rfl
  | portSilence p =>
    rcases s.portSilence_cases p with e | e <;> rw [e]
    · exact h
    · exact h.detachPort p
  | endPulse p => exact h.same rfl rfl rfl
  | command p r a ha => exact (h.owned ha).same rfl rfl rfl

theorem ListsOk.reset : ListsOk State.reset := .of_empty rfl (fun p => by cases p <;> rfl) rfl

theorem NoticeInv.reset : NoticeInv State.reset := ListsOk.reset.noticeInv TableInv.reset

/-- Settles O57: the capacities and counts see no notice, and the relation of notices, records and groups is kept with
the table's ids. -/
theorem capacitiesAndCountsAreKept : Obligations.CapacitiesAndCountsAreKept := by
  intro s t hstep
  refine ⟨fun h => h.step hstep, fun h => h.step hstep, fun hn ht hp => ?_⟩
  have hboth : ListsOk t ∧ TableInv t := step_keeps (P := fun u => ListsOk u ∧ TableInv u)
    (fun _ => ⟨ListsOk.reset.same rfl rfl rfl, TableInv.reset⟩) (fun _ _ _ h => ⟨h.1.same rfl rfl rfl, h.2⟩)
    (fun _ _ h he => ⟨h.1.effect h.2 he, h.2.effect he⟩) ⟨ListsOk.of_noticeInv hn ht hp, ht⟩ hstep
  exact hboth.1.noticeInv hboth.2

end Sys2Proof.Machine


/-! PROOFS. The step, the resets, the Timebase's expiries, the arithmetic of correction and averages, and the choice of
the ring's reader. -/

namespace Sys2Proof.Machine

/-! ### The step and the resets -/

/-- Settles O1: both clauses are the definition of the step at the queue's two forms. -/
theorem stepRunsFrontCommand : Obligations.StepRunsFrontCommand := by
  refine ⟨fun c rest s => rfl, fun s h => ?_⟩
  unfold Machine.step
  split
  · rfl
  · rename_i hc
    rw [h] at hc
    cases hc

/-- Settles O2: the reset state, read sensor by sensor and port by port. -/
theorem hardwareResetLeavesResetValues : Obligations.HardwareResetLeavesResetValues := by
  refine ⟨fun _ => rfl, ⟨rfl, rfl, rfl, rfl⟩, fun sen => ?_, rfl, rfl, ⟨rfl, rfl, rfl, rfl⟩, ⟨rfl, rfl, rfl, rfl⟩,
    ⟨rfl, rfl, rfl, rfl⟩, fun p => ?_, rfl, rfl⟩
  · cases sen <;> exact ⟨rfl, rfl, rfl, rfl, rfl, rfl, rfl, rfl, rfl⟩
  · cases p <;> exact ⟨rfl, rfl, rfl, rfl, rfl, rfl, rfl, rfl, rfl, rfl, rfl, rfl, by decide⟩

theorem CapacityInv.reset : CapacityInv State.reset :=
  .of_empty (fun sen => by cases sen <;> rfl) rfl fun p => by cases p <;> rfl

/-- Settles O3: each invariant was shown of reset with its step lemma. -/
theorem invariantsHoldAtReset : Obligations.InvariantsHoldAtReset :=
  ⟨OfferInv.reset, StoreInv.reset [], RateInv.reset, PortInv.reset, TableInv.reset, SignalInv.reset [], CapacityInv.reset,
    CountInv.reset [], TimeInv.reset, PageInv.reset [], NoticeInv.reset⟩

/-! ### Arithmetic -/

/-- Of a natural number: twice the distance from the rounded quotient is at most `d`, and a tie is rounded up. -/
theorem roundDiv_nat (m d : Nat) (hd : 0 < d) :
    2 * ((m : Int) - (((2 * m + d) / (2 * d) : Nat) : Int) * d).natAbs ≤ d
      ∧ (2 * ((m : Int) - (((2 * m + d) / (2 * d) : Nat) : Int) * d).natAbs = d → m < (2 * m + d) / (2 * d) * d) := by
  have hdiv := Nat.div_add_mod (2 * m + d) (2 * d)
  have hmod := Nat.mod_lt (2 * m + d) (show 0 < 2 * d by omega)
  generalize (2 * m + d) / (2 * d) = q at hdiv ⊢
  have hq : 2 * d * q = 2 * (q * d) := by ring
  have hcast : ((q : Int)) * (d : Int) = ((q * d : Nat) : Int) := by push_cast; rfl
  rw [hcast]
  omega

/-- Settles O8: the rounding of a magnitude, with the sign put back. -/
theorem roundingIsToNearestTiesAway : Obligations.RoundingIsToNearestTiesAway := by
  intro x d hd
  obtain ⟨hnear, htie⟩ := roundDiv_nat x.natAbs d hd
  unfold roundDiv
  split
  · rename_i hneg
    have hx : x = -(x.natAbs : Int) := by omega
    rw [neg_mul, Int.natAbs_neg, ← Nat.cast_mul, Int.natAbs_natCast]
    rw [← Nat.cast_mul] at hnear htie
    omega
  · rename_i hpos
    have hx : (x.natAbs : Int) = x := by omega
    rw [hx] at hnear htie
    rw [← Nat.cast_mul] at hnear htie ⊢
    rw [Int.natAbs_natCast]
    exact ⟨hnear, htie⟩

/-- R58: between the two, so that no truncation at 0 takes place. -/
theorem average_cast (k avg e : Nat) :
    ((average k avg e : Nat) : Int) = (avg : Int) + ((e : Int) - (avg : Int)) / (2 : Int) ^ k := by
  have hpow : ((2 ^ k : Nat) : Int) = (2 : Int) ^ k := by push_cast; rfl
  have hpos : (0 : Int) < (2 : Int) ^ k := by positivity
  unfold average
  rw [hpow, Int.toNat_of_nonneg]
  have : -(avg : Int) ≤ ((e : Int) - avg) / (2 : Int) ^ k := by
    rw [Int.le_ediv_iff_mul_le hpos]
    nlinarith [Int.natCast_nonneg avg, Int.natCast_nonneg e, hpos]
  omega

/-- Settles O16: the floor of a quotient by 2^k lies between its dividend and 0, and is below 0 with it. -/
theorem averagesMoveTowardEnergy : Obligations.AveragesMoveTowardEnergy := by
  intro k avg e
  have hcast := average_cast k avg e
  have hpos : (0 : Int) < (2 : Int) ^ k := by positivity
  refine ⟨hcast, fun h => ?_, fun h => ?_, fun h hlt => ?_⟩
  · have h0 : 0 ≤ ((e : Int) - avg) / (2 : Int) ^ k := Int.ediv_nonneg (by omega) hpos.le
    have h1 : ((e : Int) - avg) / (2 : Int) ^ k ≤ (e : Int) - avg := Int.ediv_le_self _ (by omega)
    omega
  · have h0 : ((e : Int) - avg) / (2 : Int) ^ k < 0 := Int.ediv_neg_of_neg_of_pos (by omega) hpos
    have h1 : (e : Int) - avg ≤ ((e : Int) - avg) / (2 : Int) ^ k := by
      rw [Int.le_ediv_iff_mul_le hpos]
      nlinarith [hpos]
    omega
  · have h0 : ((e : Int) - avg) / (2 : Int) ^ k = 0 := by
      refine Int.ediv_eq_zero_of_lt (by omega) ?_
      have : ((avg + 2 ^ k : Nat) : Int) = (avg : Int) + (2 : Int) ^ k := by push_cast; rfl
      omega
    omega

/-! ### The Timebase's expiries -/

theorem State.raiseBoth_pends (s : State) (c : AttnClass) (p : Port) : Pends (s.raiseBoth c) p c := by
  simp [Pends]

/-- Settles O7: each expiry row is decided by its comparison. -/
theorem timebaseExpiriesActWhenDue : Obligations.TimebaseExpiriesActWhenDue := by
  refine ⟨fun dt s m hm => congrArg Host.Outcome.next ?_, fun dt s m hl hm hdue => ⟨_, rfl, ?_⟩,
    fun dt s h => congrArg Host.Outcome.next ?_⟩
  · by_cases hdue : m.arrival + 1000000 ≤ s.time.localTime + dt
    · simp [State.messageExpiry, Timebase.messageOverdue, hm, hdue, State.elapse, Config.messageLife]
    · simp [State.messageExpiry, Timebase.messageOverdue, hm, hdue, State.elapse, Config.messageLife]
  · have hover : (s.elapse dt).time.markOverdue = true := by
      simpa [Timebase.markOverdue, hl, hm, Config.markLossLimit] using hdue
    have he : (s.elapse dt).markLoss = (s.elapse dt).timeLost := if_pos hover
    rw [he]
    exact ⟨rfl, rfl, State.raiseBoth_pends _ _⟩
  · have hnot : (s.elapse dt).time.markOverdue = false := by
      unfold Timebase.markOverdue
      split
      · rename_i m hl hm
        have hlt := (h.resolve_left fun hne => hne hl) m hm
        exact decide_eq_false (Nat.not_le.2 hlt)
      · rfl
    exact if_neg (by rw [hnot]; decide)

/-! ### The ring's reader -/

/-- Settles O21: the reader is the first in the order of the policy whose request stands. -/
theorem ringReadPolicyChoosesReader : Obligations.RingReadPolicyChoosesReader := by
  intro s
  refine ⟨fun hp => ?_, fun hp first second third horder hlast => ?_⟩
  · have hgrantee : s.grantee = if s.refinerRequests then some .refiner
        else if s.chainRequests s.arbiter.lastChain.other then some (.chain s.arbiter.lastChain.other)
        else if s.chainRequests s.arbiter.lastChain then some (.chain s.arbiter.lastChain) else none := by
      simp only [State.grantee, ReadArbiter.order, hp, List.find?, State.requests]
      repeat' split <;> simp_all
    rw [hgrantee]
    refine ⟨fun hr => by simp [hr], fun hr => ⟨fun ha hb => ?_, fun p hq ho => ?_, fun ha hb => ?_⟩⟩
    · cases hl : s.arbiter.lastChain <;> simp [hr, ha, hb, Port.other]
    · rcases Port.eq_or_other p s.arbiter.lastChain with e | e <;> simp [e, hr, hq, ho]
    · cases hl : s.arbiter.lastChain <;> simp [hr, ha, hb, Port.other]
  · have hr : readersAfter s.arbiter.lastGrant = [first, second, third] := by
      simp only [List.mem_cons, Prod.mk.injEq, List.not_mem_nil, or_false] at horder
      rcases horder with ⟨rfl, rfl, rfl⟩ | ⟨rfl, rfl, rfl⟩ | ⟨rfl, rfl, rfl⟩ <;> rw [hlast] <;> rfl
    simp only [State.grantee, ReadArbiter.order, hp, hr, List.find?]
    cases s.requests first <;> cases s.requests second <;> cases s.requests third <;> rfl

/-! ### The wait of a chain -/

/-- Settles O24: the wait is overdue, so the chain is terminated with TIMEOUT. -/
theorem chainWaitEndsInTimeout : Obligations.ChainWaitEndsInTimeout := by
  intro dt s p kind start hs hw hdue
  have hover : (s.elapse dt).waitOverdue p kind = true := by
    have hw' : ((s.elapse dt).chain p).wait = some (kind, start) := hw
    have hs' : ((s.elapse dt).chain p).state = .waiting := hs
    unfold State.waitOverdue
    rw [hs', hw']
    exact Bool.and_eq_true_iff.2 ⟨decide_eq_true rfl, decide_eq_true hdue⟩
  have he : (s.elapse dt).waitTimeout p kind
      = ((s.elapse dt).modChain p (Chain.terminated .timeout)).raise p .excerptFault := by
    refine (if_pos hover).trans (if_neg ?_)
    change (s.chain p).state ≠ .faulted
    rw [hs]
    decide
  refine ⟨(s.elapse dt).waitTimeout p kind, by cases kind <;> rfl, ?_⟩
  rw [he]
  refine ⟨rfl, ?_, ?_, ?_, ?_, ?_, ?_, ?_, ?_, ?_⟩
  all_goals simp [State.chain, Chain.terminated, Pends]

end Sys2Proof.Machine


/-! PROOFS. Setting indexes, APPLY areas and command messages are read back from their bytes. -/

namespace Sys2Proof

/-! ### Setting indexes (R208, Table 11-8) -/

theorem Sensor.num_lt (sen : Sensor) : sen.num < 4 := by cases sen <;> decide

theorem CorrectionItem.num_lt (x : CorrectionItem) : x.num < 10 := by cases x <;> decide

theorem ChannelItem.num_lt (x : ChannelItem) : x.num < 7 := by cases x <;> decide

theorem RefinementItem.num_lt (x : RefinementItem) : x.num < 10 := by
  cases x with
  | threshold q => cases q <;> decide
  | _ => decide

theorem GroupingItem.num_lt (x : GroupingItem) : x.num < 4 := by cases x <;> decide

theorem PresetItem.num_lt (x : PresetItem) : x.num < 3 := by cases x <;> decide

/-- Area and item are bytes, so that they are read back from their word. -/
theorem SettingIndex.item_lt (i : SettingIndex) : i.item < 256 := by
  cases i with
  | correction _ x => exact x.num_lt.trans (by decide)
  | detector _ ch x =>
    have := x.num_lt
    cases ch <;> simp only [SettingIndex.item] <;> omega
  | refinement _ x => exact x.num_lt.trans (by decide)
  | grouping x => exact x.num_lt.trans (by decide)
  | preset k x =>
    have := x.num_lt
    have := k.isLt
    simp only [SettingIndex.item]
    omega
  | _ => exact of_decide_eq_true rfl

theorem SettingIndex.area_lt (i : SettingIndex) : i.area < 256 := by
  cases i with
  | correction sen _ | detector sen _ _ | refinement sen _ | intakeStatus sen | ringStatus sen | detectorStatus sen =>
    have := sen.num_lt
    simp only [SettingIndex.area]
    omega
  | _ => exact of_decide_eq_true rfl

theorem presetIndexOf_item (k : Fin 8) (item : PresetItem) :
    presetIndexOf (3 * k.val + item.num) = some (.preset k item) := by
  have hdiv : (3 * k.val + item.num) / 3 = k.val := by cases item <;> simp only [PresetItem.num] <;> omega
  have hmod : (3 * k.val + item.num) % 3 = item.num := by cases item <;> simp only [PresetItem.num] <;> omega
  unfold presetIndexOf
  rw [dif_pos (by rw [hdiv]; exact k.isLt)]
  simp only [hdiv, hmod]
  cases item <;> rfl

/-- The area and item of an index name it. -/
theorem indexOf_area_item (i : SettingIndex) : indexOf i.area i.item = some i := by
  cases i with
  | correction sen item => cases sen <;> cases item <;> rfl
  | detector sen ch item => cases sen <;> cases ch <;> cases item <;> rfl
  | refinement sen item =>
    cases item with
    | threshold q => cases sen <;> cases q <;> rfl
    | _ => cases sen <;> rfl
  | grouping item => cases item <;> rfl
  | preset k item => exact presetIndexOf_item k item
  | intakeStatus sen => cases sen <;> rfl
  | ringStatus sen => cases sen <;> rfl
  | detectorStatus sen => cases sen <;> rfl
  | _ => rfl

theorem encodeIndex_toNat (i : SettingIndex) : (encodeIndex i).toNat = i.area * 256 + i.item := by
  have ha := i.area_lt
  have hi := i.item_lt
  simp only [encodeIndex, BitVec.toNat_ofNat]
  omega

theorem decodeIndex_encodeIndex (i : SettingIndex) : decodeIndex (encodeIndex i) = some i := by
  have ha := i.area_lt
  have hi := i.item_lt
  unfold decodeIndex
  rw [encodeIndex_toNat, show (i.area * 256 + i.item) / 256 = i.area by omega,
    show (i.area * 256 + i.item) % 256 = i.item by omega]
  exact indexOf_area_item i

theorem Sensor.ofNum_some {n : Nat} {sen : Sensor} (h : Sensor.ofNum n = some sen) : sen.num = n := by
  unfold Sensor.ofNum at h
  split at h <;> cases h <;> rfl

theorem sensorOfArea_some {base area : Nat} {sen : Sensor} (h : sensorOfArea base area = some sen) :
    area = base + sen.num := by
  unfold sensorOfArea at h
  split at h
  · cases h
  · rw [Sensor.ofNum_some h]
    omega

theorem CorrectionItem.ofNum_some {n : Nat} {x : CorrectionItem} (h : CorrectionItem.ofNum n = some x) : x.num = n := by
  unfold CorrectionItem.ofNum at h
  split at h <;> cases h <;> rfl

theorem ChannelItem.ofNum_some {n : Nat} {x : ChannelItem} (h : ChannelItem.ofNum n = some x) : x.num = n := by
  unfold ChannelItem.ofNum at h
  split at h <;> cases h <;> rfl

theorem RefinementItem.ofNum_some {n : Nat} {x : RefinementItem} (h : RefinementItem.ofNum n = some x) : x.num = n := by
  unfold RefinementItem.ofNum at h
  split at h <;> cases h <;> rfl

theorem GroupingItem.ofNum_some {n : Nat} {x : GroupingItem} (h : GroupingItem.ofNum n = some x) : x.num = n := by
  unfold GroupingItem.ofNum at h
  split at h <;> cases h <;> rfl

theorem detectorIndexOf_some {sen : Sensor} {item : Nat} {i : SettingIndex} (h : detectorIndexOf sen item = some i) :
    i.area = 0x20 + sen.num ∧ i.item = item := by
  unfold detectorIndexOf at h
  split at h <;> obtain ⟨x, hx, rfl⟩ := Option.map_eq_some_iff.1 h <;> have hn := ChannelItem.ofNum_some hx
  · exact ⟨rfl, hn⟩
  · exact ⟨rfl, by simp only [SettingIndex.item, hn]; omega⟩

theorem presetIndexOf_some {item : Nat} {i : SettingIndex} (h : presetIndexOf item = some i) :
    i.area = 0x48 ∧ i.item = item := by
  unfold presetIndexOf at h
  split at h
  · cases h
    refine ⟨rfl, ?_⟩
    simp only [SettingIndex.item]
    split
    · simp only [PresetItem.num]; omega
    · split <;> simp only [PresetItem.num] <;> omega
  · cases h

theorem sensorStatusOf_some {sen : Sensor} {item : Nat} {i : SettingIndex} (h : sensorStatusOf sen item = some i) :
    i.area = 0x70 + sen.num ∧ i.item = item := by
  unfold sensorStatusOf at h
  split at h <;> cases h <;> exact ⟨rfl, rfl⟩

theorem partIndexOf_some {area item : Nat} {i : SettingIndex} (h : partIndexOf area item = some i) :
    i.area = area ∧ i.item = item := by
  unfold partIndexOf at h
  split at h <;> cases h <;> exact ⟨rfl, rfl⟩

/-- What area and item name has that area and that item. -/
theorem indexOf_some {area item : Nat} {i : SettingIndex} (h : indexOf area item = some i) :
    i.area = area ∧ i.item = item := by
  unfold indexOf at h
  split at h
  · rename_i sen hs
    obtain ⟨x, hx, rfl⟩ := Option.map_eq_some_iff.1 h
    exact ⟨(sensorOfArea_some hs).symm, CorrectionItem.ofNum_some hx⟩
  · split at h
    · rename_i sen hs
      obtain ⟨ha, hi⟩ := detectorIndexOf_some h
      exact ⟨ha.trans (sensorOfArea_some hs).symm, hi⟩
    · split at h
      · rename_i sen hs
        obtain ⟨x, hx, rfl⟩ := Option.map_eq_some_iff.1 h
        exact ⟨(sensorOfArea_some hs).symm, RefinementItem.ofNum_some hx⟩
      · split at h
        · rename_i sen hs
          obtain ⟨ha, hi⟩ := sensorStatusOf_some h
          exact ⟨ha.trans (sensorOfArea_some hs).symm, hi⟩
        · split at h
          · rename_i ha
            obtain ⟨x, hx, rfl⟩ := Option.map_eq_some_iff.1 h
            exact ⟨ha.symm, GroupingItem.ofNum_some hx⟩
          · split at h
            · rename_i ha
              obtain ⟨ha', hi⟩ := presetIndexOf_some h
              exact ⟨ha'.trans ha.symm, hi⟩
            · exact partIndexOf_some h

theorem encodeIndex_of_decodeIndex {w : BitVec 16} {i : SettingIndex} (h : decodeIndex w = some i) : encodeIndex i = w := by
  obtain ⟨ha, hi⟩ := indexOf_some h
  refine BitVec.eq_of_toNat_eq ?_
  rw [encodeIndex_toNat, ha, hi]
  exact Nat.div_add_mod' _ _

theorem groupOfArea_area (g : GroupName) : groupOfArea g.area = some g := by
  cases g with
  | correction sen => cases sen <;> rfl
  | detector sen => cases sen <;> rfl
  | refinement sen => cases sen <;> rfl
  | _ => rfl

/-- The group that an area names has that area. -/
theorem area_of_groupOfArea {area : Byte} {g : GroupName} (h : groupOfArea area = some g) : g.area = area := by
  have named : ∀ (base : Nat) (sen : Sensor), sensorOfArea base area.toNat = some sen →
      BitVec.ofNat 8 (base + sen.num) = area := fun base sen hs => by
    rw [← sensorOfArea_some hs, BitVec.ofNat_toNat, BitVec.setWidth_eq]
  unfold groupOfArea at h
  split at h
  · rename_i hs
    cases h
    exact named _ _ hs
  · split at h
    · rename_i hs
      cases h
      exact named _ _ hs
    · split at h
      · rename_i hs
        cases h
        exact named _ _ hs
      · split at h
        · rename_i ha
          cases h
          exact ha.symm
        · split at h
          · rename_i ha
            cases h
            exact ha.symm
          · cases h

/-! ### Words in bytes (R207) -/

/-- The two bytes of a word of 16 bits. -/
theorem bytesBE_two (v : BitVec 16) : ∃ b1 b0, bytesBE 2 v.toNat = [b1, b0] ∧ b1 ++ b0 = v := by
  refine ⟨v.extractLsb' 8 8, v.extractLsb' 0 8, rfl, ?_⟩
  rw [BitVec.extractLsb'_append_extractLsb'_eq_extractLsb' (by rfl)]
  simp

theorem bytesBE_four (v : BitVec 32) : ∃ b3 b2 b1 b0, bytesBE 4 v.toNat = [b3, b2, b1, b0] ∧ b3 ++ b2 ++ b1 ++ b0 = v := by
  refine ⟨v.extractLsb' 24 8, v.extractLsb' 16 8, v.extractLsb' 8 8, v.extractLsb' 0 8, rfl, ?_⟩
  rw [BitVec.extractLsb'_append_extractLsb'_eq_extractLsb' (by rfl), BitVec.extractLsb'_append_extractLsb'_eq_extractLsb' (by rfl),
    BitVec.extractLsb'_append_extractLsb'_eq_extractLsb' (by rfl)]
  simp

theorem bytesBE_eight (v : BitVec 64) : ∃ b7 b6 b5 b4 b3 b2 b1 b0, bytesBE 8 v.toNat = [b7, b6, b5, b4, b3, b2, b1, b0]
    ∧ b7 ++ b6 ++ b5 ++ b4 ++ b3 ++ b2 ++ b1 ++ b0 = v := by
  refine ⟨v.extractLsb' 56 8, v.extractLsb' 48 8, v.extractLsb' 40 8, v.extractLsb' 32 8, v.extractLsb' 24 8,
    v.extractLsb' 16 8, v.extractLsb' 8 8, v.extractLsb' 0 8, rfl, ?_⟩
  rw [BitVec.extractLsb'_append_extractLsb'_eq_extractLsb' (by rfl), BitVec.extractLsb'_append_extractLsb'_eq_extractLsb' (by rfl),
    BitVec.extractLsb'_append_extractLsb'_eq_extractLsb' (by rfl), BitVec.extractLsb'_append_extractLsb'_eq_extractLsb' (by rfl),
    BitVec.extractLsb'_append_extractLsb'_eq_extractLsb' (by rfl), BitVec.extractLsb'_append_extractLsb'_eq_extractLsb' (by rfl),
    BitVec.extractLsb'_append_extractLsb'_eq_extractLsb' (by rfl)]
  simp

/-! ### Command messages (Table 11-4) -/

theorem ElementWords.bytes_length (e : ElementWords) : e.bytes.length = 16 := rfl

theorem elementOfBytes_bytes (e : ElementWords) : elementOfBytes e.bytes = some e := by
  obtain ⟨b7, b6, b5, b4, b3, b2, b1, b0, hs, hsv⟩ := bytesBE_eight e.start
  obtain ⟨l1, l0, hl, hlv⟩ := bytesBE_two e.length
  unfold ElementWords.bytes
  rw [hs, hl]
  simp only [List.cons_append, List.nil_append, elementOfBytes, hsv, hlv]

theorem elementsOfBytes_flatMap (l : List ElementWords) :
    elementsOfBytes l.length (l.flatMap ElementWords.bytes) = some l := by
  induction l with
  | nil => rfl
  | cons e rest ih =>
    have htake : (e.bytes ++ rest.flatMap ElementWords.bytes).take 16 = e.bytes := List.take_left' e.bytes_length
    have hdrop : (e.bytes ++ rest.flatMap ElementWords.bytes).drop 16 = rest.flatMap ElementWords.bytes :=
      List.drop_left' e.bytes_length
    rw [List.flatMap_cons, List.length_cons, elementsOfBytes, htake, hdrop, elementOfBytes_bytes, ih]
    rfl

theorem flatMap_bytes_length (l : List ElementWords) : (l.flatMap ElementWords.bytes).length = 16 * l.length := by
  induction l with
  | nil => rfl
  | cons e rest ih =>
    rw [List.flatMap_cons, List.length_append, ih, e.bytes_length, List.length_cons]
    omega

/-- A command's count byte is that of its elements. -/
theorem Request.wf_loadChain {count : Byte} {l : List ElementWords} (h : (Request.loadChain count l).wf = true) :
    l.length = count.toNat ∧ l.length ≤ 15 := by
  simpa [Request.wf] using h

theorem requestOfBytes_args {r : Request} (h : r.wf = true) : requestOfBytes r.code r.args = some r := by
  cases r with
  | readPick id | readGroup id | retract id | get id | attnDone id =>
    obtain ⟨b1, b0, hb, hv⟩ := bytesBE_two id
    simp only [Request.args, hb]
    exact congrArg (fun x => some _) hv
  | set index value =>
    obtain ⟨b1, b0, hb, hv⟩ := bytesBE_two index
    obtain ⟨c3, c2, c1, c0, hc, hw⟩ := bytesBE_four value
    simp only [Request.args, hb, hc]
    exact congrArg₂ (fun x y => some (Request.set x y)) hv hw
  | loadChain count l =>
    obtain ⟨hl, -⟩ := Request.wf_loadChain h
    change (elementsOfBytes count.toNat (l.flatMap ElementWords.bytes)).map (Request.loadChain count) = _
    rw [← hl, elementsOfBytes_flatMap]
    rfl
  | _ => rfl

theorem Request.code_range (r : Request) : 1 ≤ r.code.toNat ∧ r.code.toNat ≤ 18 := by
  cases r <;> exact ⟨of_decide_eq_true rfl, of_decide_eq_true rfl⟩

theorem Request.args_length_lt {r : Request} (h : r.wf = true) : r.args.length < 256 := by
  cases r with
  | loadChain count l =>
    obtain ⟨-, hl⟩ := Request.wf_loadChain h
    simp only [Request.args, List.length_cons, flatMap_bytes_length]
    omega
  | _ => exact of_decide_eq_true rfl

/-- A well-formed command's message is not malformed. -/
theorem formOf_message {r : Request} (h : r.wf = true) : formOf r.message = some (r.code, r.args) := by
  have hr := r.code_range
  have hlen : r.args.length = (BitVec.ofNat 8 r.args.length).toNat := by
    rw [BitVec.toNat_ofNat, Nat.mod_eq_of_lt (Request.args_length_lt h)]
  have hchain : ¬ (r.code = 0x0C#8 ∧ chainLengthOk (BitVec.ofNat 8 r.args.length) r.args = false) := by
    rintro ⟨hc, hf⟩
    cases r with
    | loadChain count l =>
      obtain ⟨hl, -⟩ := Request.wf_loadChain h
      change ((BitVec.ofNat 8 (Request.loadChain count l).args.length).toNat == 1 + 16 * count.toNat) = false at hf
      rw [← hlen, Request.args, List.length_cons, flatMap_bytes_length, hl, beq_eq_false_iff_ne] at hf
      omega
    | _ => cases hc
  unfold Request.message formOf
  dsimp only
  rw [if_neg (by omega), if_neg (by omega), if_neg hchain]

/-! ### The row of a command (R189, step 3) -/

theorem performs_of_performingRow {dt : Nat} {p : Port} {r : Request} {i : Instr} (h : performingRow dt p r = some i) :
    i.performs = some (p, r) := by
  cases r with
  | set index value =>
    unfold performingRow at h
    dsimp only at h
    split at h
    case h_12 => cases h; rfl
    all_goals
      rename_i hd
      cases h
      rw [← encodeIndex_of_decodeIndex hd]
      rfl
  | get index =>
    unfold performingRow at h
    dsimp only at h
    split at h
    · rename_i hd
      cases h
      rw [← encodeIndex_of_decodeIndex hd]
      rfl
    · cases h
      rfl
  | apply area =>
    unfold performingRow at h
    dsimp only at h
    split at h
    case h_6 => cases h
    all_goals
      rename_i hg
      cases h
      rw [← area_of_groupOfArea hg]
      rfl
  | _ => cases h; rfl

end Sys2Proof

namespace Sys2Proof.Machine

/-- Settles O60: areas and items name indexes one to one, and each word of a command stands in its own bytes. -/
theorem commandsAreReadBackFromBytes : Obligations.CommandsAreReadBackFromBytes :=
  ⟨decodeIndex_encodeIndex, fun _ _ h => encodeIndex_of_decodeIndex h, groupOfArea_area,
    fun _ h => ⟨formOf_message h, requestOfBytes_args h⟩, fun _ _ _ _ h => performs_of_performingRow h⟩

end Sys2Proof.Machine


/-! PROOFS. The station ports: transactions, what a held command's row leaves, attention, and the reading of
snapshots. -/

namespace Sys2Proof.Machine

/-! ### What a row leaves that performs a held command -/

/-- R189, step 3: an owner's answer, with the response in the slot. -/
def Answer.given (a : Answer) (p : Port) (code : Byte) : State := a.state.respond p code a.result a.data

/-- A row that performs a command which the slot holds leaves its owner's answer. -/
theorem State.perform_given {s : State} {p : Port} {r : Request} (h : Holds s p r) (dt : Nat) (owner : State → Answer) :
    (s.elapse dt).perform p r owner = (owner (s.elapse dt)).given p r.code :=
  State.perform_of_holds owner h

/-- Where the owner leaves the port records, the response is all that changes them. -/
theorem Answer.answered {s : State} {a : Answer} {p : Port} (code : Byte) (h : a.state.ports = s.ports) :
    Answered s (a.given p code) p code a.result a.data := by
  change a.state.ports.set p _ = _
  rw [h]

/-- A refusal answers and does nothing more. -/
theorem State.refuse_given (s : State) (dt : Nat) (p : Port) (code : Byte) (result : Result) :
    ((s.elapse dt).refuse result).given p code
        = { s.elapse dt with ports := (((s.elapse dt).refuse result).given p code).ports }
      ∧ Answered s (((s.elapse dt).refuse result).given p code) p code result [] := ⟨rfl, rfl⟩

/-! ### COMMAND transactions (R188, R189) -/

theorem performingRow_isSome {dt : Nat} {p : Port} {r : Request}
    (h : ∀ area, r = .apply area → (groupOfArea area).isSome = true) : (performingRow dt p r).isSome = true := by
  cases r with
  | set index value => unfold performingRow; dsimp only; split <;> rfl
  | get index => unfold performingRow; dsimp only; split <;> rfl
  | apply area =>
    have hg := h area rfl
    unfold performingRow
    dsimp only
    split
    case h_6 hn =>
      rw [hn] at hg
      cases hg
    all_goals rfl
  | _ => rfl

/-- A command whose bytes are its own is performable. -/
theorem performable_of_wf {r : Request} (hr : r.wf = true)
    (h : ∀ area, r = .apply area → (groupOfArea area).isSome = true) : performable r.code r.args = some r := by
  unfold performable
  rw [requestOfBytes_args hr]
  exact if_pos (performingRow_isSome h)

theorem allowedDetached_code (r : Request) : allowedDetached r.code = true ↔ r = .attach ∨ r = .status := by
  cases r <;> simp [allowedDetached, Request.code]

/-- Settles O25: the message is read back as its command, and the slot takes it. -/
theorem commandTransactionFillsSlot : Obligations.CommandTransactionFillsSlot := by
  intro dt p r s hidle hwf harea hatt
  have hallow : ¬ ((s.elapse dt).attached p = false ∧ allowedDetached r.code = false) := by
    rintro ⟨hd, ha⟩
    rcases hatt with h | h
    · exact absurd (h.symm.trans hd) (by decide)
    · exact absurd (((allowedDetached_code r).2 h).symm.trans ha) (by decide)
  have hexam : (s.elapse dt).examine p r.message = (s.elapse dt).modPort p fun x => { x with slot := .busy r } := by
    unfold State.examine
    rw [formOf_message hwf]
    dsimp only
    rw [if_neg hallow, performable_of_wf hwf harea]
  have htake : (s.elapse dt).takeCommand p r.message = (s.elapse dt).modPort p fun x => { x with slot := .busy r } := by
    rw [← hexam]
    unfold State.takeCommand
    split
    · rfl
    · rename_i hne
      exact absurd hidle hne
  refine congrArg Host.Outcome.next ?_
  rw [htake, State.endTransaction, State.modPort_modPort]
  rfl

/-- R189: an examination leaves a slot, and the reject mark as it stands. -/
theorem State.examine_slot (s : State) (p : Port) (message : List Byte) :
    ∃ slot, s.examine p message = s.modPort p fun r => { r with slot := slot } := by
  unfold State.examine
  split
  · exact ⟨_, rfl⟩
  · split
    · exact ⟨_, rfl⟩
    · split <;> exact ⟨_, rfl⟩

/-- What Table 11-4 gives the commands but LOAD_CHAIN in argument bytes. -/
def argumentSizes : List (Nat × Nat) :=
  [(0x01, 0), (0x02, 0), (0x03, 0), (0x04, 0), (0x05, 2), (0x06, 2), (0x07, 2), (0x08, 6), (0x09, 2), (0x0A, 1), (0x0B, 0),
    (0x0D, 0), (0x0E, 0), (0x0F, 0), (0x10, 1), (0x11, 2), (0x12, 0)]

/-- Another number of argument bytes spells no command. -/
theorem requestOfBytes_of_size {code : Byte} {args : List Byte} {size : Nat} (h : (code.toNat, size) ∈ argumentSizes)
    (hne : args.length ≠ size) : requestOfBytes code args = none := by
  have hcode : code = BitVec.ofNat 8 code.toNat := by rw [BitVec.ofNat_toNat, BitVec.setWidth_eq]
  rw [hcode]
  generalize code.toNat = c at h
  simp only [argumentSizes, List.mem_cons, Prod.mk.injEq, List.not_mem_nil, or_false] at h
  rcases h with ⟨rfl, rfl⟩ | ⟨rfl, rfl⟩ | ⟨rfl, rfl⟩ | ⟨rfl, rfl⟩ | ⟨rfl, rfl⟩ | ⟨rfl, rfl⟩ | ⟨rfl, rfl⟩ | ⟨rfl, rfl⟩ |
    ⟨rfl, rfl⟩ | ⟨rfl, rfl⟩ | ⟨rfl, rfl⟩ | ⟨rfl, rfl⟩ | ⟨rfl, rfl⟩ | ⟨rfl, rfl⟩ | ⟨rfl, rfl⟩ | ⟨rfl, rfl⟩ | ⟨rfl, rfl⟩
  all_goals
    match args, hne with
    | [], h => first | rfl | exact absurd rfl h
    | [_], h => first | rfl | exact absurd rfl h
    | [_, _], h => first | rfl | exact absurd rfl h
    | [_, _, _], h => rfl
    | [_, _, _, _], h => rfl
    | [_, _, _, _, _], h => rfl
    | [_, _, _, _, _, _], h => first | rfl | exact absurd rfl h
    | _ :: _ :: _ :: _ :: _ :: _ :: _ :: _, h => rfl

theorem code_of_argumentSizes {code : Byte} {size : Nat} (h : (code.toNat, size) ∈ argumentSizes) :
    1 ≤ code.toNat ∧ code.toNat ≤ 18 ∧ code ≠ 0x0C#8 := by
  have hrange : 1 ≤ code.toNat ∧ code.toNat ≤ 18 ∧ code.toNat ≠ 12 := by
    simp only [argumentSizes, List.mem_cons, Prod.mk.injEq, List.not_mem_nil, or_false] at h
    omega
  exact ⟨hrange.1, hrange.2.1, fun e => hrange.2.2 (by rw [e]; rfl)⟩

theorem chainLengthOk_eq {len : Byte} {args : List Byte} (hl : args.length = len.toNat)
    (h : ∀ count rest, args = count :: rest → args.length ≠ 1 + 16 * count.toNat) : chainLengthOk len args = false := by
  cases args with
  | nil => rfl
  | cons count rest =>
    rw [chainLengthOk, beq_eq_false_iff_ne, ← hl]
    exact h count rest rfl

/-- R189, step 1: a malformed message. -/
theorem formOf_of_malformed {message : List Byte} (h : message.length < 2 ∨ (∀ code len args, message = code :: len :: args →
    code.toNat = 0 ∨ 18 < code.toNat ∨ args.length ≠ len.toNat
      ∨ code = 0x0C#8 ∧ ∀ count rest, args = count :: rest → args.length ≠ 1 + 16 * count.toNat)) :
    formOf message = none := by
  match message with
  | [] => rfl
  | [_] => rfl
  | code :: len :: args =>
    rcases h with h | h
    · simp only [List.length_cons] at h
      omega
    · unfold formOf
      dsimp only
      split
      · rfl
      · rename_i hcode
        split
        · rfl
        · rename_i hlen
          have hform := (h code len args rfl).resolve_left (by omega)
          obtain ⟨hC, hcount⟩ := (hform.resolve_left (by omega)).resolve_left hlen
          exact if_pos ⟨hC, chainLengthOk_eq (not_not.1 hlen) hcount⟩

/-- Settles O26: the slot state decides first, then the form, the attachment and the arguments. -/
theorem commandTransactionRefuses : Obligations.CommandTransactionRefuses := by
  intro dt p message s
  let u := s.elapse dt
  have hexam : (s.ports.get p).slot = .idle → u.takeCommand p message = u.examine p message := fun hidle => by
    unfold State.takeCommand
    split
    · rfl
    · rename_i hne
      exact absurd hidle hne
  have hport : ∀ v : State, (v.endTransaction p (u.sentInCommand p message)).ports.get p
      = { v.ports.get p with
          sent := u.sentInCommand p message
          timer := (v.ports.get p).timer.map fun _ => v.time.localTime } := fun v => by
    simp [State.endTransaction]
  have done : ∀ code result data, (s.ports.get p).slot = .idle → u.examine p message = u.respond p code result data →
      (((u.takeCommand p message).endTransaction p (u.sentInCommand p message)).ports.get p).slot
        = .done { code := code, result := result, data := data } := fun code result data hidle he => by
    rw [hport, hexam hidle, he]
    simp [State.respond]
  obtain ⟨slot, reject, ht⟩ := u.takeCommand_transacted p message (u.sentInCommand p message)
  refine ⟨(u.takeCommand p message).endTransaction p (u.sentInCommand p message), rfl, by rw [ht]; rfl, ?_, fun hbusy => ?_,
    fun hidle => ?_, fun hidle hbad => ?_, fun r hm hwf hidle hd h1 h3 => ?_,
    fun code len args size hm hlen hidle hatt hsize hne => ?_⟩
  · rw [ht]
    simp [State.transacted, u]
  · have he : u.takeCommand p message = u.modPort p fun r => { r with reject := true } := by
      unfold State.takeCommand
      split
      · rename_i hidle
        exact absurd hidle hbusy
      · rfl
    rw [hport, he]
    simp [u]
  · obtain ⟨slot, he⟩ := u.examine_slot p message
    rw [hport, hexam hidle, he]
    simp [u]
  · refine done _ _ _ hidle ?_
    unfold State.examine
    rw [formOf_of_malformed hbad]
    rfl
  · refine done _ _ _ hidle ?_
    have hno : allowedDetached r.code = false := by
      rw [← Bool.not_eq_true, allowedDetached_code]
      exact not_or.2 ⟨h1, h3⟩
    unfold State.examine
    rw [hm, formOf_message hwf]
    exact if_pos ⟨hd, hno⟩
  · refine done _ _ _ hidle ?_
    obtain ⟨hlo, hhi, h0C⟩ := code_of_argumentSizes hsize
    have hform : formOf message = some (code, args) := by
      rw [hm]
      unfold formOf
      dsimp only
      rw [if_neg (by omega), if_neg (not_not.2 hlen), if_neg fun e => h0C e.1]
    have hallow : ¬ (u.attached p = false ∧ allowedDetached code = false) := by
      rintro ⟨hd, ha⟩
      rcases hatt with h | h | h
      · exact absurd (h.symm.trans hd) (by decide)
      · rw [h] at ha
        exact absurd ha (by decide)
      · rw [h] at ha
        exact absurd ha (by decide)
    have hnone : performable code args = none := by
      unfold performable
      rw [requestOfBytes_of_size hsize hne]
    unfold State.examine
    rw [hform]
    dsimp only
    rw [if_neg hallow, hnone]
    rfl

/-! ### RESPONSE and ignored transactions (R187, R190) -/

theorem Response.message_length (r : Response) : r.message.length = 4 + r.data.length := by
  simp only [Response.message, u8, u16, bytesBE, List.length_cons, List.length_append, List.length_nil]

/-- Settles O27: the held response is compared with what is clocked out. -/
theorem responseTransactionCollects : Obligations.ResponseTransactionCollects := by
  intro dt p clocked bytes s
  have hslot : ((s.elapse dt).ports.get p).slot = (s.ports.get p).slot := rfl
  refine ⟨fun r hr => ⟨fun hle => ?_, fun hlt => ?_⟩, fun hno => ?_, congrArg Host.Outcome.next ?_⟩
  · refine congrArg Host.Outcome.next ?_
    unfold State.takeResponse State.sentInResponse
    rw [hslot, hr]
    dsimp only
    rw [if_pos (by rw [r.message_length]; exact hle), List.take_of_length_le (by rw [r.message_length]; exact hle),
      State.endTransaction, State.modPort_modPort]
    rfl
  · refine congrArg Host.Outcome.next ?_
    unfold State.takeResponse State.sentInResponse
    rw [hslot, hr]
    dsimp only
    rw [if_neg (by rw [r.message_length]; omega)]
    rfl
  · refine congrArg Host.Outcome.next ?_
    unfold State.takeResponse State.sentInResponse
    rw [hslot]
    split
    · rename_i r hr
      exact absurd hr (hno r)
    · rfl
  · cases bytes <;> rfl

/-! ### Attention -/

theorem LineMode.byte (m : LineMode) : u8 m.num = [if m = .level then 0#8 else 1#8] := by cases m <;> rfl

theorem ClearMode.byte (m : ClearMode) : u8 m.num = [if m = .explicit then 0#8 else 1#8] := by cases m <;> rfl

theorem flagByte_eq (b : Bool) : flagByte b = [if b then 1#8 else 0#8] := by cases b <;> rfl

/-- R197: the answer of STATUS, field by field. -/
theorem State.statusData_eq (s : State) (p : Port) : s.statusData p = bytesBE 2 (s.attention.get p).pending.toNat
    ++ bytesBE 2 (s.attention.get p).mask.toNat
    ++ [if (s.attention.get p).lineMode = .level then 0#8 else 1#8,
      if (s.attention.get p).clearMode = .explicit then 0#8 else 1#8,
      BitVec.ofNat 8 ((s.attention.get p).changedBy.a.toNat + 2 * (s.attention.get p).changedBy.b.toNat),
      if s.attached p then 1#8 else 0#8, BitVec.ofNat 8 (s.notices p).length, if s.frozen then 1#8 else 0#8]
    ++ bytesBE 2 s.softResets := by
  unfold State.statusData
  dsimp only
  rw [LineMode.byte, ClearMode.byte, flagByte_eq, flagByte_eq]
  simp [classBytes, u16, u8, bytesBE, bitsByte]

/-- The classes but OFFER that stand among the pending ones are cleared together. -/
theorem pending_and_offer (x : ClassSet) : x &&& ~~~ (ClassSet.erase x .offer) = x &&& 1#10 := by
  refine BitVec.eq_of_getLsbD_eq fun i hi => ?_
  by_cases h0 : i = 0
  · subst h0
    simp [ClassSet.erase, AttnClass.only, AttnClass.bit]
  · simp [ClassSet.erase, AttnClass.only, AttnClass.bit, hi, h0]

theorem and_not_erase_offer (x c : ClassSet) : x &&& ~~~ (ClassSet.erase c .offer) = x &&& (~~~ c ||| 1#10) := by
  refine BitVec.eq_of_getLsbD_eq fun i hi => ?_
  by_cases h0 : i = 0
  · subst h0
    simp [ClassSet.erase, AttnClass.only, AttnClass.bit]
  · simp [ClassSet.erase, AttnClass.only, AttnClass.bit, hi, h0]

/-- Settles O29: the record is answered before it is cleared. -/
theorem statusReportsAndClears : Obligations.StatusReportsAndClears := by
  intro dt p s h
  have hrun : Runs (.status dt p) s _ := congrArg Host.Outcome.next (State.perform_given h dt _)
  refine ⟨_, hrun, rfl, ?_, ?_, fun hc => ?_, fun hc => ?_⟩
  · rw [← State.statusData_eq]
    rfl
  · simp [Answer.given, State.respond]
  · simp [Answer.given, State.respond, AttnRecord.read, hc]
  · simp [Answer.given, State.respond, AttnRecord.read, hc, AttnRecord.clearLatched, pending_and_offer, Pends]
    rfl

/-- A class set is empty exactly when no class is in it. -/
theorem ClassSet.ne_zero_iff (x : ClassSet) : x ≠ 0#10 ↔ ∃ c : AttnClass, ClassSet.has x c = true := by
  refine ⟨fun h => ?_, fun ⟨c, hc⟩ e => ?_⟩
  · by_contra hno
    refine h (BitVec.eq_of_getLsbD_eq fun i hi => ?_)
    obtain ⟨c, rfl⟩ : ∃ c : AttnClass, c.bit = i := by
      interval_cases i
      exacts [⟨.offer, rfl⟩, ⟨.tableFull, rfl⟩, ⟨.pickLost, rfl⟩, ⟨.excerptEnd, rfl⟩, ⟨.excerptFault, rfl⟩,
        ⟨.ringPressure, rfl⟩, ⟨.intakeFault, rfl⟩, ⟨.timeFault, rfl⟩, ⟨.mapFault, rfl⟩, ⟨.settingsChanged, rfl⟩]
    rw [BitVec.getLsbD_zero]
    exact Bool.eq_false_iff.2 fun hb => hno ⟨c, hb⟩
  · rw [e, ClassSet.has_zero] at hc
    cases hc

theorem ClassSet.has_unmasked (r : AttnRecord) (c : AttnClass) :
    ClassSet.has r.unmasked c = true ↔ ClassSet.has r.pending c = true ∧ ClassSet.has r.mask c = false := by
  rw [AttnRecord.unmasked, ClassSet.has_and_not, Bool.and_eq_true, Bool.not_eq_true']

/-- Settles O30: the classes named are a class set, and the line is that of the classes pending and unmasked. -/
theorem attentionIsClearedAsNamed : Obligations.AttentionIsClearedAsNamed := by
  refine ⟨fun dt p classes s h => ?_, fun dt p s start hp => congrArg Host.Outcome.next ?_, fun s p hl => ?_⟩
  · have hrun : Runs (.attnDone dt p classes) s _ := congrArg Host.Outcome.next (State.perform_given h dt _)
    by_cases hlt : classes.toNat < 1024
    · have hset : classSetOf classes.toNat = some (classes.setWidth 10) := by
        unfold classSetOf
        rw [if_neg (by omega)]
        rfl
      have hans : (s.elapse dt).answerAttnDone p classes.toNat
          = { state := (s.elapse dt).modAttention p (AttnRecord.clearLatched (classes.setWidth 10))
              result := .ok
              data := classBytes ((((s.elapse dt).modAttention p
                (AttnRecord.clearLatched (classes.setWidth 10))).attention.get p).pending) } := by
        unfold State.answerAttnDone
        rw [hset]
      rw [hans] at hrun
      refine ⟨_, hrun, rfl, by simp [Answer.given, State.respond], fun _ => ⟨?_, ?_⟩, fun hge => absurd hge (by omega)⟩
      · simp [Answer.given, State.respond, AttnRecord.clearLatched, and_not_erase_offer, ClassSet.has, AttnClass.bit]
        rfl
      · have hp : (((s.elapse dt).modAttention p (AttnRecord.clearLatched (classes.setWidth 10))).attention.get p).pending
            = (s.attention.get p).pending &&& (~~~ classes.setWidth 10 ||| 1#10) := by
          simp [AttnRecord.clearLatched, and_not_erase_offer]
        rw [← hp]
        exact Answer.answered _ rfl
    · have hans : (s.elapse dt).answerAttnDone p classes.toNat = (s.elapse dt).refuse .badArg := by
        unfold State.answerAttnDone classSetOf
        rw [if_pos (by omega)]
      rw [hans] at hrun
      exact ⟨_, hrun, rfl, rfl, fun h => absurd h hlt, fun _ => ⟨rfl, rfl⟩⟩
  · have hrec : (if (s.attention.get p).pulseOver (s.time.localTime + dt) then { s.attention.get p with pulse := none }
          else s.attention.get p)
        = { s.attention.get p with
            pulse := if start + 20 ≤ s.time.localTime + dt then none else some start } := by
      have hover : (s.attention.get p).pulseOver (s.time.localTime + dt)
          = decide (start + 20 ≤ s.time.localTime + dt) := by
        unfold AttnRecord.pulseOver
        rw [hp]
        rfl
      by_cases hdue : start + 20 ≤ s.time.localTime + dt
      · rw [hover, if_pos (decide_eq_true hdue), if_pos hdue]
      · rw [hover, if_neg (by simpa using hdue), if_neg hdue, ← hp]
    exact congrArg (fun a => { s.elapse dt with attention := s.attention.set p a }) hrec
  · simp only [State.attentionLine, AttnRecord.line, hl, decide_eq_true_eq, ClassSet.ne_zero_iff, ClassSet.has_unmasked]

/-! ### READ_PICK and READ_GROUP -/

theorem bytesBE_length (n v : Nat) : (bytesBE n v).length = n := by
  induction n with
  | zero => rfl
  | succ n ih => rw [bytesBE, List.length_cons, ih]

theorem field_length {α : Type} {n : Nat} {code : α → List Byte} (h : ∀ x, (code x).length = n) (o : Option α) :
    (field n code o).length = n := by
  cases o with
  | none => exact bytesBE_length n 0
  | some x => exact h x

theorem absBytes_length (t : AbsTime) : (absBytes t).length = 8 := by
  simp only [absBytes, u32, List.length_append, bytesBE_length]

/-- Table 11-5: 66 bytes. -/
theorem PickRecord.snapshot_length (r : PickRecord) : r.snapshot.length = 66 := by
  have hport := field_length (n := 1) (code := fun p => u8 (portNum p)) (fun _ => bytesBE_length _ _) r.retractedBy
  have hlocal := field_length (n := 8) (code := u64) (fun _ => bytesBE_length _ _) r.onsetLocal
  have habs := field_length absBytes_length r.onsetAbs
  have hpol := field_length (n := 1) (code := fun x => u8 (Polarity.num x)) (fun _ => bytesBE_length _ _) r.polarity
  have hsector := field_length (n := 1) (code := u8) (fun _ => bytesBE_length _ _) r.sector
  have hend := field_length (n := 6) (code := fun e => u48 (EndFields.endSample e)) (fun _ => bytesBE_length _ _) r.ending
  have hdur := field_length (n := 4) (code := fun e => u32 (EndFields.duration e)) (fun _ => bytesBE_length _ _) r.ending
  have hcause := field_length (n := 1) (code := fun e => u8 (EndFields.cause e).num) (fun _ => bytesBE_length _ _) r.ending
  have hgroup := field_length (n := 2) (code := u16) (fun _ => bytesBE_length _ _) r.grouping.group
  have h1 (n : Nat) : (u8 n).length = 1 := bytesBE_length 1 n
  have h2 (n : Nat) : (u16 n).length = 2 := bytesBE_length 2 n
  have h4 (n : Nat) : (u32 n).length = 4 := bytesBE_length 4 n
  have h6 (n : Nat) : (u48 n).length = 6 := bytesBE_length 6 n
  have hflags : r.flags.byte.length = 1 := rfl
  unfold PickRecord.snapshot
  simp only [List.length_append, List.length_cons, List.length_nil, hport, hlocal, habs, hpol, hsector, hend, hdur,
    hcause, hgroup, h1, h2, h4, h6, hflags]

theorem Member.bytes_length (m : Member) : m.bytes.length = 4 := by
  simp only [Member.bytes, List.length_append, u8, u16, bytesBE_length]

theorem flatMap_memberBytes_length (l : List Member) : (l.flatMap Member.bytes).length = 4 * l.length := by
  induction l with
  | nil => rfl
  | cons m rest ih => rw [List.flatMap_cons, List.length_append, ih, m.bytes_length, List.length_cons]; omega

/-- Table 11-6: 36 bytes, and 4 for each member. -/
theorem GroupRecord.snapshot_length (g : GroupRecord) : g.snapshot.length = 36 + 4 * g.members.length := by
  have habs := field_length absBytes_length g.firstAbs
  have hlocal := field_length (n := 8) (code := u64) (fun _ => bytesBE_length _ _) g.declareTime
  simp only [GroupRecord.snapshot, List.length_append, List.length_cons, List.length_nil, habs, hlocal,
    flatMap_memberBytes_length]
  simp only [u8, u16, u64, bytesBE_length]

theorem State.findPick_eq_none {s : State} {id : Nat} (h : ∀ r ∈ s.table.records, r.id ≠ id) : s.findPick id = none :=
  List.find?_eq_none.2 fun r hr => by simpa using h r hr

theorem State.findGroup_eq_none {s : State} {id : Nat} (h : ∀ g ∈ s.grouper.groups, g.id ≠ id) : s.findGroup id = none :=
  List.find?_eq_none.2 fun g hg => by simpa using h g hg

/-- Settles O33: both reads answer from the record as it stands. -/
theorem snapshotsAreReadWithoutChange : Obligations.SnapshotsAreReadWithoutChange := by
  refine fun dt p id s => ⟨fun h => ?_, fun h => ?_⟩
  · have hrun : Runs (.readPick dt p id) s _ := congrArg Host.Outcome.next (State.perform_given h dt _)
    refine ⟨_, hrun, ?_, fun r hr => ?_, fun hno => ?_⟩
    · unfold State.answerReadPick
      split <;> rfl
    · have hf : (s.elapse dt).findPick id.toNat = some r := hr
      unfold State.answerReadPick
      rw [hf]
      exact ⟨rfl, r.snapshot_length⟩
    · have hf : (s.elapse dt).findPick id.toNat = none := State.findPick_eq_none hno
      unfold State.answerReadPick
      rw [hf]
      rfl
  · have hrun : Runs (.readGroup dt p id) s _ := congrArg Host.Outcome.next (State.perform_given h dt _)
    refine ⟨_, hrun, ?_, fun g hg => ?_, fun hno => ?_⟩
    · unfold State.answerReadGroup
      split <;> rfl
    · have hf : (s.elapse dt).findGroup id.toNat = some g := hg
      unfold State.answerReadGroup
      rw [hf]
      exact ⟨rfl, g.snapshot_length⟩
    · have hf : (s.elapse dt).findGroup id.toNat = none := State.findGroup_eq_none hno
      unfold State.answerReadGroup
      rw [hf]
      rfl

end Sys2Proof.Machine


/-! PROOFS. The Settings Window: SET of every kind of index. -/

namespace Sys2Proof.Machine

/-! ### Clamping -/

theorem clampNat_eq {lo hi : Nat} (h : lo ≤ hi) (x : Nat) : clampNat lo hi x = max lo (min hi x) := by
  unfold clampNat
  split
  · omega
  · split <;> omega

theorem saturate_eq {lo hi : Int} (h : lo ≤ hi) (x : Int) : saturate lo hi x = max lo (min hi x) := by
  unfold saturate
  split
  · omega
  · split <;> omega

/-! ### The answer to a SET (R201) -/

/-- A SET of a setting's own index answers from the store of that setting. -/
theorem set_runs {s : State} {p : Port} {i : SettingIndex} {v : BitVec 32} (dt : Nat)
    (h : Holds s p (.set (encodeIndex i) v)) : Runs (.set dt p (encodeIndex i) v) s
      (((s.elapse dt).answerSet p i ((s.elapse dt).storeSetting p i v)).given p 0x08#8) := by
  refine congrArg Host.Outcome.next ((State.perform_given h dt _).trans ?_)
  rw [decodeIndex_encodeIndex]
  rfl

/-- A store that FREEZE has not closed answers the value stored; a shared setting is announced (R199). -/
theorem State.answerSet_open {s s' : State} {i : SettingIndex} {x : BitVec 32}
    (h : s.frozen = false ∨ frozenIndex i = false) (p : Port) :
    s.answerSet p i (some (s', x))
      = { state := if portLocal i then s' else s'.settingsChanged p, result := .ok, data := setData i x } := by
  have hno : ¬ (s.frozen = true ∧ frozenIndex i = true) := fun ⟨hf, hi⟩ => by
    rcases h with h | h
    · exact absurd (hf.symm.trans h) (by decide)
    · exact absurd (hi.symm.trans h) (by decide)
  exact if_neg hno

theorem State.answerSet_frozen {s s' : State} {i : SettingIndex} {x : BitVec 32}
    (h : s.frozen = true) (hi : frozenIndex i = true) (p : Port) :
    s.answerSet p i (some (s', x)) = s.refuse .frozen := if_pos ⟨h, hi⟩

/-- R199: the write of a shared setting is announced. -/
theorem State.settingsChanged_announced {s s' : State} (h : s'.attention = s.attention) (p : Port) (code : Byte)
    (result : Result) (data : List Byte) : Announced s ((Answer.mk (s'.settingsChanged p) result data).given p code) p := by
  have hatt : ((Answer.mk (s'.settingsChanged p) result data).given p code).attention
      = settingsNews s'.time.localTime p s.attention := by
    rw [← h]
    rfl
  obtain ⟨hp, ho⟩ := settingsNews_get s'.time.localTime p s.attention
  unfold Announced
  rw [hatt, hp, ho]
  refine ⟨fun q => ?_, rfl, rfl, fun q => ?_⟩
  · rcases Port.eq_or_other p q with rfl | rfl
    · rw [hp]
      rfl
    · rw [ho]
      rfl
  · rcases Port.eq_or_other p q with rfl | rfl
    · rw [hp]
      exact ⟨rfl, rfl, rfl⟩
    · rw [ho]
      exact ⟨rfl, rfl, rfl⟩

/-- The store of a shared setting: announced, and answered with the value stored. -/
theorem State.shared_set {s s' : State} {i : SettingIndex} {x : BitVec 32} {dt : Nat} {p : Port}
    (hopen : s.frozen = false ∨ frozenIndex i = false) (hshared : portLocal i = false)
    (hports : s'.ports = s.ports) (hatt : s'.attention = s.attention) :
    ∃ t, ((s.elapse dt).answerSet p i (some (s', x))).given p 0x08#8 = t
      ∧ t = { s' with ports := t.ports, attention := t.attention }
      ∧ Announced s t p ∧ Answered s t p 0x08#8 .ok (setData i x) := by
  have hans : (s.elapse dt).answerSet p i (some (s', x))
      = { state := s'.settingsChanged p, result := .ok, data := setData i x } := by
    rw [State.answerSet_open (s := s.elapse dt) hopen, hshared]
    rfl
  rw [hans]
  exact ⟨_, rfl, rfl, State.settingsChanged_announced hatt p _ _ _, Answer.answered _ hports⟩

/-- The store of a port-local setting: answered with the value stored, also after FREEZE, and not announced. -/
theorem State.local_set {s s' : State} {i : SettingIndex} {x : BitVec 32} {dt : Nat} {p : Port}
    (hopen : frozenIndex i = false) (hlocal : portLocal i = true) :
    ((s.elapse dt).answerSet p i (some (s', x))).given p 0x08#8 = (Answer.mk s' .ok (setData i x)).given p 0x08#8 := by
  rw [State.answerSet_open (s := s.elapse dt) (.inr hopen), hlocal]
  rfl

/-! ### Refusals -/

theorem storeSetting_status {i : SettingIndex} (h : i.area = 0x78 ∨ 0x70 ≤ i.area ∧ i.area ≤ 0x73) (s : State) (p : Port)
    (v : BitVec 32) : s.storeSetting p i v = none := by
  cases i
  case correction sen _ | detector sen _ _ | refinement sen _ => cases sen <;> simp [SettingIndex.area, Sensor.num] at h
  case intakeStatus | ringStatus | detectorStatus => rfl
  case timeStatus | refinerStatus | tableStatus | groupingStatus | offerStatus | chainStatus => rfl
  all_goals simp [SettingIndex.area] at h

/-- Settles O37: such an index has no store, or FREEZE closes it. -/
theorem refusedSetStoresNothing : Obligations.RefusedSetStoresNothing := by
  intro dt p index v s h
  have hrun : Runs (.set dt p index v) s _ := congrArg Host.Outcome.next (State.perform_given h dt _)
  refine ⟨fun hi => ⟨_, hrun, ?_⟩, fun hf hi => ⟨_, hrun, ?_⟩⟩
  · rcases hi with hi | ⟨i, hi, harea⟩
    · rw [hi]
      exact State.refuse_given s dt p _ _
    · rw [hi]
      dsimp only
      rw [storeSetting_status harea]
      exact State.refuse_given s dt p _ _
  · have hf' : (s.elapse dt).frozen = true := hf
    rcases hi with ⟨sen, item, hi⟩ | ⟨sen, ch, item, hi⟩ | ⟨item, hi⟩
    · rw [hi]
      dsimp only [State.storeSetting, State.storeRefinement]
      rw [State.answerSet_frozen hf' rfl]
      exact State.refuse_given s dt p _ _
    · rw [hi]
      dsimp only [State.storeSetting, State.storeDetector]
      rw [State.answerSet_frozen hf' rfl]
      exact State.refuse_given s dt p _ _
    · rw [hi]
      dsimp only [State.storeSetting, State.storeGrouping]
      rw [State.answerSet_frozen hf' rfl]
      exact State.refuse_given s dt p _ _

/-! ### The quality thresholds (R83) -/

/-- R83: with its neighbours in order, a threshold written keeps the order. -/
theorem clampThreshold_order (g : RefinementGroup) (h21 : g.q2 < g.q1) (h10 : g.q1 < g.q0) (h0 : g.q0 ≤ 65535)
    (which : Threshold) (x : Nat) :
    let new := g.write (.threshold which) (g.clampThreshold which x)
    new.q2 < new.q1 ∧ new.q1 < new.q0 ∧ new.q0 ≤ 65535
      ∧ new = match which with
        | .q0 => { g with q0 := max (g.q1 + 1) (min x 65535) }
        | .q1 => { g with q1 := max (g.q2 + 1) (min x (g.q0 - 1)) }
        | .q2 => { g with q2 := min x (g.q1 - 1) } := by
  cases which with
  | q0 =>
    have hq : min (max x (g.q1 + 1)) 65535 = max (g.q1 + 1) (min x 65535) := by omega
    simp only [RefinementGroup.write, RefinementGroup.clampThreshold, hq, and_true]
    omega
  | q1 =>
    have hq : clampNat (g.q2 + 1) (g.q0 - 1) x = max (g.q2 + 1) (min x (g.q0 - 1)) := by
      rw [clampNat_eq (by omega)]
      omega
    simp only [RefinementGroup.write, RefinementGroup.clampThreshold, hq, and_true]
    omega
  | q2 =>
    simp only [RefinementGroup.write, RefinementGroup.clampThreshold, and_true]
    omega

theorem refinementValue_write (g : RefinementGroup) (item : RefinementItem) (x : Nat) :
    refinementValue (g.write item x) item = x := by
  cases item
  case threshold which => cases which <;> rfl
  all_goals rfl

/-- Settles O38: the threshold written is clamped between its neighbours. -/
theorem qualityThresholdsKeepOrder : Obligations.QualityThresholdsKeepOrder := by
  intro dt p sen which v s hf h h21 h10 h0 old
  have hrun : Runs (.setQualityThreshold dt p sen which v) s _ :=
    congrArg Host.Outcome.next (State.perform_given h dt _)
  obtain ⟨t, ht, hrest, hann, hansw⟩ := State.shared_set (s := s) (dt := dt) (p := p)
    (i := .refinement sen (.threshold which)) (x := BitVec.ofNat 32 (old.clampThreshold which v.toNat))
    (s' := { s.elapse dt with refiner := { s.refiner with groups := (s.refiner.groups.set sen
      { s.refiner.groups.get sen with staged := old.write (.threshold which) (old.clampThreshold which v.toNat) }) } })
    (.inl hf) rfl rfl rfl
  have hgroups : t.refiner.groups = s.refiner.groups.set sen
      { s.refiner.groups.get sen with staged := old.write (.threshold which) (old.clampThreshold which v.toNat) } := by
    rw [hrest]
  refine ⟨t, hrun.trans (congrArg Host.Outcome.next ht), ?_, ?_, fun other hne => ?_, ?_, hann, ?_⟩
  · rw [hgroups]
    exact hrest
  · rw [hgroups, PerSensor.get_set]
  · rw [hgroups, PerSensor.get_set_ne _ _ hne]
  · rw [hgroups, PerSensor.get_set]
    exact clampThreshold_order old h21 h10 h0 which v.toNat
  · rw [hgroups, PerSensor.get_set, refinementValue_write]
    exact hansw

/-! ### Enumerated values (R208) -/

theorem ArbiterMode.lookup (n : Nat) :
    ([(0, .rotating), (1, .fixed)] : List (Nat × ArbiterMode)).lookup n = ArbiterMode.ofNum n := by
  rcases n with _ | _ | n <;> rfl

theorem ReadPolicy.lookup (n : Nat) :
    ([(0, .refinerFirst), (1, .equal)] : List (Nat × ReadPolicy)).lookup n = ReadPolicy.ofNum n := by
  rcases n with _ | _ | n <;> rfl

theorem autoClear_lookup (n : Nat) : ([(0, false), (1, true)] : List (Nat × Bool)).lookup n = autoClearOfNum n := by
  rcases n with _ | _ | n <;> rfl

theorem LineMode.lookup (n : Nat) :
    ([(0, .level), (1, .pulse)] : List (Nat × LineMode)).lookup n = LineMode.ofNum n := by
  rcases n with _ | _ | n <;> rfl

theorem ClearMode.lookup (n : Nat) :
    ([(0, .explicit), (1, .onRead)] : List (Nat × ClearMode)).lookup n = ClearMode.ofNum n := by
  rcases n with _ | _ | n <;> rfl

theorem OfferMode.lookup (n : Nat) :
    ([(0, .all), (1, .grouped)] : List (Nat × OfferMode)).lookup n = OfferMode.ofNum n := by
  rcases n with _ | _ | n <;> rfl

theorem Rate.lookup (n : Nat) :
    ([(0, .off), (1, .r50), (2, .r100), (3, .r200)] : List (Nat × Rate)).lookup n = Rate.ofNum n := by
  rcases n with _ | _ | _ | _ | n <;> rfl

theorem ArbiterMode.ofNum_fits (n : Nat) : (ArbiterMode.ofNum n).isSome = decide (n < 2) := by
  rcases n with _ | _ | n <;> simp [ArbiterMode.ofNum]

theorem ReadPolicy.ofNum_fits (n : Nat) : (ReadPolicy.ofNum n).isSome = decide (n < 2) := by
  rcases n with _ | _ | n <;> simp [ReadPolicy.ofNum]

theorem autoClearOfNum_fits (n : Nat) : (autoClearOfNum n).isSome = decide (n < 2) := by
  rcases n with _ | _ | n <;> simp [autoClearOfNum]

theorem Rate.ofNum_fits (n : Nat) : (Rate.ofNum n).isSome = decide (n < 4) := by
  rcases n with _ | _ | _ | _ | n <;> simp [Rate.ofNum]

/-- R201, R208: an enumerated setting that no port owns alone, by the store of its members. -/
theorem State.enumerated_set {α : Type} {s : State} {dt bound n : Nat} {p : Port} {i : SettingIndex} {v : BitVec 32}
    {member : Option α} {store : α → State} (hshared : portLocal i = false)
    (hfits : member.isSome = decide (n < bound)) (hports : ∀ m, (store m).ports = s.ports)
    (hatt : ∀ m, (store m).attention = s.attention) :
    let t := ((s.elapse dt).answerSet p i (member.map fun m => (store m, v))).given p 0x08#8
    (n < bound → s.frozen = true → frozenIndex i = true →
        t = { s.elapse dt with ports := t.ports } ∧ Answered s t p 0x08#8 .frozen [])
      ∧ (bound ≤ n → t = { s.elapse dt with ports := t.ports } ∧ Answered s t p 0x08#8 .badArg [])
      ∧ ∀ m, member = some m → s.frozen = false ∨ frozenIndex i = false →
        t = { store m with ports := t.ports, attention := t.attention }
          ∧ Announced s t p ∧ Answered s t p 0x08#8 .ok (setData i v) := by
  intro t
  refine ⟨fun hn hf hi => ?_, fun hn => ?_, fun m hm hopen => ?_⟩
  · obtain ⟨m, hm⟩ := Option.isSome_iff_exists.1 (hfits.trans (decide_eq_true hn))
    have ht : t = ((s.elapse dt).refuse .frozen).given p 0x08#8 := by
      change ((s.elapse dt).answerSet p i _).given p _ = _
      rw [hm, Option.map_some, State.answerSet_frozen (s := s.elapse dt) hf hi]
    rw [ht]
    exact State.refuse_given s dt p _ _
  · have hno : member = none := Option.not_isSome_iff_eq_none.1 fun hs =>
      absurd (of_decide_eq_true (hfits.symm.trans hs)) (Nat.not_lt.2 hn)
    have ht : t = ((s.elapse dt).refuse .badArg).given p 0x08#8 := by
      change ((s.elapse dt).answerSet p i _).given p _ = _
      rw [hno]
      rfl
    rw [ht]
    exact State.refuse_given s dt p _ _
  · obtain ⟨u, hu, hrest⟩ := State.shared_set (s := s) (dt := dt) (p := p) (i := i) (x := v) (s' := store m)
      hopen hshared (hports m) (hatt m)
    have ht : t = u := by
      rw [← hu]
      change ((s.elapse dt).answerSet p i _).given p _ = _
      rw [hm]
      rfl
    rw [ht]
    exact hrest

/-! ### The part-wide settings that are no group -/

theorem PageSize.ofValue_eq (n : Nat) : (n ≤ 128 → PageSize.ofValue n = .p128)
    ∧ (128 < n → n ≤ 256 → PageSize.ofValue n = .p256) ∧ (256 < n → PageSize.ofValue n = .p512) := by
  unfold PageSize.ofValue
  refine ⟨fun h => if_pos h, fun h h' => ?_, fun h => ?_⟩
  · rw [if_neg (by omega), if_pos h']
  · rw [if_neg (by omega), if_neg (by omega)]

/-- Settles O39: each of the five settings by its own store. -/
theorem partWideSettingsAreStored : Obligations.PartWideSettingsAreStored := by
  intro dt p v s
  refine ⟨fun h => ?_, fun h => ?_, fun h => ?_, fun h => ?_, fun h => ?_⟩
  · have hrun : Runs (.setPageSize dt p v) s _ := congrArg Host.Outcome.next (State.perform_given h dt _)
    refine ⟨_, hrun, fun hf => ?_, fun hf => ?_⟩
    · unfold State.storePageSize
      dsimp only
      rw [State.answerSet_frozen (s := s.elapse dt) hf rfl]
      exact State.refuse_given s dt p _ _
    · obtain ⟨t, ht, hrest, hann, hansw⟩ := State.shared_set (s := s) (dt := dt) (p := p) (i := .pageSize)
        (x := BitVec.ofNat 32 (PageSize.ofValue v.toNat).sets)
        (s' := { s.elapse dt with pageSize := { s.pageSize with staged := PageSize.ofValue v.toNat } })
        (.inl hf) rfl rfl rfl
      have hsize : t.pageSize = { s.pageSize with staged := PageSize.ofValue v.toNat } := by rw [hrest]
      have ht' : ((s.elapse dt).answerSet p .pageSize ((s.elapse dt).storePageSize v)).given p 0x08#8 = t := ht
      rw [show (Request.set (encodeIndex .pageSize) v).code = 0x08#8 from rfl, ht', hsize]
      exact ⟨hrest, rfl, hann, hansw, PageSize.ofValue_eq _⟩
  · have hrun : Runs (.setAgingLimit dt p v) s _ := congrArg Host.Outcome.next (State.perform_given h dt _)
    refine ⟨_, hrun, fun hf => ?_, fun hf => ?_⟩
    · unfold State.storeAgingLimit
      dsimp only
      rw [State.answerSet_frozen (s := s.elapse dt) hf rfl]
      exact State.refuse_given s dt p _ _
    · obtain ⟨t, ht, hrest, hann, hansw⟩ := State.shared_set (s := s) (dt := dt) (p := p) (i := .agingLimit)
        (x := BitVec.ofNat 32 (clampNat 0 15 v.toNat))
        (s' := { s.elapse dt with refiner := { s.refiner with aging := clampNat 0 15 v.toNat } })
        (.inl hf) rfl rfl rfl
      have ht' : ((s.elapse dt).answerSet p .agingLimit ((s.elapse dt).storeAgingLimit v)).given p 0x08#8 = t := ht
      have hclamp : clampNat 0 15 v.toNat = min v.toNat 15 := by
        rw [clampNat_eq (by decide)]
        omega
      rw [hclamp] at hrest hansw
      rw [show (Request.set (encodeIndex .agingLimit) v).code = 0x08#8 from rfl, ht']
      exact ⟨hrest, hann, hansw⟩
  · have hrun : Runs (.setArbiterMode dt p v) s _ := congrArg Host.Outcome.next (State.perform_given h dt _)
    obtain ⟨hfrozen, hbad, hstored⟩ := State.enumerated_set (s := s) (dt := dt) (p := p) (i := .arbiterMode) (v := v)
      (store := fun m => { s.elapse dt with refiner := { s.refiner with mode := m } })
      rfl (ArbiterMode.ofNum_fits v.toNat) (fun _ => rfl) (fun _ => rfl)
    exact ⟨_, hrun, fun hn hf => hfrozen hn hf rfl, hbad, fun m hm hf =>
      hstored m ((ArbiterMode.lookup _).symm.trans hm) (.inl hf)⟩
  · have hrun : Runs (.setRingReadPolicy dt p v) s _ := congrArg Host.Outcome.next (State.perform_given h dt _)
    obtain ⟨hfrozen, hbad, hstored⟩ := State.enumerated_set (s := s) (dt := dt) (p := p) (i := .ringReadPolicy) (v := v)
      (store := fun m => { s.elapse dt with arbiter := { s.arbiter with policy := m } })
      rfl (ReadPolicy.ofNum_fits v.toNat) (fun _ => rfl) (fun _ => rfl)
    exact ⟨_, hrun, fun hn hf => hfrozen hn hf rfl, hbad, fun m hm hf =>
      hstored m ((ReadPolicy.lookup _).symm.trans hm) (.inl hf)⟩
  · have hrun : Runs (.setIntakeAutoClear dt p v) s _ := congrArg Host.Outcome.next (State.perform_given h dt _)
    obtain ⟨-, hbad, hstored⟩ := State.enumerated_set (s := s) (dt := dt) (p := p) (i := .intakeAutoClear) (v := v)
      (store := fun b => { s.elapse dt with autoClear := b })
      rfl (autoClearOfNum_fits v.toNat) (fun _ => rfl) (fun _ => rfl)
    exact ⟨_, hrun, hbad, fun b hb => hstored b ((autoClear_lookup _).symm.trans hb) (.inr rfl)⟩

/-! ### The port-local settings -/

/-- R195, R196: the mask releases a class when it was masked while pending and the new mask leaves it out. -/
theorem released_iff (r : AttnRecord) (m : ClassSet) : r.pending &&& r.mask &&& ~~~ m ≠ 0#10
    ↔ ∃ c : AttnClass, ClassSet.has r.pending c = true ∧ ClassSet.has r.mask c = true ∧ m.getLsbD c.bit = false := by
  rw [ClassSet.ne_zero_iff]
  refine exists_congr fun c => ?_
  rw [ClassSet.has_and_not, Bool.and_eq_true, Bool.not_eq_true']
  unfold ClassSet.has
  rw [BitVec.getLsbD_and, Bool.and_eq_true, and_assoc]

/-- R195, R196: the pulse that a new mask starts, where the line was quiet. -/
theorem AttnRecord.setMask_pulse {r : AttnRecord} (hl : r.lineMode = .pulse) (hp : r.pulse = none) (now : Nat)
    (v : BitVec 32) : (r.setMask now (v.setWidth 10)).pulse = some now
      ↔ ∃ c : AttnClass, ClassSet.has r.pending c = true ∧ ClassSet.has r.mask c = true ∧ v.getLsbD c.bit = false := by
  have hbit (c : AttnClass) : (v.setWidth 10).getLsbD c.bit = v.getLsbD c.bit := by
    rw [BitVec.getLsbD_setWidth]
    cases c <;> rfl
  simp only [← hbit]
  rw [← released_iff]
  simp only [AttnRecord.setMask, AttnRecord.pulseNow, hl, hp]
  split
  · next h0 => simp [h0]
  · next h0 => simp [h0]

/-- R191: the silence timer runs while its timeout is not 0, at an ATTACHED port. -/
theorem silenceTimer_eq (s : State) (p : Port) (v : BitVec 32) (now : Nat) :
    (if min v.toNat 255 ≠ 0 ∧ s.attached p = true then some now else none)
      = if v = 0#32 ∨ s.attached p = false then none else some now := by
  have hz : min v.toNat 255 = 0 ↔ v = 0#32 := by
    rw [← BitVec.toNat_inj]
    simp
  rw [← ite_not]
  refine if_congr ?_ rfl rfl
  rw [not_and_or, not_not, hz, Bool.not_eq_true]

section
variable {s : State} {p : Port} {v : BitVec 32} {dt : Nat}

theorem State.storeMask_fits (hv : v.toNat < 1024) : s.storeMask p v
    = some (s.modAttention p (AttnRecord.setMask s.time.localTime (v.setWidth 10)), v) := by
  unfold State.storeMask classSetOf
  rw [if_neg (by omega)]
  rfl

theorem State.storeLineMode_fits {m : LineMode}
    (hm : ([(0, .level), (1, .pulse)] : List (Nat × LineMode)).lookup v.toNat = some m) :
    s.storeLineMode p v = some (s.modAttention p (AttnRecord.setLineMode m), v) := by
  unfold State.storeLineMode
  rw [← LineMode.lookup, hm]
  rfl

theorem State.storeClearMode_fits {m : ClearMode}
    (hm : ([(0, .explicit), (1, .onRead)] : List (Nat × ClearMode)).lookup v.toNat = some m) :
    s.storeClearMode p v = some (s.modAttention p fun r => { r with clearMode := m }, v) := by
  unfold State.storeClearMode
  rw [← ClearMode.lookup, hm]
  rfl

theorem State.storeOfferMode_fits {m : OfferMode}
    (hm : ([(0, .all), (1, .grouped)] : List (Nat × OfferMode)).lookup v.toNat = some m) :
    s.storeOfferMode p v = some (s.modOffers p fun r => { r with setting := m }, v) := by
  unfold State.storeOfferMode
  rw [← OfferMode.lookup, hm]
  rfl

/-- A row that sets a port-local item runs to the store of its value. -/
theorem local_set_runs {i : Instr} {item : SettingIndex} {stored : Option (State × BitVec 32)} {u : State}
    {x : BitVec 32} (hrun : exec i s = .next (((s.elapse dt).answerSet p item stored).given p 0x08#8))
    (hstored : stored = some (u, x)) (hopen : frozenIndex item = false) (hlocal : portLocal item = true) :
    Runs i s ((Answer.mk u .ok (setData item x)).given p 0x08#8) := by
  rw [hstored, State.local_set hopen hlocal] at hrun
  exact hrun

end

/-- Settles O40: each store concerns the record of the commanding port alone. -/
theorem portLocalSettingsStayLocal : Obligations.PortLocalSettingsStayLocal := by
  intro dt p v s
  refine ⟨fun hv h => ?_, fun m hm h => ?_, fun m hm h => ?_, fun h => ?_, fun m hm h => ?_⟩
  · have hstore : (s.elapse dt).storeMask p v = some ((s.elapse dt).modAttention p
        (AttnRecord.setMask (s.time.localTime + dt) (v.setWidth 10)), v) := State.storeMask_fits hv
    have hrun := local_set_runs (i := .setMask dt p v) (congrArg Host.Outcome.next (State.perform_given h dt _))
      hstore rfl rfl
    have hatt : ((Answer.mk ((s.elapse dt).modAttention p (AttnRecord.setMask (s.time.localTime + dt) (v.setWidth 10)))
        .ok (setData .mask v)).given p 0x08#8).attention
        = s.attention.set p ((s.attention.get p).setMask (s.time.localTime + dt) (v.setWidth 10)) := rfl
    refine ⟨_, hrun, rfl, ?_, ?_, fun hl hp => ?_, Answer.answered _ rfl⟩
    · rw [hatt, PerPort.get_set]
      rfl
    · rw [hatt, PerPort.get_set_other]
    · rw [hatt, PerPort.get_set]
      exact AttnRecord.setMask_pulse hl hp _ v
  · have hrun := local_set_runs (i := .setLineMode dt p v) (congrArg Host.Outcome.next (State.perform_given h dt _))
      (State.storeLineMode_fits (s := s.elapse dt) hm) rfl rfl
    have hatt : ((Answer.mk ((s.elapse dt).modAttention p (AttnRecord.setLineMode m)) .ok
        (setData .lineMode v)).given p 0x08#8).attention
        = s.attention.set p ((s.attention.get p).setLineMode m) := rfl
    refine ⟨_, hrun, rfl, ?_, fun hne => ?_, ?_, Answer.answered _ rfl⟩
    · rw [hatt, PerPort.get_set]
      rfl
    · rw [hatt, PerPort.get_set]
      exact if_neg (Ne.symm hne)
    · rw [hatt, PerPort.get_set_other]
  · exact ⟨_, local_set_runs (i := .setClearMode dt p v) (congrArg Host.Outcome.next (State.perform_given h dt _))
      (State.storeClearMode_fits (s := s.elapse dt) hm) rfl rfl, rfl, rfl, Answer.answered _ rfl⟩
  · have hclamp : clampNat 0 255 v.toNat = min v.toNat 255 := by
      rw [clampNat_eq (by decide)]
      omega
    have hrun := local_set_runs (i := .setSilenceTimeout dt p v)
      (congrArg Host.Outcome.next (State.perform_given h dt _)) rfl rfl rfl
    rw [hclamp] at hrun
    refine ⟨_, hrun, rfl, ?_⟩
    rw [← silenceTimer_eq]
    simp only [Answer.given, State.respond, State.modPort, PerPort.get_set, PerPort.set_set]
    rfl
  · exact ⟨_, local_set_runs (i := .setOfferMode dt p v) (congrArg Host.Outcome.next (State.perform_given h dt _))
      (State.storeOfferMode_fits (s := s.elapse dt) hm) rfl rfl, rfl, rfl, Answer.answered _ rfl⟩

end Sys2Proof.Machine


/-! PROOFS. The Settings Window: the items of the setting groups, and the values that GET answers. -/

namespace Sys2Proof.Machine

/-! ### Writing and reading one item -/

theorem channelValue_write (c : ChannelSettings) (item : ChannelItem) (x : Nat) : channelValue (c.write item x) item = x := by
  cases item <;> rfl

theorem channelValue_write_ne (c : ChannelSettings) {item item' : ChannelItem} (h : item' ≠ item) (x : Nat) :
    channelValue (c.write item x) item' = channelValue c item' := by
  cases item <;> cases item' <;> first | rfl | exact absurd rfl h

theorem groupingValue_write (g : GroupingGroup) (item : GroupingItem) (x : Nat) :
    groupingValue (g.write item x) item = x := by
  cases item <;> rfl

theorem groupingValue_write_ne (g : GroupingGroup) {item item' : GroupingItem} (h : item' ≠ item) (x : Nat) :
    groupingValue (g.write item x) item' = groupingValue g item' := by
  cases item <;> cases item' <;> first | rfl | exact absurd rfl h

theorem refinementValue_write_threshold (g : RefinementGroup) {which : Threshold} {item : RefinementItem}
    (h : item ≠ .threshold which) (x : Nat) :
    refinementValue (g.write (.threshold which) x) item = refinementValue g item := by
  cases item with
  | threshold which' => cases which <;> cases which' <;> first | rfl | exact absurd rfl h
  | _ => cases which <;> rfl

theorem refinementValue_write_ne (g : RefinementGroup) {item item' : RefinementItem} (h : item' ≠ item) (x : Nat) :
    refinementValue (g.write item x) item' = refinementValue g item' := by
  cases item with
  | threshold which => exact refinementValue_write_threshold g h x
  | _ =>
    cases item' with
    | threshold which' => cases which' <;> rfl
    | _ => first | rfl | exact absurd rfl h

/-! ### The ranges of the tables -/

theorem channelRange_of_mem {item : ChannelItem} {lo hi : Nat} (h : (item, lo, hi) ∈ ([(.staShift, 1, 8),
    (.ltaShift, 3, 14), (.onThreshold, 256, 65535), (.offThreshold, 128, 65535), (.holdOff, 0, 65535),
    (.maxTrigger, 100, 65535), (.ltaFloor, 1, 4294967295)] : List (ChannelItem × Nat × Nat))) :
    channelRange item = (lo, hi) ∧ lo ≤ hi := by
  simp only [List.mem_cons, Prod.mk.injEq, List.not_mem_nil, or_false] at h
  obtain ⟨rfl, rfl, rfl⟩ | ⟨rfl, rfl, rfl⟩ | ⟨rfl, rfl, rfl⟩ | ⟨rfl, rfl, rfl⟩ | ⟨rfl, rfl, rfl⟩ | ⟨rfl, rfl, rfl⟩
    | ⟨rfl, rfl, rfl⟩ := h <;> exact ⟨rfl, by decide⟩

theorem groupingRange_of_mem {item : GroupingItem} {lo hi : Nat} (h : (item, lo, hi) ∈ ([(.qmax, 0, 3), (.count, 1, 4),
    (.pWindow, 10, 2000), (.sWindow, 500, 60000)] : List (GroupingItem × Nat × Nat))) :
    groupingRange item = (lo, hi) ∧ lo ≤ hi := by
  simp only [List.mem_cons, Prod.mk.injEq, List.not_mem_nil, or_false] at h
  obtain ⟨rfl, rfl, rfl⟩ | ⟨rfl, rfl, rfl⟩ | ⟨rfl, rfl, rfl⟩ | ⟨rfl, rfl, rfl⟩ := h <;> exact ⟨rfl, by decide⟩

theorem refinementClamp_of_mem {item : RefinementItem} {lo hi : Nat} (h : (item, lo, hi) ∈ ([(.pre, 64, 1024),
    (.post, 16, 256), (.pol, 16, 128), (.pFrac, 0, 256), (.sFrac, 0, 256), (.polThr, 0, 1048575),
    (.sectorFloor, 0, 4294967295)] : List (RefinementItem × Nat × Nat))) (g : RefinementGroup) (x : Nat) :
    g.clamp item x = max lo (min hi x) := by
  simp only [List.mem_cons, Prod.mk.injEq, List.not_mem_nil, or_false] at h
  obtain ⟨rfl, rfl, rfl⟩ | ⟨rfl, rfl, rfl⟩ | ⟨rfl, rfl, rfl⟩ | ⟨rfl, rfl, rfl⟩ | ⟨rfl, rfl, rfl⟩ | ⟨rfl, rfl, rfl⟩
    | ⟨rfl, rfl, rfl⟩ := h <;> exact clampNat_eq (by decide) x

/-- Settles O35: the store clamps by the item's range and writes the staged copy alone. -/
theorem setClampsIntoStagedCopy : Obligations.SetClampsIntoStagedCopy := by
  refine fun dt p v s hf => ⟨fun sen ch item lo hi hmem h => ?_, fun sen item lo hi hmem h => ?_,
    fun item lo hi hmem h => ?_⟩
  · obtain ⟨hrange, hle⟩ := channelRange_of_mem hmem
    have hx : clampTo (channelRange item) v.toNat = max lo (min hi v.toNat) := by
      rw [hrange]
      exact clampNat_eq hle _
    obtain ⟨t, ht, hrest, hann, hansw⟩ := State.shared_set (s := s) (dt := dt) (p := p) (i := .detector sen ch item)
      (x := BitVec.ofNat 32 (clampTo (channelRange item) v.toNat))
      (s' := (s.elapse dt).modDetector sen fun d => { d with group := { d.group with
        staged := d.group.staged.set ch ((d.group.staged.get ch).write item (clampTo (channelRange item) v.toNat)) } })
      (.inl hf) rfl rfl rfl
    rw [hx] at hrest hansw
    have hdet : t.detector = s.detector.set sen { s.detector.get sen with group := { (s.detector.get sen).group with
        staged := (s.detector.get sen).group.staged.set ch
          (((s.detector.get sen).group.staged.get ch).write item (max lo (min hi v.toNat))) } } := by
      rw [hrest]
      rfl
    refine ⟨t, (set_runs dt h).trans (congrArg Host.Outcome.next ht), ?_, ?_, fun ch' item' hne => ?_, ?_, ?_,
      fun other hne => ?_, hann, hansw⟩
    · rw [hdet]
      exact hrest
    · rw [hdet, PerSensor.get_set, PerChannel.get_set, channelValue_write]
    · rw [hdet, PerSensor.get_set]
      by_cases hch : ch' = ch
      · subst hch
        rw [PerChannel.get_set, channelValue_write_ne _ fun he => hne (by rw [he])]
      · rw [PerChannel.get_set_ne _ _ hch]
    · rw [hdet, PerSensor.get_set]
    · rw [hdet, PerSensor.get_set]
    · rw [hdet, PerSensor.get_set_ne _ _ hne]
  · have hx := refinementClamp_of_mem hmem (s.refiner.groups.get sen).staged v.toNat
    obtain ⟨t, ht, hrest, hann, hansw⟩ := State.shared_set (s := s) (dt := dt) (p := p) (i := .refinement sen item)
      (x := BitVec.ofNat 32 ((s.refiner.groups.get sen).staged.clamp item v.toNat))
      (s' := { s.elapse dt with refiner := { s.refiner with groups := (s.refiner.groups.set sen
        { s.refiner.groups.get sen with staged := ((s.refiner.groups.get sen).staged.write item
          ((s.refiner.groups.get sen).staged.clamp item v.toNat)) }) } })
      (.inl hf) rfl rfl rfl
    rw [hx] at hrest hansw
    have hgroups : t.refiner.groups = s.refiner.groups.set sen { s.refiner.groups.get sen with
        staged := (s.refiner.groups.get sen).staged.write item (max lo (min hi v.toNat)) } := by rw [hrest]
    refine ⟨t, (set_runs dt h).trans (congrArg Host.Outcome.next ht), ?_, ?_, fun item' hne => ?_, ?_,
      fun other hne => ?_, hann, hansw⟩
    · rw [hgroups]
      exact hrest
    · rw [hgroups, PerSensor.get_set, refinementValue_write]
    · rw [hgroups, PerSensor.get_set, refinementValue_write_ne _ hne]
    · rw [hgroups, PerSensor.get_set]
    · rw [hgroups, PerSensor.get_set_ne _ _ hne]
  · obtain ⟨hrange, hle⟩ := groupingRange_of_mem hmem
    have hx : clampTo (groupingRange item) v.toNat = max lo (min hi v.toNat) := by
      rw [hrange]
      exact clampNat_eq hle _
    obtain ⟨t, ht, hrest, hann, hansw⟩ := State.shared_set (s := s) (dt := dt) (p := p) (i := .grouping item)
      (x := BitVec.ofNat 32 (clampTo (groupingRange item) v.toNat))
      (s' := { s.elapse dt with grouper := { s.grouper with settings := { s.grouper.settings with
        staged := s.grouper.settings.staged.write item (clampTo (groupingRange item) v.toNat) } } })
      (.inl hf) rfl rfl rfl
    rw [hx] at hrest hansw
    have hset : t.grouper.settings = { s.grouper.settings with
        staged := s.grouper.settings.staged.write item (max lo (min hi v.toNat)) } := by rw [hrest]
    refine ⟨t, (set_runs dt h).trans (congrArg Host.Outcome.next ht), ?_, ?_, fun item' hne => ?_, ?_, hann, hansw⟩
    · rw [hset]
      exact hrest
    · rw [hset, groupingValue_write]
    · rw [hset, groupingValue_write_ne _ hne]
    · rw [hset]

/-! ### The items of a correction group and of a preset -/

theorem clampNat_cast {hi : Nat} (x : Nat) : ((clampNat 0 hi x : Nat) : Int) = max 0 (min (hi : Int) (x : Int)) := by
  rw [clampNat_eq (Nat.zero_le _)]
  omega

/-- Table 1-3: a numeric item is stored clamped, in its own field alone. -/
theorem correctionWrite_of_mem {v : BitVec 32} {item : CorrectionItem} {lo hi x : Int} (h : (item, lo, hi, x) ∈
    ([(.offsetZ, -1048576, 1048575, v.toInt), (.offsetH1, -1048576, 1048575, v.toInt),
      (.offsetH2, -1048576, 1048575, v.toInt), (.cosine, -16384, 16384, v.toInt), (.sine, -16384, 16384, v.toInt),
      (.gainZ, 0, 65535, v.toNat), (.gainH1, 0, 65535, v.toNat), (.gainH2, 0, 65535, v.toNat),
      (.delay, 0, 65535, v.toNat)] : List (CorrectionItem × Int × Int × Int))) (g : CorrectionGroup) :
    ∃ g', g.write item v = some (g', BitVec.ofInt 32 (max lo (min hi x)))
      ∧ correctionValue g' item = max lo (min hi x)
      ∧ ∀ item', item' ≠ item → correctionValue g' item' = correctionValue g item' := by
  have hoffset : saturate (-1048576) 1048575 v.toInt = max (-1048576) (min 1048575 v.toInt) := saturate_eq (by decide) _
  have hturn : saturate (-16384) 16384 v.toInt = max (-16384) (min 16384 v.toInt) := saturate_eq (by decide) _
  have hword : ((clampNat 0 65535 v.toNat : Nat) : Int) = max 0 (min 65535 (v.toNat : Int)) := clampNat_cast _
  simp only [List.mem_cons, Prod.mk.injEq, List.not_mem_nil, or_false] at h
  obtain ⟨rfl, rfl, rfl, rfl⟩ | ⟨rfl, rfl, rfl, rfl⟩ | ⟨rfl, rfl, rfl, rfl⟩ | ⟨rfl, rfl, rfl, rfl⟩
    | ⟨rfl, rfl, rfl, rfl⟩ | ⟨rfl, rfl, rfl, rfl⟩ | ⟨rfl, rfl, rfl, rfl⟩ | ⟨rfl, rfl, rfl, rfl⟩
    | ⟨rfl, rfl, rfl, rfl⟩ := h
  all_goals
    first
    | rw [← hoffset]
    | rw [← hturn]
    | rw [← hword, BitVec.ofInt_natCast]
    refine ⟨_, rfl, rfl, fun item' hne => ?_⟩
    cases item' <;> first | rfl | exact absurd rfl hne

theorem presetWrite_of_mem {item : PresetItem} {hi : Nat}
    (h : (item, hi) ∈ ([(.lead, 60000), (.length, 4096)] : List (PresetItem × Nat))) (x : Preset) (v : Nat) :
    ∃ x', x.write item v = some (x', min hi v) ∧ presetValue x' item = min hi v
      ∧ ∀ item', item' ≠ item → presetValue x' item' = presetValue x item' := by
  have hclamp (n : Nat) : clampNat 0 n v = min n v := by rw [clampNat_eq (Nat.zero_le _), Nat.zero_max]
  simp only [List.mem_cons, Prod.mk.injEq, List.not_mem_nil, or_false] at h
  obtain ⟨rfl, rfl⟩ | ⟨rfl, rfl⟩ := h
  all_goals
    rw [← hclamp]
    refine ⟨_, rfl, rfl, fun item' hne => ?_⟩
    cases item' <;> first | rfl | exact absurd rfl hne

theorem PresetGroup.get_set (g : PresetGroup) (k : Fin 8) (x : Preset) : (g.set k x).get k = x := by
  match k with
  | 0 | 1 | 2 | 3 | 4 | 5 | 6 | 7 => rfl

theorem PresetGroup.get_set_ne (g : PresetGroup) {k k' : Fin 8} (x : Preset) (h : k' ≠ k) :
    (g.set k x).get k' = g.get k' := by
  match k with
  | 0 | 1 | 2 | 3 | 4 | 5 | 6 | 7 =>
    match k' with
    | 0 | 1 | 2 | 3 | 4 | 5 | 6 | 7 => first | rfl | exact absurd rfl h

/-- R165: the bits of a mask are its components. -/
theorem CompMask.bits_ofNum {n : Nat} (h : n < 8) : (CompMask.ofNum n).bits = n := by
  interval_cases n <;> rfl

section
variable {s : State} {p : Port} {v : BitVec 32} {dt : Nat}

/-- What the store of an item of a correction group leaves. -/
def State.stageCorrection (s : State) (sen : Sensor) (g : CorrectionGroup) : State :=
  s.modIntake sen fun r => { r with correction := { r.correction with staged := g } }

/-- What the store of an item of a preset leaves. -/
def State.stagePreset (s : State) (k : Fin 8) (x : Preset) : State :=
  { s with presets := { s.presets with staged := s.presets.staged.set k x } }

theorem State.storeSetting_correction {sen : Sensor} {item : CorrectionItem} {g : CorrectionGroup} {x : BitVec 32}
    (h : (s.intake.get sen).correction.staged.write item v = some (g, x)) :
    s.storeSetting p (.correction sen item) v = some (s.stageCorrection sen g, x) := by
  change Option.map _ ((s.intake.get sen).correction.staged.write item v) = _
  rw [h]
  rfl

theorem State.storeSetting_rate {sen : Sensor} : s.storeSetting p (.correction sen .rate) v
    = (Rate.ofNum v.toNat).map fun m =>
      (s.stageCorrection sen { (s.intake.get sen).correction.staged with rate := m }, v) := by
  change Option.map _ (Option.map _ (Rate.ofNum v.toNat)) = _
  rw [Option.map_map]
  cases Rate.ofNum v.toNat <;> rfl

theorem State.storeSetting_preset {k : Fin 8} {item : PresetItem} {x : Preset} {n : Nat}
    (h : (s.presets.staged.get k).write item v.toNat = some (x, n)) :
    s.storeSetting p (.preset k item) v = some (s.stagePreset k x, BitVec.ofNat 32 n) := by
  change Option.map _ ((s.presets.staged.get k).write item v.toNat) = _
  rw [h]
  rfl

/-- R165: the components that a mask names, all three for 0. -/
theorem presetMaskOf_of_lt {n : Nat} (h : n < 8) :
    presetMaskOf n = some (if n = 0 then ⟨true, true, true⟩ else .ofNum n) := by
  unfold presetMaskOf
  rw [if_neg (Nat.not_le.2 h)]
  split <;> rfl

theorem State.storeSetting_mask {k : Fin 8} : s.storeSetting p (.preset k .mask) v = (presetMaskOf v.toNat).map fun m =>
    (s.stagePreset k { s.presets.staged.get k with mask := m }, BitVec.ofNat 32 m.bits) := by
  change Option.map _ (Option.map _ (presetMaskOf v.toNat)) = _
  rw [Option.map_map]
  cases presetMaskOf v.toNat <;> rfl

/-- A SET of an item of a correction group that is stored. -/
theorem set_correction_stored {sen : Sensor} {item : CorrectionItem} {g : CorrectionGroup} {x : BitVec 32}
    (hf : s.frozen = false) (h : Holds s p (.set (encodeIndex (.correction sen item)) v))
    (hw : (s.intake.get sen).correction.staged.write item v = some (g, x)) :
    ∃ t, Runs (.set dt p (encodeIndex (.correction sen item)) v) s t
      ∧ t = { s.elapse dt with intake := t.intake, ports := t.ports, attention := t.attention }
      ∧ t.intake = s.intake.set sen { s.intake.get sen with
          correction := { (s.intake.get sen).correction with staged := g } }
      ∧ Announced s t p ∧ Answered s t p 0x08#8 .ok (setData (.correction sen item) x) := by
  obtain ⟨t, ht, hrest, hann, hansw⟩ := State.shared_set (s := s) (dt := dt) (p := p) (i := .correction sen item)
    (x := x) (s' := (s.elapse dt).stageCorrection sen g) (.inl hf) rfl rfl rfl
  have hint : t.intake = s.intake.set sen { s.intake.get sen with
      correction := { (s.intake.get sen).correction with staged := g } } := by
    rw [hrest]
    rfl
  have hrun := set_runs dt h
  rw [State.storeSetting_correction (s := s.elapse dt) hw, ht] at hrun
  refine ⟨t, hrun, ?_, hint, hann, hansw⟩
  rw [hint]
  exact hrest

/-- A SET of an item of a preset that is stored. -/
theorem set_preset_stored {k : Fin 8} {item : PresetItem} {x : Preset} {y : BitVec 32} (hf : s.frozen = false)
    (h : Holds s p (.set (encodeIndex (.preset k item)) v))
    (hw : (s.elapse dt).storeSetting p (.preset k item) v = some ((s.elapse dt).stagePreset k x, y)) :
    ∃ t, Runs (.set dt p (encodeIndex (.preset k item)) v) s t
      ∧ t = { s.elapse dt with presets := t.presets, ports := t.ports, attention := t.attention }
      ∧ t.presets = { s.presets with staged := s.presets.staged.set k x }
      ∧ Announced s t p ∧ Answered s t p 0x08#8 .ok (setData (.preset k item) y) := by
  obtain ⟨t, ht, hrest, hann, hansw⟩ := State.shared_set (s := s) (dt := dt) (p := p) (i := .preset k item)
    (x := y) (s' := (s.elapse dt).stagePreset k x) (.inl hf) rfl rfl rfl
  have hpre : t.presets = { s.presets with staged := s.presets.staged.set k x } := by
    rw [hrest]
    rfl
  have hrun := set_runs dt h
  rw [hw, ht] at hrun
  refine ⟨t, hrun, ?_, hpre, hann, hansw⟩
  rw [hpre]
  exact hrest

end

/-- Settles O36: an item that fits is stored in the staged copy, and one that does not is refused. -/
theorem setReadsSignedAndMaskValues : Obligations.SetReadsSignedAndMaskValues := by
  refine fun dt p v s hf => ⟨fun sen item lo hi x hmem h => ?_, fun k item hi hmem h => ?_, fun sen h => ?_, fun k h => ?_⟩
  · obtain ⟨g, hwrite, hval, hothers⟩ := correctionWrite_of_mem hmem (s.intake.get sen).correction.staged
    obtain ⟨t, hrun, hrest, hint, hann, hansw⟩ := set_correction_stored (dt := dt) hf h hwrite
    refine ⟨t, hrun, hrest, ?_, ?_, fun item' hne => ?_, hann, hansw⟩
    · rw [hint, PerSensor.get_set]
    · rw [hint, PerSensor.get_set, hval]
    · rw [hint, PerSensor.get_set, hothers item' hne]
  · obtain ⟨x, hwrite, hval, hothers⟩ := presetWrite_of_mem hmem (s.presets.staged.get k) v.toNat
    obtain ⟨t, hrun, hrest, hpre, hann, hansw⟩ :=
      set_preset_stored (dt := dt) hf h (State.storeSetting_preset (s := s.elapse dt) hwrite)
    refine ⟨t, hrun, hrest, ?_, ?_, fun k' item' hne => ?_, hann, hansw⟩
    · rw [hpre]
    · rw [hpre, PresetGroup.get_set, hval]
    · rw [hpre]
      by_cases hk : k' = k
      · subst hk
        rw [PresetGroup.get_set, hothers item' fun he => hne (by rw [he])]
      · rw [PresetGroup.get_set_ne _ _ hk]
  · obtain ⟨-, hbad, hstored⟩ := State.enumerated_set (s := s) (dt := dt) (p := p) (i := .correction sen .rate) (v := v)
      (store := fun m => (s.elapse dt).stageCorrection sen { (s.intake.get sen).correction.staged with rate := m })
      rfl (Rate.ofNum_fits v.toNat) (fun _ => rfl) (fun _ => rfl)
    have hstore : (s.elapse dt).storeSetting p (.correction sen .rate) v = (Rate.ofNum v.toNat).map fun m =>
        ((s.elapse dt).stageCorrection sen { (s.intake.get sen).correction.staged with rate := m }, v) :=
      State.storeSetting_rate
    have hrun := set_runs dt h
    rw [hstore] at hrun
    refine ⟨_, hrun, fun m hm => ?_, hbad⟩
    obtain ⟨hrest, hann, hansw⟩ := hstored m ((Rate.lookup _).symm.trans hm) (.inl hf)
    refine ⟨?_, ?_, ?_, hann, hansw⟩
    all_goals
      rw [hrest]
      simp [State.stageCorrection]
  · by_cases h8 : 8 ≤ v.toNat
    · have hmask : presetMaskOf v.toNat = none := if_pos h8
      have hrun := set_runs dt h
      rw [State.storeSetting_mask, hmask] at hrun
      refine ⟨_, hrun, fun hv => ?_, fun _ hlt => absurd h8 (Nat.not_le.2 hlt), fun _ => State.refuse_given s dt p _ _,
        rfl, rfl, rfl, fun _ _ => rfl⟩
      subst hv
      exact absurd h8 (by decide)
    · have hstore : (s.elapse dt).storeSetting p (.preset k .mask) v = _ := State.storeSetting_mask
      rw [presetMaskOf_of_lt (Nat.not_le.1 h8)] at hstore
      obtain ⟨t, hrun, -, hpre, hann, hansw⟩ := set_preset_stored (dt := dt) hf h hstore
      refine ⟨t, hrun, fun hv => ⟨?_, hann, ?_⟩, fun h1 _ => ⟨?_, hann, ?_⟩,
        fun hge => absurd hge h8, ?_, ?_, ?_, fun k' hne => ?_⟩
      · subst hv
        rw [hpre, PresetGroup.get_set]
        rfl
      · subst hv
        exact hansw
      · rw [hpre, PresetGroup.get_set, if_neg (by omega)]
        rfl
      · rw [if_neg (by omega), CompMask.bits_ofNum (by omega), BitVec.ofNat_toNat, BitVec.setWidth_eq] at hansw
        exact hansw
      · rw [hpre]
      · rw [hpre, PresetGroup.get_set]
        rfl
      · rw [hpre, PresetGroup.get_set]
        rfl
      · rw [hpre, PresetGroup.get_set_ne _ _ hne]

/-! ### GET (R203) -/

/-- A number's bytes are those of its residue. -/
theorem bytesBE_ofInt_two (n : Nat) : bytesBE 2 (BitVec.ofInt 16 (n : Int)).toNat = bytesBE 2 n := by
  rw [BitVec.ofInt_natCast, BitVec.toNat_ofNat]
  simp only [bytesBE, List.cons.injEq, and_true]
  refine ⟨?_, ?_⟩
  · refine BitVec.eq_of_toNat_eq ?_
    simp only [BitVec.toNat_ofNat, Nat.shiftRight_eq_div_pow]
    omega
  · refine BitVec.eq_of_toNat_eq ?_
    simp only [BitVec.toNat_ofNat, Nat.shiftRight_eq_div_pow]
    omega

theorem correctionBytes_of_mem {item : CorrectionItem} {size : Nat} (h : (item, size) ∈ ([(.rate, 1), (.offsetZ, 3),
    (.offsetH1, 3), (.offsetH2, 3), (.gainZ, 2), (.gainH1, 2), (.gainH2, 2), (.cosine, 2), (.sine, 2), (.delay, 2)] :
    List (CorrectionItem × Nat))) (g : CorrectionGroup) :
    g.bytes item = bytesBE size (BitVec.ofInt (8 * size) (correctionValue g item)).toNat := by
  simp only [List.mem_cons, Prod.mk.injEq, List.not_mem_nil, or_false] at h
  obtain ⟨rfl, rfl⟩ | ⟨rfl, rfl⟩ | ⟨rfl, rfl⟩ | ⟨rfl, rfl⟩ | ⟨rfl, rfl⟩ | ⟨rfl, rfl⟩ | ⟨rfl, rfl⟩ | ⟨rfl, rfl⟩
    | ⟨rfl, rfl⟩ | ⟨rfl, rfl⟩ := h
  case inl => unfold CorrectionGroup.bytes correctionValue; cases g.rate <;> rfl
  case inr.inl | inr.inr.inl | inr.inr.inr.inl => rfl
  case inr.inr.inr.inr.inl => exact (bytesBE_ofInt_two g.gainZ).symm
  case inr.inr.inr.inr.inr.inl => exact (bytesBE_ofInt_two g.gainH1).symm
  case inr.inr.inr.inr.inr.inr.inl => exact (bytesBE_ofInt_two g.gainH2).symm
  case inr.inr.inr.inr.inr.inr.inr.inl | inr.inr.inr.inr.inr.inr.inr.inr.inl => rfl
  case inr.inr.inr.inr.inr.inr.inr.inr.inr => exact (bytesBE_ofInt_two g.delay).symm

theorem channelBytes_of_mem {item : ChannelItem} {size : Nat} (h : (item, size) ∈ ([(.staShift, 1), (.ltaShift, 1),
    (.onThreshold, 2), (.offThreshold, 2), (.holdOff, 2), (.maxTrigger, 2), (.ltaFloor, 4)] : List (ChannelItem × Nat)))
    (c : ChannelSettings) : c.bytes item = bytesBE size (channelValue c item) := by
  simp only [List.mem_cons, Prod.mk.injEq, List.not_mem_nil, or_false] at h
  obtain ⟨rfl, rfl⟩ | ⟨rfl, rfl⟩ | ⟨rfl, rfl⟩ | ⟨rfl, rfl⟩ | ⟨rfl, rfl⟩ | ⟨rfl, rfl⟩ | ⟨rfl, rfl⟩ := h <;> rfl

theorem refinementBytes_of_mem {item : RefinementItem} {size : Nat} (h : (item, size) ∈ ([(.pre, 2), (.post, 2),
    (.pol, 1), (.threshold .q0, 2), (.threshold .q1, 2), (.threshold .q2, 2), (.pFrac, 2), (.sFrac, 2), (.polThr, 3),
    (.sectorFloor, 4)] : List (RefinementItem × Nat))) (g : RefinementGroup) :
    g.bytes item = bytesBE size (refinementValue g item) := by
  simp only [List.mem_cons, Prod.mk.injEq, List.not_mem_nil, or_false] at h
  obtain ⟨rfl, rfl⟩ | ⟨rfl, rfl⟩ | ⟨rfl, rfl⟩ | ⟨rfl, rfl⟩ | ⟨rfl, rfl⟩ | ⟨rfl, rfl⟩ | ⟨rfl, rfl⟩ | ⟨rfl, rfl⟩
    | ⟨rfl, rfl⟩ | ⟨rfl, rfl⟩ := h <;> rfl

theorem groupingBytes_of_mem {item : GroupingItem} {size : Nat} (h : (item, size) ∈ ([(.qmax, 1), (.count, 1),
    (.pWindow, 2), (.sWindow, 2)] : List (GroupingItem × Nat))) (g : GroupingGroup) :
    g.bytes item = bytesBE size (groupingValue g item) := by
  simp only [List.mem_cons, Prod.mk.injEq, List.not_mem_nil, or_false] at h
  obtain ⟨rfl, rfl⟩ | ⟨rfl, rfl⟩ | ⟨rfl, rfl⟩ | ⟨rfl, rfl⟩ := h <;> rfl

theorem presetBytes_of_mem {item : PresetItem} {size : Nat}
    (h : (item, size) ∈ ([(.lead, 2), (.length, 2), (.mask, 1)] : List (PresetItem × Nat))) (x : Preset) :
    x.bytes item = bytesBE size (presetValue x item) := by
  simp only [List.mem_cons, Prod.mk.injEq, List.not_mem_nil, or_false] at h
  obtain ⟨rfl, rfl⟩ | ⟨rfl, rfl⟩ | ⟨rfl, rfl⟩ := h <;> rfl

theorem ArbiterMode.byte (m : ArbiterMode) : u8 m.num = [if m = .rotating then 0#8 else 1#8] := by cases m <;> rfl

theorem ReadPolicy.byte (m : ReadPolicy) : u8 m.num = [if m = .refinerFirst then 0#8 else 1#8] := by cases m <;> rfl

theorem OfferMode.byte (m : OfferMode) : u8 m.num = [if m = .all then 0#8 else 1#8] := by cases m <;> rfl

/-- Table 11-8: the flags' byte, PARITY first. -/
theorem IntakeFlags.byte_eq (f : IntakeFlags) :
    f.byte = [BitVec.ofNat 8 (f.parity.toNat + 2 * f.sequence.toNat + 4 * f.gap.toNat)] := by
  obtain ⟨a, b, c⟩ := f
  cases a <;> cases b <;> cases c <;> rfl

/-- R203: GET of an index that is no intake status leaves the state. -/
theorem State.afterGet_of_ne {i : SettingIndex} (h : ∀ sen, i ≠ .intakeStatus sen) (s : State) : s.afterGet i = s := by
  cases i
  case intakeStatus sen => exact absurd rfl (h sen)
  all_goals rfl

/-- Settles O41: the answer is the value of the index, item by item. -/
theorem getReadsWithoutChange : Obligations.GetReadsWithoutChange := by
  refine ⟨fun dt p i s hi h => ?_, fun dt p index s hi h => ?_, fun dt p sen s h => ?_, fun p sen ch k s => ?_⟩
  · have hrun : Runs (.get dt p (encodeIndex i)) s _ := congrArg Host.Outcome.next (State.perform_given h dt _)
    rw [decodeIndex_encodeIndex] at hrun
    unfold State.answerGet at hrun
    dsimp only at hrun
    rw [State.afterGet_of_ne hi] at hrun
    exact ⟨_, hrun, rfl, rfl⟩
  · have hrun : Runs (.get dt p index) s _ := congrArg Host.Outcome.next (State.perform_given h dt _)
    rw [hi] at hrun
    exact ⟨_, hrun, State.refuse_given s dt p _ _⟩
  · have hrun : Runs (.getIntakeStatus dt p sen) s _ := congrArg Host.Outcome.next (State.perform_given h dt _)
    have hafter : (s.elapse dt).afterGet (.intakeStatus sen) = if s.autoClear then s.elapse dt
        else (s.elapse dt).modIntake sen fun r => { r with flags := .none } := rfl
    have hdata : (s.elapse dt).valueOf p (.intakeStatus sen) = [BitVec.ofNat 8 (s.intake.get sen).state.num,
          BitVec.ofNat 8 ((s.intake.get sen).flags.parity.toNat + 2 * (s.intake.get sen).flags.sequence.toNat
            + 4 * (s.intake.get sen).flags.gap.toNat)]
        ++ bytesBE 2 (s.intake.get sen).offFrames ++ [if (s.intake.get sen).applyPending then 1#8 else 0#8]
        ++ bytesBE 2 s.malformedFrames := by
      change u8 _ ++ IntakeFlags.byte _ ++ u16 _ ++ flagByte _ ++ u16 _ = _
      rw [IntakeFlags.byte_eq, flagByte_eq]
      rfl
    unfold State.answerGet at hrun
    rw [hdata, hafter] at hrun
    refine ⟨_, hrun, ?_, ?_, ?_⟩
    · split <;> rfl
    · split <;> rfl
    · refine (Answer.answered (s := s) _ ?_).trans ?_
      · split <;> rfl
      · simp only [List.append_assoc]
        rfl
  · refine ⟨fun item size h => ?_, fun item size h => ?_, fun item size h => ?_, fun item size h => ?_,
      fun item size h => ?_, rfl, ArbiterMode.byte _, rfl, ReadPolicy.byte _, flagByte_eq _, rfl, LineMode.byte _,
      ClearMode.byte _, rfl, fun m hm => ?_⟩
    · change CorrectionGroup.bytes _ item ++ CorrectionGroup.bytes _ item = _
      rw [correctionBytes_of_mem h, correctionBytes_of_mem h]
    · change ChannelSettings.bytes _ item ++ ChannelSettings.bytes _ item = _
      rw [channelBytes_of_mem h, channelBytes_of_mem h]
    · change RefinementGroup.bytes _ item ++ RefinementGroup.bytes _ item = _
      rw [refinementBytes_of_mem h, refinementBytes_of_mem h]
    · change GroupingGroup.bytes _ item ++ GroupingGroup.bytes _ item = _
      rw [groupingBytes_of_mem h, groupingBytes_of_mem h]
    · change Preset.bytes _ item ++ Preset.bytes _ item = _
      rw [presetBytes_of_mem h, presetBytes_of_mem h]
    · change u8 (OfferMode.num _) ++ field 1 _ _ = _
      rw [hm, OfferMode.byte]
      exact congrArg _ (OfferMode.byte m)

end Sys2Proof.Machine


/-! PROOFS. The Settings Window: APPLY and FREEZE; and soft reset. -/

namespace Sys2Proof.Machine

/-! ### The answer to an APPLY (R204) -/

/-- An owner's APPLY, before FREEZE: answered with what the owner did, and announced where the copies differed. -/
theorem State.apply_answered {s : State} {dt : Nat} {p : Port} {same : Bool} {owner : State → State × Applied}
    {u : State} {done : Applied} (hf : s.frozen = false) (howner : owner (s.elapse dt) = (u, done))
    (hports : u.ports = s.ports) :
    ∃ t, ((s.elapse dt).answerApply p same owner).given p 0x0A#8 = t
      ∧ t = { u with ports := t.ports, attention := t.attention }
      ∧ Answered s t p 0x0A#8 .ok [BitVec.ofNat 8 done.num]
      ∧ (u.attention = s.attention → if same = true then t.attention = s.attention else Announced s t p) := by
  have hno : ¬ (s.elapse dt).frozen = true := fun h => absurd (h.symm.trans hf) (by decide)
  have hans : (s.elapse dt).answerApply p same owner
      = { state := if same then u else u.settingsChanged p, result := .ok, data := u8 done.num } := by
    unfold State.answerApply
    rw [if_neg hno, howner]
  rw [hans]
  cases same
  · exact ⟨_, rfl, rfl, Answer.answered _ hports, fun ha => State.settingsChanged_announced ha p _ _ _⟩
  · exact ⟨_, rfl, rfl, Answer.answered _ hports, id⟩

/-- After FREEZE every APPLY is refused. -/
theorem State.apply_frozen {s : State} {dt : Nat} {p : Port} {same : Bool} {owner : State → State × Applied}
    (hf : s.frozen = true) : (s.elapse dt).answerApply p same owner = (s.elapse dt).refuse .frozen := if_pos hf

/-! ### The detector group (R70, R72, R73) -/

theorem DetectorRecord.blind_iff (d : DetectorRecord) :
    d.blind = true ↔ d.channels.p.state = .blind ∧ d.channels.s.state = .blind := by
  simp [DetectorRecord.blind]

/-- Settles O43: both branches of the application, answered and announced as every APPLY. -/
theorem detectorAppliesWhenBlind : Obligations.DetectorAppliesWhenBlind := by
  intro dt p sen s hf h d
  have hrun : Runs (.applyDetector dt p sen) s _ := congrArg Host.Outcome.next (State.perform_given h dt _)
  have hsame : (decide (d.group.staged = d.group.active) = true) = (d.group.staged = d.group.active) :=
    decide_eq_true_eq
  by_cases hb : d.blind = true
  · have howner : (s.elapse dt).applyDetector sen
        = ((s.elapse dt).modDetector sen DetectorRecord.apply, .applied) := if_pos hb
    obtain ⟨t, ht, hrest, hansw, hann⟩ := State.apply_answered (s := s) (dt := dt) (p := p)
      (same := decide (d.group.staged = d.group.active)) (owner := fun u => u.applyDetector sen) hf howner rfl
    have hdet : t.detector = s.detector.set sen d.apply := by
      rw [hrest]
      rfl
    obtain ⟨hp, hs⟩ := d.blind_iff.1 hb
    have hget : t.detector.get sen = { d with
        group := { d.group with active := DetectorGroup.resolved d.group.staged }, applyPending := false } := by
      rw [hdet, PerSensor.get_set, DetectorRecord.apply]
      simp [hb]
    refine ⟨t, hrun.trans (congrArg Host.Outcome.next ht), ?_, fun other hne => ?_, ?_, ?_, fun _ => ⟨?_, hansw, fun ch => ?_⟩,
      fun hor => ?_, ?_⟩
    · rw [hdet]
      exact hrest
    · rw [hdet, PerSensor.get_set_ne _ _ hne]
    · rw [hget]
    · rw [hget]
    · rw [hget]
    · rw [hget]
      cases ch <;> rfl
    · rcases hor with hne | hne
      · exact absurd hp hne
      · exact absurd hs hne
    · simpa using hann rfl
  · have howner : (s.elapse dt).applyDetector sen
        = ((s.elapse dt).modDetector sen fun d => { d with applyPending := true }, .pending) := if_neg hb
    obtain ⟨t, ht, hrest, hansw, hann⟩ := State.apply_answered (s := s) (dt := dt) (p := p)
      (same := decide (d.group.staged = d.group.active)) (owner := fun u => u.applyDetector sen) hf howner rfl
    have hdet : t.detector = s.detector.set sen { d with applyPending := true } := by
      rw [hrest]
      rfl
    refine ⟨t, hrun.trans (congrArg Host.Outcome.next ht), ?_, fun other hne => ?_, ?_, ?_, fun hand => ?_,
      fun _ => ⟨?_, ?_, hansw⟩, ?_⟩
    · rw [hdet]
      exact hrest
    · rw [hdet, PerSensor.get_set_ne _ _ hne]
    · rw [hdet, PerSensor.get_set]
    · rw [hdet, PerSensor.get_set]
    · exact absurd (d.blind_iff.2 hand) hb
    · rw [hdet, PerSensor.get_set]
    · rw [hdet, PerSensor.get_set]
    · simpa using hann rfl

/-! ### The refinement group (R84) -/

/-- R84: while a refinement is in progress, the copy and the tests leave it. -/
theorem State.applyRefinement_work {s : State} {sen : Sensor} {w : Work} (h : s.refiner.work = some w) :
    (s.applyRefinement sen).1.refiner.work = some w := by
  have hsome : s.refiner.work.isSome = true := by rw [h]; rfl
  have htests (t : State) (ht : t.refiner.work = some w) : t.retest.refiner.work = some w := by
    have hw : t.testGroups.refiner.work = some w := by rw [t.testGroups_reports.refiner, ht]
    rw [State.retest, State.settle_of_busy (by rw [hw]; rfl), hw]
  have hsettled : ∀ f, (State.settle s ((s.withRefinement sen).modQueue sen f)).refiner.work = some w := fun f => by
    rw [State.settle_of_busy (s := (s.withRefinement sen).modQueue sen f) hsome]
    exact h
  unfold State.applyRefinement
  dsimp only
  split
  · exact hsettled _
  · exact htests _ (hsettled _)

/-- Settles O44: the copy is made whole, and what the tests after it occasion leaves it. -/
theorem refinementAppliesAtOnce : Obligations.RefinementAppliesAtOnce := by
  intro dt p sen s hf h
  have hrun : Runs (.applyRefinement dt p sen) s _ := congrArg Host.Outcome.next (State.perform_given h dt _)
  have hg := (s.elapse dt).applyRefinement_grants sen
  have hports : ((s.elapse dt).applyRefinement sen).1.ports = s.ports := by
    rw [hg.rest]
    rfl
  have hdone : ((s.elapse dt).applyRefinement sen).2 = .applied := rfl
  obtain ⟨t, ht, hrest, hansw, -⟩ := State.apply_answered (p := p)
    (same := decide (((s.elapse dt).refiner.groups.get sen).staged = ((s.elapse dt).refiner.groups.get sen).active))
    (owner := fun u => u.applyRefinement sen) (u := ((s.elapse dt).applyRefinement sen).1) (done := .applied)
    hf (Prod.ext rfl hdone) hports
  obtain ⟨hgroups, hmode, haging⟩ := hg.refinement
  refine ⟨t, hrun.trans (congrArg Host.Outcome.next ht), ?_, fun w hw => ?_, hansw, ?_, ?_, ?_, ?_, ?_, ?_⟩
  · rw [hrest]
    exact hgroups
  · rw [hrest]
    exact State.applyRefinement_work (s := s.elapse dt) hw
  · rw [hrest]
    exact hmode
  · rw [hrest]
    exact haging
  all_goals
    rw [hrest, hg.rest]
    rfl

/-! ### The grouping and preset groups, and FREEZE -/

/-- Settles O45: the two copies, the freeze mark, and the refusal of every APPLY after it. -/
theorem groupingAndPresetsApplyUnlessFrozen : Obligations.GroupingAndPresetsApplyUnlessFrozen := by
  refine fun dt p s => ⟨fun h hf => ?_, fun h hf => ?_, fun h => ?_, fun sen g i hmem h hf => ?_⟩
  · have hrun : Runs (.applyGrouping dt p) s _ := congrArg Host.Outcome.next (State.perform_given h dt _)
    obtain ⟨t, ht, hrest, hansw, hann⟩ := State.apply_answered (s := s) (dt := dt) (p := p)
      (same := decide (s.grouper.settings.staged = s.grouper.settings.active)) (owner := State.applyGrouping) hf rfl rfl
    exact ⟨t, hrun.trans (congrArg Host.Outcome.next ht), hrest, hansw, by simpa using hann rfl⟩
  · have hrun : Runs (.applyPresets dt p) s _ := congrArg Host.Outcome.next (State.perform_given h dt _)
    obtain ⟨t, ht, hrest, hansw, hann⟩ := State.apply_answered (s := s) (dt := dt) (p := p)
      (same := decide (s.presets.staged = s.presets.active)) (owner := State.applyPresets) hf rfl rfl
    exact ⟨t, hrun.trans (congrArg Host.Outcome.next ht), hrest, hansw, by simpa using hann rfl⟩
  · have hrun : Runs (.freeze dt p) s _ := congrArg Host.Outcome.next (State.perform_given h dt _)
    by_cases hf : s.frozen = true
    · have hans : (s.elapse dt).answerFreeze = (s.elapse dt).refuse .already := if_pos hf
      rw [hans] at hrun
      refine ⟨_, hrun, ?_, ?_⟩
      · rw [← hf]
        rfl
      · rw [if_pos hf]
        exact (State.refuse_given s dt p _ _).2
    · have hans : (s.elapse dt).answerFreeze
          = { state := { s.elapse dt with frozen := true }, result := .ok, data := [] } := if_neg hf
      rw [hans] at hrun
      refine ⟨_, hrun, rfl, ?_⟩
      rw [if_neg hf]
      rfl
  · have hrefused : ∀ same owner, ∃ t, (((s.elapse dt).answerApply p same owner).given p 0x0A#8) = t
        ∧ t = { s.elapse dt with ports := t.ports } ∧ Answered s t p 0x0A#8 .frozen [] := fun same owner => by
      rw [State.apply_frozen hf]
      exact ⟨_, rfl, State.refuse_given s dt p _ _⟩
    have hdone : ∀ {same owner}, exec i s = .next (((s.elapse dt).answerApply p same owner).given p 0x0A#8) →
        ∃ t, Runs i s t ∧ t = { s.elapse dt with ports := t.ports } ∧ Answered s t p 0x0A#8 .frozen [] :=
      fun {same owner} hrun =>
        let ⟨t, ht, hrest⟩ := hrefused same owner
        ⟨t, hrun.trans (congrArg Host.Outcome.next ht), hrest⟩
    simp only [List.mem_cons, Prod.mk.injEq, List.not_mem_nil, or_false] at hmem
    obtain ⟨rfl, rfl⟩ | ⟨rfl, rfl⟩ | ⟨rfl, rfl⟩ | ⟨rfl, rfl⟩ | ⟨rfl, rfl⟩ := hmem
    all_goals exact hdone (congrArg Host.Outcome.next (State.perform_given h dt _))

/-! ### Soft reset -/

/-- R193: what a port other than the issuing one holds in BUSY is aborted. -/
theorem PortRecord.aborted_of_busy {r : PortRecord} {c : Request} (h : r.slot = .busy c) :
    r.aborted = { r with slot := .done { code := c.code, result := .aborted, data := [] } } := by
  unfold PortRecord.aborted
  rw [h]

theorem PortRecord.aborted_of_not_busy {r : PortRecord} (h : ∀ c, r.slot ≠ .busy c) : r.aborted = r := by
  unfold PortRecord.aborted
  split
  · rename_i c hc
    exact absurd hc (h c)
  · rfl

/-- R20: the copies after a soft reset. -/
theorem IntakeRecord.softReset_correction (r : IntakeRecord) :
    r.softReset.correction = if r.applyPending then Staged.both r.correction.staged else r.correction := rfl

theorem IntakeRecord.softReset_entered (r : IntakeRecord) :
    r.softReset.state = if r.softReset.correction.active.rate = .off then .off else .starting := rfl

theorem DetectorRecord.softReset_channel (off : Bool) (d : DetectorRecord) (ch : Channel) :
    ((d.softReset off).channels.get ch).state = if off then .blind else .warmup := by
  cases ch <;> rfl

theorem DetectorRecord.settledGroup_staged (d : DetectorRecord) : d.settledGroup.staged = d.group.staged := by
  unfold DetectorRecord.settledGroup
  split <;> rfl

/-- Settles O50: each block's part of the reset. -/
theorem softResetKeepsSettings : Obligations.SoftResetKeepsSettings := by
  intro dt p s h
  have hrun : Runs (.softReset dt p) s _ := congrArg Host.Outcome.next (State.perform_given h dt _)
  refine ⟨_, hrun, rfl, rfl, rfl, rfl, rfl, rfl, rfl, rfl, rfl, rfl, rfl, rfl, fun sen => ?_, fun q => ?_, ?_, fun r hr => ?_,
    fun hno => ?_⟩
  · have hint : ((Answer.mk ((s.elapse dt).softReset p) .ok []).given p (Request.softReset.code)).intake.get sen
        = (s.intake.get sen).softReset := PerSensor.get_map _ _ _
    have hdet : ((Answer.mk ((s.elapse dt).softReset p) .ok []).given p (Request.softReset.code)).detector.get sen
        = (s.detector.get sen).softReset (decide ((s.intake.get sen).softReset.correction.active.rate = .off)) := by
      refine (PerSensor.get_map _ _ _).trans ?_
      rw [PerSensor.get_map]
      rfl
    have hchannel (ch : Channel) : ((Answer.mk ((s.elapse dt).softReset p) .ok []).given p (Request.softReset.code)).channel
        sen ch = (((s.detector.get sen).softReset
          (decide ((s.intake.get sen).softReset.correction.active.rate = .off))).channels.get ch) := by
      rw [← hdet]
      rfl
    refine ⟨PerSensor.get_all _ _, ?_, fun ha => ?_, fun ha => ?_, fun hoff => ⟨?_, fun ch => ?_⟩,
      fun hon => ⟨?_, fun ch => ?_⟩, ?_, ?_⟩
    · rw [hint, IntakeRecord.softReset_correction]
      split <;> rfl
    · rw [hint, IntakeRecord.softReset_correction, ha]
      rfl
    · rw [hint, IntakeRecord.softReset_correction, ha]
      rfl
    · rw [hint] at hoff ⊢
      rw [IntakeRecord.softReset_entered, if_pos hoff]
    · rw [hint] at hoff
      rw [hchannel, DetectorRecord.softReset_channel, decide_eq_true hoff]
      rfl
    · rw [hint] at hon ⊢
      rw [IntakeRecord.softReset_entered, if_neg hon]
    · rw [hint] at hon
      rw [hchannel, DetectorRecord.softReset_channel, decide_eq_false hon]
      rfl
    · rw [hdet]
      exact DetectorRecord.settledGroup_staged _
    · rw [hdet]
      rfl
  · have hoffers : ((Answer.mk ((s.elapse dt).softReset p) .ok []).given p (Request.softReset.code)).offers.get q
        = (s.offers.get q).softReset := PerPort.get_map _ _ _
    have hatt : ((Answer.mk ((s.elapse dt).softReset p) .ok []).given p (Request.softReset.code)).attention.get q
        = (s.attention.get q).quieten := PerPort.get_map _ _ _
    refine ⟨?_, ?_, ?_, hatt⟩
    · unfold State.notices
      rw [hoffers]
      rfl
    · rw [hoffers]
      rfl
    · rw [hoffers]
      rfl
  · simp [Answer.given, State.respond, State.softReset, Request.code]
  · have hbusy := PortRecord.aborted_of_busy hr
    simp [Answer.given, State.respond, State.softReset, hbusy]
  · have hkeep := PortRecord.aborted_of_not_busy hno
    simp [Answer.given, State.respond, State.softReset, hkeep]

end Sys2Proof.Machine


/-! PROOFS. Excerpt chains: the commands of the Excerpt Engine. -/

namespace Sys2Proof.Machine

/-! ### LOAD_CHAIN (R164) -/

theorem CompMask.nonEmpty_ofNum {n : Nat} (h : n % 8 = 0) : (CompMask.ofNum n).nonEmpty = false := by
  simp only [CompMask.nonEmpty, CompMask.ofNum, Nat.testBit_eq_decide_div_mod_eq, Bool.or_eq_false_iff,
    decide_eq_false_iff_not]
  omega

/-- Table 9-1: the four ways in which an element's words are malformed. -/
theorem elementOfWords_eq_none {w : ElementWords} (h : 3 < w.kind.toNat
    ∨ (w.kind.toNat < 3 ∧ (3 < w.selector.toNat ∨ 4096 < w.length.toNat ∨ w.mask.toNat % 8 = 0))
    ∨ (w.kind.toNat = 2 ∧ 999999 < w.start.toNat % 4294967296)
    ∨ (w.kind.toNat = 3 ∧ (7 < w.selector.toNat ∨ w.start.toNat / 281474976710656 = 0))) : elementOfWords w = none := by
  have hsensor : 3 < w.selector.toNat → Sensor.ofNum w.selector.toNat = none := fun hn => by
    obtain ⟨k, hk⟩ := Nat.exists_eq_add_of_lt hn
    rw [hk, show 3 + k + 1 = k + 4 from by omega]
    rfl
  have hplain (make : Sensor → ElementKind)
      (hbad : 3 < w.selector.toNat ∨ 4096 < w.length.toNat ∨ w.mask.toNat % 8 = 0) :
      (if maxLength < w.length.toNat ∨ (CompMask.ofNum w.mask.toNat).nonEmpty = false then none
        else (Sensor.ofNum w.selector.toNat).map make) = none := by
    split
    · rfl
    · rename_i hgood
      rcases hbad with hbad | hbad | hbad
      · rw [hsensor hbad]
        rfl
      · exact absurd (.inl hbad) hgood
      · exact absurd (.inr (CompMask.nonEmpty_ofNum hbad)) hgood
  have hkind : kindOfWords w = none := by
    unfold kindOfWords
    dsimp only
    rcases h with h | ⟨hlt, hbad⟩ | ⟨hk, hbad⟩ | ⟨hk, hbad⟩
    · obtain ⟨k, hk⟩ := Nat.exists_eq_add_of_lt h
      rw [hk, show 3 + k + 1 = k + 4 from by omega]
      rfl
    · obtain hk | hk | hk : w.kind.toNat = 0 ∨ w.kind.toNat = 1 ∨ w.kind.toNat = 2 := by omega
      · rw [hk]
        exact hplain _ hbad
      · rw [hk]
        exact hplain _ hbad
      · rw [hk]
        exact ite_eq_left_iff.2 fun _ => hplain _ hbad
    · rw [hk]
      exact if_pos (by simpa using hbad)
    · rw [hk]
      rcases hbad with hbad | hbad
      · exact ite_eq_left_iff.2 fun _ => dif_neg (by omega)
      · refine if_pos ?_
        have hzero : w.start.toNat / 2 ^ 48 = 0 := hbad
        rw [BitVec.extractLsb'_toNat, Nat.shiftRight_eq_div_pow, hzero]
  unfold elementOfWords
  rw [hkind]
  rfl

theorem elementsOf_eq_none {words : List ElementWords} (h : ∃ w ∈ words, elementOfWords w = none) :
    elementsOf words = none := by
  induction words with
  | nil =>
    obtain ⟨w, hw, -⟩ := h
    cases hw
  | cons x rest ih =>
    obtain ⟨w, hw, hnone⟩ := h
    unfold elementsOf
    rcases List.mem_cons.1 hw with rfl | hw
    · rw [hnone]
    · rw [ih ⟨w, hw, hnone⟩]
      cases elementOfWords x <;> rfl

theorem loadedElements_eq_none {count : Byte} {words : List ElementWords}
    (h : words.length = 0 ∨ 8 < words.length ∨ ∃ w ∈ words, elementOfWords w = none) :
    loadedElements count words = none := by
  unfold loadedElements
  split
  · rename_i hc
    obtain ⟨h1, h8, hlen⟩ := hc
    rcases h with h | h | h
    · omega
    · omega
    · exact elementsOf_eq_none h
  · rfl

theorem Answer.given_chain (a : Answer) (p q : Port) (code : Byte) : (a.given p code).chain q = a.state.chain q := rfl

/-- Settles O46: the branches of LOAD_CHAIN, by the chain's state and the elements given. -/
theorem loadReplacesIdleChain : Obligations.LoadReplacesIdleChain := by
  intro dt p count words s h hatt
  have hrun : Runs (.loadChain dt p count words) s
      (((s.elapse dt).answerLoad p count words).given p 0x0C#8) :=
    congrArg Host.Outcome.next (State.perform_given h dt _)
  have hatt' : ¬ (s.elapse dt).attached p = false := fun hd => absurd (hatt.symm.trans hd) (by decide)
  by_cases hload : (s.chain p).state.loadable = true
  · have hidle : (s.chain p).state ∈ ([.loaded, .running, .waiting, .paused] : List ChainState) → False := by
      intro hm
      cases hst : (s.chain p).state <;> rw [hst] at hm hload <;> simp [ChainState.loadable] at hm hload
    have hnot : ¬ ((s.elapse dt).chain p).state.loadable = false := fun hd => absurd (hload.symm.trans hd) (by decide)
    unfold State.answerLoad at hrun
    rw [if_neg hatt', if_neg hnot] at hrun
    cases hel : loadedElements count words with
    | none =>
      rw [hel] at hrun
      dsimp only at hrun
      exact ⟨_, hrun, rfl, rfl, fun hm => (hidle hm).elim, fun _ => ⟨fun _ he => (nomatch he), fun _ => ⟨rfl, rfl⟩⟩⟩
    | some elements =>
      rw [hel] at hrun
      dsimp only at hrun
      refine ⟨_, hrun, rfl, (Answer.given_chain _ _ _ _).trans (State.chain_modChain_other _ _ _), fun hm => (hidle hm).elim, fun _ => ⟨fun es he => ?_, fun hbad => ?_⟩⟩
      · cases he
        exact ⟨(Answer.given_chain _ _ _ _).trans (State.chain_modChain _ _ _), rfl⟩
      · have hnone : loadedElements count words = none := loadedElements_eq_none (hbad.imp_right fun h =>
          h.imp_right fun ⟨w, hw, hm⟩ => ⟨w, hw, elementOfWords_eq_none hm⟩)
        exact absurd (hel.symm.trans hnone) (nomatch ·)
  · have hbusy : ((s.elapse dt).chain p).state.loadable = false := Bool.eq_false_iff.2 hload
    unfold State.answerLoad at hrun
    rw [if_neg hatt', if_pos hbusy] at hrun
    refine ⟨_, hrun, rfl, rfl, fun _ => ⟨rfl, rfl⟩, fun hm => ?_⟩
    cases hst : (s.chain p).state <;> rw [hst] at hm hload <;> simp [ChainState.loadable] at hm hload

/-! ### PAUSE_CHAIN and RESET_CHAIN (R176, R178) -/

/-- Settles O48: the pause by the chain's state and wait. -/
theorem pauseKeepsAndResetAbandons : Obligations.PauseKeepsAndResetAbandons := by
  refine fun dt p s => ⟨fun h => ?_, fun h => ?_⟩
  · exact ⟨_, congrArg Host.Outcome.next (State.perform_given h dt _), rfl, rfl⟩
  · have hrun : Runs (.pauseChain dt p) s (((s.elapse dt).answerPause p).given p 0x0E#8) :=
      congrArg Host.Outcome.next (State.perform_given h dt _)
    have hchain : (s.elapse dt).chain p = s.chain p := rfl
    unfold State.answerPause at hrun
    rw [hchain] at hrun
    cases hst : (s.chain p).state with
    | running =>
      rw [hst] at hrun
      exact ⟨_, hrun, rfl, State.chain_modChain_other _ _ _, fun _ => ⟨State.chain_modChain _ _ _, rfl⟩,
        fun _ _ h => (nomatch h), (nomatch ·), fun h => by simp at h⟩
    | waiting =>
      rw [hst] at hrun
      cases hw : (s.chain p).wait with
      | none =>
        rw [hw] at hrun
        exact ⟨_, hrun, rfl, State.chain_modChain_other _ _ _, (nomatch ·), fun _ _ _ h => (nomatch h), (nomatch ·),
          fun h => by simp at h⟩
      | some w =>
        obtain ⟨kind, start⟩ := w
        rw [hw] at hrun
        cases kind
        · exact ⟨_, hrun, rfl, State.chain_modChain_other _ _ _, (nomatch ·),
            fun _ _ _ he => by cases he; exact ⟨State.chain_modChain _ _ _, rfl⟩, (nomatch ·), fun h => by simp at h⟩
        · exact ⟨_, hrun, rfl, State.chain_modChain_other _ _ _, (nomatch ·),
            fun _ _ _ he => by cases he; exact ⟨State.chain_modChain _ _ _, rfl⟩, (nomatch ·), fun h => by simp at h⟩
    | paused =>
      rw [hst] at hrun
      exact ⟨_, hrun, rfl, rfl, (nomatch ·), fun _ _ h => (nomatch h), fun _ => ⟨rfl, rfl⟩, fun h => by simp at h⟩
    | empty | loaded | done | faulted =>
      rw [hst] at hrun
      exact ⟨_, hrun, rfl, rfl, (nomatch ·), fun _ _ h => (nomatch h), (nomatch ·), fun _ => ⟨rfl, rfl⟩⟩

/-! ### START_CHAIN (R166, R177) -/

theorem State.modChain_modChain (s : State) (p : Port) (f g : Chain → Chain) :
    (s.modChain p f).modChain p g = s.modChain p fun c => g (f c) := by
  simp [State.modChain]

/-- R48: a reader position that has not been overtaken is evaluated: it has a level, and at most RING_PRESSURE is
raised. -/
theorem State.evalReader_of_ahead {s : State} {p : Port} {plan : ElementPlan} {run : ElementRun} {old : Pressure}
    (hplan : (s.chain p).plan = some plan) (hrun : (s.chain p).run = some run) (hlevel : run.level = some old)
    (hahead : (s.ring.get plan.sensor).below run.next = false) :
    ∃ level attention, s.evalReader p = { s with
      chains := s.chains.set p { s.chain p with run := some { run with level := some level } }
      attention := attention } := by
  have hno : ¬ s.collides p = true := by
    unfold State.collides
    rw [hplan, hrun]
    dsimp only
    rw [hahead, Bool.and_false]
    decide
  unfold State.evalReader State.evaluateLevel
  rw [if_neg hno, hplan, hrun]
  dsimp only
  rw [hlevel]
  dsimp only
  split
  · exact ⟨_, _, rfl⟩
  · exact ⟨_, _, rfl⟩

/-- R174: a RUNNING chain waits for data where its next sample has not been written. -/
theorem State.waitIfBeyond_of_running {s : State} {p : Port} {plan : ElementPlan} {run : ElementRun}
    (hstate : (s.chain p).state = .running) (hplan : (s.chain p).plan = some plan) (hrun : (s.chain p).run = some run) :
    s.waitIfBeyond p = if (s.ring.get plan.sensor).beyond run.next
      then s.modChain p fun c => { c with state := .waiting, wait := some (.data, s.time.localTime) } else s := by
  unfold State.waitIfBeyond
  rw [hstate, hplan, hrun]

theorem RingRecord.below_of_le {r : RingRecord} {o n : Nat} (ho : r.oldest = some o) (h : o ≤ n) : r.below n = false := by
  unfold RingRecord.below
  rw [ho]
  exact decide_eq_false (Nat.not_lt.2 h)

theorem RingRecord.beyond_iff {r : RingRecord} {m n : Nat} (hm : r.newest = some m) : r.beyond n = true ↔ m < n := by
  unfold RingRecord.beyond
  rw [hm]
  exact decide_eq_true_iff

/-- R167: an element with sets to read is placed at its start. -/
theorem State.placeStart_of_ne {plan : ElementPlan} (h : plan.length ≠ 0) (s : State) (p : Port) (n : Nat)
    (note : StartNote) (level : Pressure) : s.placeStart p plan n note level
      = (((s.modChain p fun c => { c with
          state := .running, pendingStart := none, wait := none, pausePoint := none
          run := some { first := n, note := note, next := n, progress := 0, level := some level } }).evalReader
        p).waitIfBeyond p, false) := if_neg h

/-- R167, R168, R174: an element that names a sample number in the ring begins there. -/
theorem State.beginElement_bySample {s : State} {p : Port} {el : Element} {rest : List Element} {sen : Sensor}
    {start length oldest newest fuel : Nat} {mask : CompMask} (hel : (s.chain p).elements = el :: rest)
    (hkind : el.kind = .bySample sen start length mask) (hlen : 0 < length)
    (ho : (s.ring.get sen).oldest = some oldest) (hn : (s.ring.get sen).newest = some newest) (hle : oldest ≤ start) :
    ∃ level attention, s.beginElement (fuel + 1) p 0 none = { s with
      chains := s.chains.set p { s.chain p with
        state := if start ≤ newest then .running else .waiting
        current := some 0
        plan := some { sensor := sen, length := length, mask := mask }
        run := some { first := start, note := .none, next := start, progress := 0, level := some level }
        pendingStart := none
        wait := if start ≤ newest then none else some (.data, s.time.localTime)
        pausePoint := none }
      attention := attention } := by
  have hbelow := RingRecord.below_of_le ho hle
  have hres : (s.ring.get sen).resolveSample start = (start, .none) := by
    unfold RingRecord.resolveSample
    rw [hbelow]
    rfl
  have hat : (s.chain p).elements[0]? = some el := by rw [hel]; rfl
  -- the chain as the element is placed, before its position is evaluated
  obtain ⟨u, hu⟩ : ∃ u : State, u = s.modChain p fun c => { c with
      state := .running, current := some 0, plan := some { sensor := sen, length := length, mask := mask }
      run := some { first := start, note := .none, next := start, progress := 0, level := some .none }
      pendingStart := none, wait := none, pausePoint := none } := ⟨_, rfl⟩
  have hbegin : s.beginElement (fuel + 1) p 0 none = (u.evalReader p).waitIfBeyond p := by
    unfold State.beginElement
    rw [hat]
    dsimp only
    rw [hkind]
    dsimp only [State.elementStart, State.resolve, State.modChain_ring]
    rw [hres]
    simp only [State.placeStart_of_ne (plan := ⟨sen, length, mask⟩) (Nat.ne_of_gt hlen)]
    rw [State.modChain_modChain, State.modChain_modChain, hu]
    rfl
  have huchain : u.chain p = { s.chain p with
      state := .running, current := some 0, plan := some { sensor := sen, length := length, mask := mask }
      run := some { first := start, note := .none, next := start, progress := 0, level := some .none }
      pendingStart := none, wait := none, pausePoint := none } := by
    rw [hu]
    exact State.chain_modChain _ _ _
  obtain ⟨level, attention, he⟩ := State.evalReader_of_ahead (s := u) (p := p)
    (plan := { sensor := sen, length := length, mask := mask })
    (run := { first := start, note := .none, next := start, progress := 0, level := some .none }) (old := .none)
    (by rw [huchain]) (by rw [huchain]) rfl (by rw [hu]; exact hbelow)
  have hechain : (u.evalReader p).chain p = { s.chain p with
      state := .running, current := some 0, plan := some { sensor := sen, length := length, mask := mask }
      run := some { first := start, note := .none, next := start, progress := 0, level := some level }
      pendingStart := none, wait := none, pausePoint := none } := by
    rw [he]
    refine (PerPort.get_set _ _ _).trans ?_
    rw [huchain]
  have hering : (u.evalReader p).ring = s.ring := by
    rw [he, hu]
    rfl
  refine ⟨level, attention, ?_⟩
  rw [hbegin, State.waitIfBeyond_of_running (by rw [hechain]) (by rw [hechain]) (by rw [hechain]), hering]
  by_cases hw : start ≤ newest
  · rw [if_neg fun hb => Nat.not_lt.2 hw ((RingRecord.beyond_iff hn).1 hb), he, huchain, if_pos hw, if_pos hw, hu]
    simp [State.modChain]
  · rw [if_pos ((RingRecord.beyond_iff hn).2 (Nat.not_le.1 hw)), he, huchain, if_neg hw, if_neg hw, hu]
    simp [State.modChain]

/-- Settles O47. -/
theorem startBeginsOrResumesChain : Obligations.StartBeginsOrResumesChain := by
  refine fun dt p s h => ⟨fun sen start length mask el rest oldest newest hst hel hkind hlen ho hn hle => ?_,
    fun plan run newest hst hpp hplan hrn hn hle => ?_, fun state result code hmem hst => ?_⟩
  all_goals
    have hrun : Runs (.startChain dt p) s (((s.elapse dt).answerStart p).given p 0x0D#8) :=
      congrArg Host.Outcome.next (State.perform_given h dt _)
    have hchain : (s.elapse dt).chain p = s.chain p := rfl
    unfold State.answerStart at hrun
    rw [hchain, hst] at hrun
    dsimp only at hrun
  · obtain ⟨level, attention, hb⟩ := State.beginElement_bySample (s := s.elapse dt) (fuel := 8) hel hkind hlen ho hn hle
    rw [show elementFuel = 8 + 1 from rfl, hb] at hrun
    refine ⟨_, level, hrun, rfl, PerPort.get_set_other _ _ _, PerPort.get_set _ _ _, (Answer.answered (s := s) _ rfl).trans ?_⟩
    simp only [State.chainStateByte, State.chain, PerPort.get_set]
    by_cases hw : start ≤ newest
    · rw [if_pos hw, if_pos hw]
      rfl
    · rw [if_neg hw, if_neg hw]
      rfl
  · have hb : (s.elapse dt).resume p
        = (s.elapse dt).modChain p fun c => { c with state := .running, pausePoint := none } := by
      unfold State.resume
      rw [hchain, hpp]
      refine (State.waitIfBeyond_of_running (plan := plan) (run := run) ?_ ?_ ?_).trans ?_
      · rw [State.chain_modChain]
      · rw [State.chain_modChain]
        exact hplan
      · rw [State.chain_modChain]
        exact hrn
      · exact if_neg fun hbeyond => Nat.not_lt.2 hle ((RingRecord.beyond_iff hn).1 hbeyond)
    rw [hb] at hrun
    refine ⟨_, hrun, rfl, rfl, (Answer.answered (s := s) _ rfl).trans ?_⟩
    simp [State.chainStateByte, ChainState.num]
    rfl
  · have hbyte : (s.elapse dt).chainStateByte p = [BitVec.ofNat 8 state.num] := by
      unfold State.chainStateByte
      rw [hchain, hst]
      rfl
    rw [hbyte] at hrun
    simp only [List.mem_cons, Prod.mk.injEq, List.not_mem_nil, or_false] at hmem
    obtain ⟨rfl, rfl, rfl⟩ | ⟨rfl, rfl, rfl⟩ | ⟨rfl, rfl, rfl⟩ | ⟨rfl, rfl, rfl⟩ | ⟨rfl, rfl, rfl⟩ := hmem
    all_goals exact ⟨_, hrun, rfl, rfl⟩

/-! ### READ_EXCERPT (R181, Table 11-7) -/

/-- R181: whether a set goes with the oldest one into an answer. -/
def BufferedSet.goesWith (size : PageSize) (x y : BufferedSet) : Bool :=
  y.element == x.element && y.sample / size.sets == x.sample / size.sets

theorem BufferedSet.goesWith_iff (size : PageSize) (x y : BufferedSet) :
    x.goesWith size y = true ↔ y.element = x.element ∧ y.sample / size.sets = x.sample / size.sets := by
  simp [BufferedSet.goesWith]

theorem answerSets_cons (size : PageSize) (maximum : Nat) (x : BufferedSet) (rest : List BufferedSet) :
    answerSets size maximum (x :: rest) = ((x :: rest).takeWhile (x.goesWith size)).take maximum := rfl

theorem answerSets_ne_nil {size : PageSize} {maximum : Nat} (h : 1 ≤ maximum) (x : BufferedSet)
    (rest : List BufferedSet) : answerSets size maximum (x :: rest) ≠ [] := by
  obtain ⟨m, rfl⟩ : ∃ m, maximum = m + 1 := ⟨maximum - 1, by omega⟩
  rw [answerSets_cons, List.takeWhile_cons_of_pos ((BufferedSet.goesWith_iff _ _ _).2 ⟨rfl, rfl⟩), List.take_succ_cons]
  exact List.cons_ne_nil _ _

/-- R181: the sets of an answer are the oldest of the buffer. -/
theorem answerSets_append_drop (size : PageSize) (maximum : Nat) (x : BufferedSet) (rest : List BufferedSet) :
    x :: rest = answerSets size maximum (x :: rest) ++ (x :: rest).drop (answerSets size maximum (x :: rest)).length :=
  List.prefix_iff_eq_append.1 ((List.take_prefix _ _).trans (List.takeWhile_prefix _)) |>.symm

/-- R181: an answer stops at the maximum, or where the next set is of another element or page. -/
theorem answerSets_stops {size : PageSize} {maximum : Nat} {x next : BufferedSet} {rest : List BufferedSet}
    (h : ((x :: rest).drop (answerSets size maximum (x :: rest)).length).head? = some next) :
    (answerSets size maximum (x :: rest)).length = maximum ∨ x.goesWith size next = false := by
  rw [answerSets_cons] at h ⊢
  by_cases hlen : maximum ≤ ((x :: rest).takeWhile (x.goesWith size)).length
  · exact .inl (List.length_take_of_le hlen)
  · rw [List.take_of_length_le (Nat.le_of_not_le hlen)] at h
    have hdrop := List.drop_left (l₁ := (x :: rest).takeWhile (x.goesWith size))
      (l₂ := (x :: rest).dropWhile (x.goesWith size))
    rw [List.takeWhile_append_dropWhile] at hdrop
    rw [hdrop] at h
    refine .inr (Bool.eq_false_iff.2 fun hp => ?_)
    have hnot := List.head?_dropWhile_not (x.goesWith size) (x :: rest)
    rw [h] at hnot
    simp [hp] at hnot

/-- Table 11-7: the bytes of a set of given mask. -/
theorem BufferedSet.bytes_length (x : BufferedSet) :
    x.bytes.length = 1 + 3 * (x.mask.z.toNat + x.mask.n.toNat + x.mask.e.toNat) := by
  have hcomp (f : SampleSet → Int) : (x.component f).length = 3 := bytesBE_length 3 _
  unfold BufferedSet.bytes
  cases x.content <;> cases x.mask.z <;> cases x.mask.n <;> cases x.mask.e <;> simp [hcomp]

theorem BufferedSet.header_length (x last : BufferedSet) (count : Nat) : (x.header last count).length = 29 := by
  have hlocal := field_length (n := 8) (code := u64) (fun _ => bytesBE_length _ _) x.time.localTime
  have habs := field_length absBytes_length x.time.absTime
  unfold BufferedSet.header
  simp only [List.length_append, hlocal, habs, List.length_cons, List.length_nil]
  rfl

theorem BufferedSet.header_count (x last : BufferedSet) (count : Nat) :
    (x.header last count)[28]? = some (BitVec.ofNat 8 count) := by
  have hlen := x.header_length last count
  have hlast : (u8 count).length = 1 := bytesBE_length 1 count
  unfold BufferedSet.header at hlen ⊢
  rw [List.length_append, hlast] at hlen
  rw [List.getElem?_append_right (by omega), Nat.sub_eq_zero_of_le (by omega)]
  rfl

/-- Settles O49: the answer is the longest part from the front of the buffer that may go with its first set. -/
theorem readExcerptDrainsInOrder : Obligations.ReadExcerptDrainsInOrder := by
  intro dt p maximum s h
  have hrun : Runs (.readExcerpt dt p maximum) s (((s.elapse dt).answerRead p maximum.toNat).given p 0x10#8) :=
    congrArg Host.Outcome.next (State.perform_given h dt _)
  have hchain : (s.elapse dt).chain p = s.chain p := rfl
  by_cases hbad : maximum.toNat = 0 ∨ 64 < maximum.toNat
  · have hans : (s.elapse dt).answerRead p maximum.toNat = (s.elapse dt).refuse .badArg := if_pos (by omega)
    rw [hans] at hrun
    exact ⟨_, hrun, rfl, rfl, rfl, fun _ => ⟨rfl, rfl⟩, fun h1 h64 => by omega, fun _ _ h1 h64 => by omega⟩
  · have hgood : ¬ (maximum.toNat < 1 ∨ 64 < maximum.toNat) := by omega
    unfold State.answerRead at hrun
    rw [if_neg hgood, hchain] at hrun
    cases hbuf : (s.chain p).buffer with
    | nil =>
      rw [hbuf] at hrun
      exact ⟨_, hrun, rfl, rfl, rfl, fun h => absurd h hbad, fun _ _ _ => rfl, fun _ _ _ _ h => (nomatch h)⟩
    | cons x rest =>
      rw [hbuf] at hrun
      dsimp only at hrun
      obtain ⟨given, hgiven⟩ : ∃ given, given = answerSets s.pageSize.active maximum.toNat (x :: rest) := ⟨_, rfl⟩
      have hsize : (s.elapse dt).pageSize = s.pageSize := rfl
      rw [hsize, ← hgiven] at hrun
      have hgoes : ∀ y ∈ given, x.goesWith s.pageSize.active y = true := fun y hy => by
        rw [hgiven, answerSets_cons] at hy
        exact List.mem_takeWhile_imp (List.mem_of_mem_take hy)
      have hkept : ((s.chain p).buffer.drop given.length) = (x :: rest).drop given.length := by rw [hbuf]
      have hchain' : ∀ data, ((Answer.mk ((s.elapse dt).modChain p fun c => { c with
          buffer := c.buffer.drop given.length }) .ok data).given p 0x10#8).chain p
          = { s.chain p with buffer := (s.chain p).buffer.drop given.length } := fun _ => PerPort.get_set _ _ _
      refine ⟨_, hrun, rfl, PerPort.get_set_other _ _ _, ?_, fun h => absurd h hbad, fun _ _ h => (nomatch h),
        fun first rest' _ _ hf => ?_⟩
      · rw [hchain']
      · cases hf
        rw [hchain']
        refine ⟨given, ?_, ?_, ?_, fun y hy => (BufferedSet.goesWith_iff _ _ _).1 (hgoes y hy), fun next hn => ?_,
          ?_⟩
        · rw [hgiven]
          exact answerSets_ne_nil (by omega) _ _
        · rw [hgiven, answerSets_cons]
          exact List.length_take_le _ _
        · rw [hkept, hgiven]
          exact answerSets_append_drop _ _ _ _
        · rw [hkept, hgiven] at hn
          rcases answerSets_stops hn with hlen | hno
          · exact .inl (by rw [hgiven, hlen])
          · refine .inr ?_
            rw [← not_and_or]
            exact fun hand => absurd ((BufferedSet.goesWith_iff _ _ _).2 hand) (Bool.eq_false_iff.1 hno)
        · refine ⟨_, Answer.answered (s := s) _ rfl, rfl, ?_, fun hmask => ?_⟩
          · rw [List.append_assoc, List.getElem?_append_left (by rw [BufferedSet.header_length]; decide)]
            exact x.header_count _ _
          · have hsets : (given.flatMap BufferedSet.bytes).length
                = given.length * (1 + 3 * (x.mask.z.toNat + x.mask.n.toNat + x.mask.e.toNat)) := by
              rw [List.length_flatMap, List.map_congr_left (g := fun _ => _) fun y hy => by
                rw [y.bytes_length, hmask y hy], List.map_const', List.sum_replicate, smul_eq_mul]
            rw [List.length_append, List.length_append, BufferedSet.header_length, hsets]
            rfl

end Sys2Proof.Machine


/-! PROOFS. Frames: what handing on a set leaves of the other sensors, where it stands, and the frames of a RUNNING
sensor. -/

namespace Sys2Proof.Machine

/-! ### The other sensors -/

/-- What a frame of a sensor can do: of another sensor at most its map is read. -/
structure Spares (sen : Sensor) (s t : State) : Prop where
  works : WorksOn s t
  ring : ∀ i, i ≠ sen → (s.ring.get i).Settles (t.ring.get i)
  detector : ∀ i, i ≠ sen → t.detector.get i = s.detector.get i

theorem RingRecord.Settles.refl (r : RingRecord) : r.Settles r := (RingRecord.MapReads.refl r).settles

theorem Spares.refl (sen : Sensor) (s : State) : Spares sen s s := ⟨.refl s, fun _ _ => .refl _, fun _ _ => rfl⟩

theorem Spares.trans {sen : Sensor} {s t u : State} (h : Spares sen s t) (k : Spares sen t u) : Spares sen s u :=
  ⟨h.works.trans k.works, fun i hi => (h.ring i hi).trans (k.ring i hi),
    fun i hi => (k.detector i hi).trans (h.detector i hi)⟩

theorem State.handOn_spares (s : State) (sen : Sensor) (set : SampleSet) (start : Bool) (arrival : Nat) :
    Spares sen s (s.handOn sen set start arrival) := by
  refine ⟨s.handOn_works sen set start arrival, fun i hi => s.handOn_ring_other hi set start arrival, fun i hi => ?_⟩
  rw [(s.handOn_follows sen set start arrival).others i hi, (s.storeSet_stores sen set start arrival).rest]

/-- A change of intake records and attention alone. -/
theorem WorksOn.spares {sen : Sensor} {s t : State} (h : WorksOn s t) (hr : t.ring = s.ring)
    (hd : t.detector = s.detector) : Spares sen s t :=
  ⟨h, fun _ _ => by rw [hr]; exact .refl _, fun _ _ => by rw [hd]⟩

theorem State.modIntake_spares {s : State} {i : Sensor} {f : IntakeRecord → IntakeRecord} (sen : Sensor)
    (hf : ∀ r, (f r).correction.staged = r.correction.staged) : Spares sen s (s.modIntake i f) :=
  (State.modIntake_works hf).spares rfl rfl

theorem State.setIntakeFlag_spares (s : State) (i sen : Sensor) (f : IntakeFlag) :
    Spares sen s (s.setIntakeFlag i f) := (State.setIntakeFlag_works s i f).spares rfl rfl

theorem State.fill_spares (s : State) (sen : Sensor) (held : SampleSet) (d : Nat) : Spares sen s (s.fill sen held d) := by
  have go : ∀ (l : List Nat) (arrival : Nat → Nat) (u : State), Spares sen u (l.foldl
      (fun t i => t.handOn sen held false (arrival i)) u) := by
    intro l arrival
    induction l with
    | nil => exact Spares.refl sen
    | cons i rest ih => exact fun u => (State.handOn_spares u _ _ _ _).trans (ih _)
  exact go _ _ s

theorem State.fill_intake (s : State) (sen : Sensor) (held : SampleSet) (d : Nat) :
    (s.fill sen held d).intake = s.intake := by
  have go : ∀ (l : List Nat) (arrival : Nat → Nat) (u : State), (l.foldl
      (fun t i => t.handOn sen held false (arrival i)) u).intake = u.intake := by
    intro l arrival
    induction l with
    | nil => exact fun _ => rfl
    | cons i rest ih => exact fun u => (ih _).trans (State.handOn_intake u _ _ _ _)
  exact go _ _ s

/-- What the statements about frames say of the others. -/
theorem Spares.others {sen : Sensor} {s t : State} {dt : Nat} (h : Spares sen (s.elapse dt) t) : SparesOthers s t sen dt := by
  have hrest := h.works.rest
  refine ⟨fun i hi => ⟨(h.ring i hi).slots, (h.ring i hi).newest, h.detector i hi⟩, ?_, ?_, ?_, ?_, ?_, ?_, ?_, ?_,
    h.works.refinement.1, h.works.settings⟩ <;> rw [hrest] <;> rfl

/-! ### Where a set stands -/

/-- R4: after a set has been placed, what is done with it leaves the ring but for its map. -/
theorem State.handOn_settles (s : State) (sen : Sensor) (set : SampleSet) (start : Bool) (arrival : Nat) :
    ((s.placeSet sen set start arrival).ring.get sen).Settles ((s.handOn sen set start arrival).ring.get sen) := by
  obtain ⟨v, newestLocal, hv, hstored⟩ := s.storeSet_ring sen set start arrival
  have hfollows := ((s.handOn_follows sen set start arrival).ring sen).settles
  rw [hstored] at hfollows
  exact (hv.settles.trans (v.settles_newestLocal newestLocal)).trans hfollows

/-- R36: a set stands behind the newest one of a page that has room. -/
theorem State.placeSet_append {s : State} {sen : Sensor} {n : Nat} (hn : (s.ring.get sen).newest = some n)
    (hpage : (s.ring.get sen).page = some .opened) (hroom : (n + 1) % s.pageSize.active.sets ≠ 0) (set : SampleSet)
    (arrival : Nat) : s.placeSet sen set false arrival = s.appendSet sen set (n + 1) := by
  unfold State.placeSet
  dsimp only
  rw [hpage, hn]
  exact if_neg hroom

/-- R36, R38: a set that starts no stream has the sample number after the newest, where the page in use is OPEN or ends
there. -/
theorem State.placeSet_next {s : State} {sen : Sensor} {n : Nat} (hn : (s.ring.get sen).newest = some n)
    (hpage : (s.ring.get sen).page = some .opened ∨ (n + 1) % s.pageSize.active.sets = 0) (set : SampleSet)
    (arrival : Nat) : ((s.placeSet sen set false arrival).ring.get sen).newest = some (n + 1)
      ∧ ((s.placeSet sen set false arrival).ring.get sen).slots
        = Store.write (s.ring.get sen).slots ((n + 1) % Config.ringSlots) set := by
  have hopen : ((s.openPage sen set (n + 1) arrival).ring.get sen).newest = some (n + 1)
      ∧ ((s.openPage sen set (n + 1) arrival).ring.get sen).slots
        = Store.write (s.ring.get sen).slots ((n + 1) % Config.ringSlots) set := by
    rw [State.openPage_ring]
    exact ⟨rfl, rfl⟩
  by_cases hp : (s.ring.get sen).page = some .opened
  · by_cases hroom : (n + 1) % s.pageSize.active.sets = 0
    · have hplace : s.placeSet sen set false arrival = s.openPage sen set (n + 1) arrival := by
        unfold State.placeSet
        dsimp only
        rw [hp, hn]
        exact if_pos hroom
      rw [hplace]
      exact hopen
    · rw [State.placeSet_append hn hp hroom]
      have h := State.appendSet_ring s sen set (n + 1)
      exact ⟨h.newest, h.slots⟩
  · have hfull := hpage.resolve_left hp
    have hplace : s.placeSet sen set false arrival = s.openPage sen set (n + 1) arrival := by
      unfold State.placeSet
      dsimp only
      split
      · rename_i h _ _
        cases h
      · exact absurd ‹_› hp
      · rw [RingRecord.nextPageStart_of_full hn hfull]
    rw [hplace]
    exact hopen

/-- R36: what a frame of a RUNNING sensor hands on stands behind its newest set. -/
theorem State.handOn_takes {s : State} {sen : Sensor} (h : PageInv s) (hrun : (s.intake.get sen).state = .running)
    (set : SampleSet) (arrival : Nat) : Takes s (s.handOn sen set false arrival) sen [set] := by
  intro n hn
  have hpage : (s.ring.get sen).page = some .opened ∨ (n + 1) % s.pageSize.active.sets = 0 := by
    obtain ⟨-, hsome⟩ := pageInv_iff.1 h sen
    obtain ⟨-, -, hrunning⟩ := hsome n hn
    refine (hrunning hrun).imp_right fun hlast => ?_
    rw [PageSize.mod_succ, if_pos hlast]
  obtain ⟨hnew, hslots⟩ := State.placeSet_next hn hpage set arrival
  have hs := s.handOn_settles sen set false arrival
  refine ⟨hs.newest.trans hnew, fun i x hx => ?_, fun k hk => ?_⟩
  · rw [hs.slots, hslots]
    cases i with
    | zero =>
      cases hx
      exact Store.read_write _ _ _
    | succ i => cases hx
  · rw [hs.slots, hslots]
    exact Store.read_write_ne _ _ (hk 0 Nat.zero_lt_one)

theorem Takes.of_ring {s s' t t' : State} {sen : Sensor} {l : List SampleSet} (h : Takes s t sen l)
    (hs : s'.ring = s.ring) (ht : t'.ring = t.ring) : Takes s' t' sen l := by
  unfold Takes
  rw [hs, ht]
  exact h

theorem Takes.nil (s : State) (sen : Sensor) : Takes s s sen [] :=
  fun _ hn => ⟨hn, fun _ _ h => (nomatch h), fun _ _ => rfl⟩

/-- Sets after sets: no slot is written twice while there are no more of them than slots. -/
theorem Takes.append {s t u : State} {sen : Sensor} {l m : List SampleSet} (h : Takes s t sen l) (k : Takes t u sen m)
    (hlen : l.length + m.length ≤ 32768) : Takes s u sen (l ++ m) := by
  intro n hn
  obtain ⟨hnew, hl, hkeep⟩ := h n hn
  obtain ⟨hnew', hm, hkeep'⟩ := k _ hnew
  refine ⟨?_, fun i x hx => ?_, fun j hj => ?_⟩
  · rw [hnew', List.length_append, Nat.add_assoc]
  · by_cases hi : i < l.length
    · rw [List.getElem?_append_left hi] at hx
      rw [hkeep' _ fun j hj => ?_]
      · exact hl i x hx
      · omega
    · rw [List.getElem?_append_right (Nat.le_of_not_lt hi)] at hx
      have := hm _ x hx
      rwa [show n + l.length + 1 + (i - l.length) = n + 1 + i by omega] at this
  · rw [hkeep' j fun i hi => ?_, hkeep j fun i hi => ?_]
    · exact hj i (by rw [List.length_append]; omega)
    · have := hj (l.length + i) (by rw [List.length_append]; omega)
      rwa [show n + 1 + (l.length + i) = n + l.length + 1 + i by omega] at this

/-- R7: the held sets of a short jump stand one behind the other. -/
theorem State.fill_takes {s : State} {sen : Sensor} (h : PageInv s) (hrun : (s.intake.get sen).state = .running)
    (held : SampleSet) {d : Nat} (hd : d ≤ 15) : Takes s (s.fill sen held d) sen (List.replicate d held)
      ∧ PageInv (s.fill sen held d) := by
  have go : ∀ (l : List Nat) (arrival : Nat → Nat) (u : State), l.length ≤ 15 → PageInv u →
      (u.intake.get sen).state = .running →
      Takes u (l.foldl (fun t i => t.handOn sen held false (arrival i)) u) sen (List.replicate l.length held)
        ∧ PageInv (l.foldl (fun t i => t.handOn sen held false (arrival i)) u) := by
    intro l arrival
    induction l with
    | nil => exact fun u _ hu _ => ⟨.nil u sen, hu⟩
    | cons i rest ih =>
      intro u hl hu hr
      have hint := State.handOn_intake u sen held false (arrival i)
      have hinv : PageInv (u.handOn sen held false (arrival i)) := by
        have k := hu.handOn sen held false (arrival i) (f := id)
        rwa [State.modIntake_id] at k
      rw [List.length_cons] at hl
      obtain ⟨htakes, hinv'⟩ := ih (u.handOn sen held false (arrival i)) (by omega) hinv (by rw [hint]; exact hr)
      refine ⟨(State.handOn_takes hu hr held (arrival i)).append htakes ?_, hinv'⟩
      rw [List.length_replicate, List.length_singleton]
      omega
  have := go (List.range d) (fun i => s.time.localTime - (d - i) * (s.rate sen).period) s (by simpa using hd) h hrun
  rwa [List.length_range] at this

/-! ### Flags -/

/-- R12: a flag that was clear raises INTAKE_FAULT at both ports. -/
theorem State.setIntakeFlag_pends {s : State} {sen : Sensor} {f : IntakeFlag}
    (h : (s.intake.get sen).flags.has f = false) (p : Port) : Pends (s.setIntakeFlag sen f) p .intakeFault := by
  unfold State.setIntakeFlag Pends
  rw [h]
  simp

/-- What the part does on its own clears no latched class. -/
theorem WorksOn.pends {s t : State} (h : WorksOn s t) {p : Port} {c : AttnClass} (hc : c ≠ .offer) (hp : Pends s p c) :
    Pends t p c := (h.attention p).keeps c hc hp

/-! ### Frames -/

/-- R1: the row of a frame of 12 bytes with no application pending. -/
theorem frame_runs {dt : Nat} {bytes : List Byte} {f : Frame} {s : State} (hf : parseFrame bytes = some f)
    (ha : (s.intake.get f.sensor).applyPending = false) :
    Runs (.sampleLinkFrame dt bytes) s ((s.elapse dt).handleFrame f) := by
  refine congrArg Host.Outcome.next ?_
  unfold State.frame
  rw [hf]
  dsimp only
  unfold State.copyAtFrame
  rw [if_neg]
  exact fun hc => absurd (hc.symm.trans ha) (by decide)

theorem parseFrame_eq_none {bytes : List Byte} (h : bytes.length ≠ 12) : parseFrame bytes = none := by
  unfold parseFrame
  split
  · exact absurd rfl h
  · rfl

/-- Settles O10: such a frame ends in one count or one flag. -/
theorem discardedFramesHandOnNothing : Obligations.DiscardedFramesHandOnNothing := by
  refine ⟨fun dt bytes s h => congrArg Host.Outcome.next ?_, fun dt bytes f s hf ha hoff => ?_,
    fun dt bytes f s hf hbad ha hst => ?_⟩
  · unfold State.frame
    rw [parseFrame_eq_none h]
    rfl
  · refine (frame_runs hf ha).trans (congrArg Host.Outcome.next ?_)
    have hst : ((s.elapse dt).intake.get f.sensor).state = .off := hoff
    unfold State.handleFrame
    rw [hst]
    cases f.good <;> rfl
  · have hhandle : (s.elapse dt).handleFrame f = (s.elapse dt).setIntakeFlag f.sensor .parity := by
      unfold State.handleFrame
      rw [hbad]
      rcases hst with h | h
      · rw [show ((s.elapse dt).intake.get f.sensor).state = .starting from h]
      · rw [show ((s.elapse dt).intake.get f.sensor).state = .gap from h]
    refine ⟨_, (frame_runs hf ha).trans (congrArg Host.Outcome.next hhandle), rfl, rfl, ?_⟩
    cases hflag : (s.intake.get f.sensor).flags.parity with
    | true =>
      exact if_pos (by exact hflag)
    | false => exact fun p => State.setIntakeFlag_pends (by exact hflag) p

/-! ### The correction (R15, R16) -/

theorem saturateSample_eq (x : Int) : saturateSample x = max (-8388607) (min 8388607 x) := saturate_eq (by decide) x

theorem saturateSample_ne_iff (x : Int) : saturateSample x ≠ x ↔ x < -8388607 ∨ 8388607 < x := by
  rw [saturateSample_eq]
  omega

theorem correct_clip (g : CorrectionGroup) (f : Frame) : (correct g f).clip = true ↔ f.clip = true
    ∨ ∃ x ∈ [gained f.z g.offsetZ g.gainZ, gained f.h1 g.offsetH1 g.gainH1, gained f.h2 g.offsetH2 g.gainH2,
        rotated (g.cosine * saturateSample (gained f.h1 g.offsetH1 g.gainH1)
          - g.sine * saturateSample (gained f.h2 g.offsetH2 g.gainH2)),
        rotated (g.sine * saturateSample (gained f.h1 g.offsetH1 g.gainH1)
          + g.cosine * saturateSample (gained f.h2 g.offsetH2 g.gainH2))], x < -8388607 ∨ 8388607 < x := by
  have hany (l : List Int) : (l.any fun x => decide (saturateSample x ≠ x)) = true
      ↔ ∃ x ∈ l, x < -8388607 ∨ 8388607 < x := by
    rw [List.any_eq_true]
    exact exists_congr fun x => and_congr_right fun _ => decide_eq_true_iff.trans (saturateSample_ne_iff x)
  rw [← hany, ← Bool.or_eq_true]
  rfl

/-! ### Frames in RUNNING (R6, R7, R9) -/

theorem IntakeRecord.distance_of_expected {r : IntakeRecord} {next : BitVec 8} (h : r.expected = some next)
    (sequence : BitVec 8) : r.distance sequence = (sequence - next).toNat := by
  unfold IntakeRecord.distance
  rw [h]
  rfl

theorem State.handleFrame_good {s : State} {f : Frame} (hg : f.good = true)
    (hr : (s.intake.get f.sensor).state = .running) : s.handleFrame f = s.goodRunning f := by
  unfold State.handleFrame
  rw [hr, hg]

theorem State.handleFrame_bad {s : State} {f : Frame} (hg : f.good = false)
    (hr : (s.intake.get f.sensor).state = .running) : s.handleFrame f = s.badRunning f.sensor := by
  unfold State.handleFrame
  rw [hr, hg]

/-- R6: what a good frame in its turn leaves of its intake record. -/
theorem IntakeRecord.took_eq {r : IntakeRecord} {sequence : BitVec 8} (h : r.expected = some sequence) (set : SampleSet)
    (now : Nat) (autoClear : Bool) : r.took set now autoClear = { r with
      expected := some (sequence + 1#8)
      lastGood := some set
      consecutiveBad := 0
      consecutiveGood := min (r.consecutiveGood + 1) 64
      flags := if autoClear = true ∧ r.consecutiveGood + 1 = 64 then ⟨false, false, false⟩ else r.flags
      silenceTimer := some now } := by
  unfold IntakeRecord.took
  rw [h]
  rfl

/-! ### The three frames of RUNNING -/

/-- R12: what a frame that sets an intake flag and hands on sets does, beyond its intake record. -/
structure StoresFlagged (s t : State) (sen : Sensor) (flag : IntakeFlag) (sets : List SampleSet) : Prop where
  spares : Spares sen s t
  pends : (s.intake.get sen).flags.has flag = false → ∀ p, Pends t p .intakeFault
  takes : PageInv s → Takes s t sen sets

section
variable {s : State} {f : Frame} {sen : Sensor}

/-- R6: in its turn. -/
theorem State.goodRunning_turn (h : (s.intake.get f.sensor).distance f.sequence = 0) : s.goodRunning f = s.takeFrame f := by
  unfold State.goodRunning
  exact if_pos h

/-- R7: after a jump of no more than 15. -/
theorem State.goodRunning_short {d : Nat} (h : (s.intake.get f.sensor).distance f.sequence = d) (h1 : 1 ≤ d)
    (h15 : d ≤ 15) : s.goodRunning f = s.shortJump f d := by
  unfold State.goodRunning
  dsimp only
  rw [h, if_neg (Nat.one_le_iff_ne_zero.1 h1), if_pos h15]

theorem State.takeFrame_spares (s : State) (f : Frame) : Spares f.sensor s (s.takeFrame f) :=
  (State.handOn_spares _ _ _ _ _).trans (State.modIntake_spares _ fun _ => rfl)

theorem State.takeFrame_intake (h : (s.intake.get f.sensor).expected = some f.sequence) :
    (s.takeFrame f).intake = s.intake.set f.sensor { s.intake.get f.sensor with
      expected := some (f.sequence + 1#8)
      lastGood := some (correct (s.activeCorrection f.sensor) f)
      consecutiveBad := 0
      consecutiveGood := min ((s.intake.get f.sensor).consecutiveGood + 1) 64
      flags := if s.autoClear = true ∧ (s.intake.get f.sensor).consecutiveGood + 1 = 64 then ⟨false, false, false⟩
        else (s.intake.get f.sensor).flags
      silenceTimer := some s.time.localTime } := by
  unfold State.takeFrame
  dsimp only
  rw [State.modIntake_intake, State.handOn_intake]
  exact congrArg (s.intake.set f.sensor) (IntakeRecord.took_eq h _ _ _)

/-- R36: the set of a good frame in its turn, in a page that is OPEN and not full. -/
theorem State.takeFrame_appends {n : Nat} (hn : (s.ring.get f.sensor).newest = some n)
    (hpage : (s.ring.get f.sensor).page = some .opened) (hroom : (n + 1) % s.pageSize.active.sets ≠ 0) :
    ((s.takeFrame f).ring.get f.sensor).newest = some (n + 1)
      ∧ ((s.takeFrame f).ring.get f.sensor).oldest = (s.ring.get f.sensor).oldest
      ∧ Store.read ((s.takeFrame f).ring.get f.sensor).slots ((n + 1) % 32768)
        = some (correct (s.activeCorrection f.sensor) f)
      ∧ ∀ k, k ≠ (n + 1) % 32768 → Store.read ((s.takeFrame f).ring.get f.sensor).slots k
        = Store.read (s.ring.get f.sensor).slots k := by
  have hs := State.handOn_settles s f.sensor (correct (s.activeCorrection f.sensor) f) false s.time.localTime
  rw [State.placeSet_append hn hpage hroom] at hs
  have hall := (State.appendSet_ring s f.sensor (correct (s.activeCorrection f.sensor) f) (n + 1)).settles.trans hs
  exact ⟨hall.newest, hall.oldest, (congrArg (Store.read · _) hall.slots).trans (Store.read_write _ _ _),
    fun k hk => (congrArg (Store.read · k) hall.slots).trans (Store.read_write_ne _ _ hk)⟩

theorem State.shortJump_intake (s : State) (f : Frame) (d : Nat) :
    (s.shortJump f d).intake = s.intake.set f.sensor { s.intake.get f.sensor with
      expected := some (f.sequence + 1#8)
      lastGood := some (correct (s.activeCorrection f.sensor) f)
      consecutiveBad := 0
      consecutiveGood := 0
      flags := { (s.intake.get f.sensor).flags with sequence := true }
      silenceTimer := some s.time.localTime } := by
  unfold State.shortJump
  dsimp only
  rw [State.modIntake_intake, State.handOn_intake, State.fill_intake, State.setIntakeFlag_intake, PerSensor.get_set,
    PerSensor.set_set]
  rfl

/-- R7: a short jump hands on its held sets and the corrected one. -/
theorem State.shortJump_stores {d : Nat} (hr : (s.intake.get f.sensor).state = .running) (h15 : d ≤ 15) :
    StoresFlagged s (s.shortJump f d) f.sensor .sequence
      (List.replicate d (heldSet (s.intake.get f.sensor).lastGood) ++ [correct (s.activeCorrection f.sensor) f]) := by
  obtain ⟨u, hu⟩ : ∃ u, u = s.setIntakeFlag f.sensor .sequence := ⟨_, rfl⟩
  obtain ⟨v, hv⟩ : ∃ v, v = u.fill f.sensor (heldSet (s.intake.get f.sensor).lastGood) d := ⟨_, rfl⟩
  obtain ⟨w, hw⟩ : ∃ w, w = v.handOn f.sensor (correct (s.activeCorrection f.sensor) f) false s.time.localTime := ⟨_, rfl⟩
  have hjump : s.shortJump f d = w.modIntake f.sensor
      (IntakeRecord.jumped (correct (s.activeCorrection f.sensor) f) f.sequence s.time.localTime) := by
    rw [hw, hv, hu]
    rfl
  have huv : Spares f.sensor u v := hv ▸ State.fill_spares _ _ _ _
  have hvw : Spares f.sensor v w := hw ▸ State.handOn_spares _ _ _ _ _
  have hlast : Spares f.sensor w (s.shortJump f d) := hjump ▸ State.modIntake_spares _ fun _ => rfl
  refine ⟨(hu ▸ State.setIntakeFlag_spares _ _ _ _ : Spares f.sensor s u).trans ((huv.trans hvw).trans hlast),
    fun hflag p => ?_, fun hinv => ?_⟩
  · exact ((huv.trans hvw).trans hlast).works.pends (by decide) (hu ▸ State.setIntakeFlag_pends hflag p)
  · have hinvu : PageInv u := hu ▸ PageInv.setIntakeFlag hinv _ _
    have hrunu : (u.intake.get f.sensor).state = .running := by
      rw [hu, State.setIntakeFlag_state]
      exact hr
    have hintv : v.intake = u.intake := hv ▸ State.fill_intake _ _ _ _
    obtain ⟨htakes, hinvv⟩ := State.fill_takes hinvu hrunu (heldSet (s.intake.get f.sensor).lastGood) h15
    rw [← hv] at htakes hinvv
    have hhand := State.handOn_takes hinvv (by rw [hintv]; exact hrunu) (correct (s.activeCorrection f.sensor) f)
      s.time.localTime
    rw [← hw] at hhand
    refine (htakes.append hhand ?_).of_ring ?_ ?_
    · rw [List.length_replicate, List.length_singleton]
      omega
    · rw [hu]
      rfl
    · rw [hjump]
      rfl

/-- R9: one of the first seven bad frames in a row. -/
theorem State.badRunning_eq (h : (s.intake.get sen).consecutiveBad < 7) : s.badRunning sen
    = (((s.modIntake sen (.countBad s.time.localTime)).setIntakeFlag sen .parity).handOn sen
      (heldSet (s.intake.get sen).lastGood) false s.time.localTime).modIntake sen .expectNext := by
  have hlimit : (s.intake.get sen).consecutiveBad + 1 < Config.badLimit := Nat.succ_lt_succ h
  exact if_pos hlimit

theorem State.badRunning_intake (h : (s.intake.get sen).consecutiveBad < 7) :
    (s.badRunning sen).intake = s.intake.set sen { s.intake.get sen with
      expected := (s.intake.get sen).expected.map (· + 1#8)
      consecutiveBad := (s.intake.get sen).consecutiveBad + 1
      consecutiveGood := 0
      flags := { (s.intake.get sen).flags with parity := true }
      silenceTimer := some s.time.localTime } := by
  rw [State.badRunning_eq h, State.modIntake_intake, State.handOn_intake, State.setIntakeFlag_intake,
    State.modIntake_intake, PerSensor.get_set, PerSensor.set_set, PerSensor.get_set, PerSensor.set_set]
  rfl

theorem State.badRunning_stores (hr : (s.intake.get sen).state = .running) (h : (s.intake.get sen).consecutiveBad < 7) :
    StoresFlagged s (s.badRunning sen) sen .parity [heldSet (s.intake.get sen).lastGood] := by
  obtain ⟨u, hu⟩ : ∃ u, u = (s.modIntake sen (.countBad s.time.localTime)).setIntakeFlag sen .parity := ⟨_, rfl⟩
  obtain ⟨w, hw⟩ : ∃ w, w = u.handOn sen (heldSet (s.intake.get sen).lastGood) false s.time.localTime := ⟨_, rfl⟩
  have hsu : Spares sen s u := by
    rw [hu]
    exact (State.modIntake_spares (f := .countBad s.time.localTime) sen fun _ => rfl).trans
      (State.setIntakeFlag_spares _ _ _ _)
  have huw : Spares sen u w := hw ▸ State.handOn_spares _ _ _ _ _
  have hlast : Spares sen w (w.modIntake sen .expectNext) := State.modIntake_spares _ fun _ => rfl
  rw [State.badRunning_eq h, ← hu, ← hw]
  refine ⟨hsu.trans (huw.trans hlast), fun hflag p => ?_, fun hinv => ?_⟩
  · refine (huw.trans hlast).works.pends (by decide) ?_
    rw [hu]
    refine State.setIntakeFlag_pends ?_ p
    rw [State.modIntake_intake, PerSensor.get_set]
    exact hflag
  · have hinvu : PageInv u := by
      rw [hu]
      exact (PageInv.modIntake hinv sen (f := .countBad s.time.localTime) fun _ e => e).setIntakeFlag _ _
    have hrunu : (u.intake.get sen).state = .running := by
      rw [hu, State.setIntakeFlag_state, State.modIntake_intake, PerSensor.get_set]
      exact hr
    have hhand := State.handOn_takes hinvu hrunu (heldSet (s.intake.get sen).lastGood) s.time.localTime
    rw [← hw] at hhand
    refine hhand.of_ring ?_ rfl
    rw [hu]
    rfl

end

/-- R15, R16: the corrected set, with its clamp and its rounding written out. -/
theorem correct_eq (g : CorrectionGroup) (f : Frame) :
    let sat := fun x : Int => max (-8388607) (min 8388607 x)
    let gain := fun (raw offset : Int) (k : Nat) => roundDiv ((raw - offset) * (k : Int)) 16384
    let h1 := sat (gain f.h1 g.offsetH1 g.gainH1)
    let h2 := sat (gain f.h2 g.offsetH2 g.gainH2)
    correct g f = {
      z := sat (gain f.z g.offsetZ g.gainZ)
      n := sat (roundDiv (g.cosine * h1 - g.sine * h2) 16384)
      e := sat (roundDiv (g.sine * h1 + g.cosine * h2) 16384)
      held := false, clip := (correct g f).clip, cal := f.cal } := by
  have hsat : saturateSample = fun x : Int => max (-8388607) (min 8388607 x) := funext saturateSample_eq
  dsimp only
  unfold correct
  rw [hsat]
  rfl

/-- Settles O9: the good frame, the short jump and the bad frame, each through what it hands on. -/
theorem goodFrameInTurnIsStored : Obligations.GoodFrameInTurnIsStored := by
  refine ⟨fun dt bytes f s hf hg hr ha hexp => ?_, fun dt bytes f next s hf hg hr ha hexp => ?_,
    fun dt bytes f s hf hg hr ha hbad => ?_, rfl, fun _ => rfl, fun g f => ?_⟩
  · have hd : ((s.elapse dt).intake.get f.sensor).distance f.sequence = 0 := by
      rw [IntakeRecord.distance_of_expected (r := (s.elapse dt).intake.get f.sensor) hexp, BitVec.sub_self]
      rfl
    have hhandle : (s.elapse dt).handleFrame f = (s.elapse dt).takeFrame f :=
      (State.handleFrame_good (s := s.elapse dt) hg hr).trans (State.goodRunning_turn hd)
    obtain ⟨hothers, htime, hports, hpresets, harb, hsize, hfrozen, hmal, -, -, -⟩ :=
      (State.takeFrame_spares (s.elapse dt) f).others
    exact ⟨_, (frame_runs hf ha).trans (congrArg Host.Outcome.next hhandle),
      State.takeFrame_intake (s := s.elapse dt) hexp,
      fun n hn hpage hroom => State.takeFrame_appends (s := s.elapse dt) hn hpage hroom,
      hothers, htime, hports, hpresets, harb, hsize, hfrozen, hmal⟩
  · intro r d set h1 h15
    have hd : ((s.elapse dt).intake.get f.sensor).distance f.sequence = d :=
      IntakeRecord.distance_of_expected (r := (s.elapse dt).intake.get f.sensor) hexp f.sequence
    have hhandle : (s.elapse dt).handleFrame f = (s.elapse dt).shortJump f d :=
      (State.handleFrame_good (s := s.elapse dt) hg hr).trans (State.goodRunning_short hd h1 h15)
    have hstores := State.shortJump_stores (s := s.elapse dt) (f := f) hr h15
    exact ⟨_, (frame_runs hf ha).trans (congrArg Host.Outcome.next hhandle), State.shortJump_intake (s.elapse dt) f d,
      hstores.pends, hstores.takes, hstores.spares.others⟩
  · have hhandle : (s.elapse dt).handleFrame f = (s.elapse dt).badRunning f.sensor :=
      State.handleFrame_bad (s := s.elapse dt) hg hr
    have hstores := State.badRunning_stores (s := s.elapse dt) (sen := f.sensor) hr hbad
    exact ⟨_, (frame_runs hf ha).trans (congrArg Host.Outcome.next hhandle),
      State.badRunning_intake (s := s.elapse dt) hbad, hstores.pends, hstores.takes, hstores.spares.others⟩
  · have hclip := correct_clip g f
    rw [show saturateSample = fun x : Int => max (-8388607) (min 8388607 x) from funext saturateSample_eq] at hclip
    exact ⟨correct_eq g f, hclip, fun raw offset => by simp [roundDiv], by decide⟩

end Sys2Proof.Machine


/-! PROOFS. GAP declarations, stream starts, and the copy of the correction group at a frame. -/

namespace Sys2Proof.Machine

/-! ### What a grant decision leaves of the queues -/

/-- R79: no request of a sensor awaits data. -/
def State.NoneAwaits (s : State) (sen : Sensor) : Prop := ∀ q ∈ s.refiner.queues.get sen, q.state ≠ .pendingData

theorem State.NoneAwaits.congr {s t : State} {sen : Sensor} (h : s.NoneAwaits sen)
    (ht : t.refiner.queues.get sen = s.refiner.queues.get sen) : t.NoneAwaits sen := by
  unfold State.NoneAwaits
  rw [ht]
  exact h

theorem passOverHead_state {l : List RefineRequest} (h : ∀ q ∈ l, q.state ≠ .pendingData) :
    ∀ q ∈ passOverHead l, q.state ≠ .pendingData := by
  cases l with
  | nil => exact h
  | cons x rest =>
    intro q hq
    rcases List.mem_cons.1 hq with rfl | hq
    · exact h x List.mem_cons_self
    · exact h q (List.mem_cons_of_mem _ hq)

theorem State.NoneAwaits.passOthers {s : State} {sen : Sensor} (h : s.NoneAwaits sen) (i : Sensor) :
    (s.passOthers i).NoneAwaits sen := by
  unfold State.NoneAwaits State.passOthers
  rw [PerSensor.get_map]
  split
  · exact passOverHead_state h
  · exact h

/-- A change of one queue that leaves none in PENDING_DATA where none was. -/
theorem State.NoneAwaits.modQueue {s : State} {sen i : Sensor} {f : List RefineRequest → List RefineRequest}
    (h : s.NoneAwaits sen)
    (hf : ∀ l, (∀ q ∈ l, q.state ≠ .pendingData) → ∀ q ∈ f l, q.state ≠ .pendingData) :
    (s.modQueue i f).NoneAwaits sen := by
  unfold State.NoneAwaits State.modQueue
  dsimp only
  by_cases hi : sen = i
  · subst hi
    rw [PerSensor.get_set]
    exact hf _ h
  · rw [PerSensor.get_set_ne _ _ hi]
    exact h

theorem State.NoneAwaits.discardHead {s : State} {sen : Sensor} (h : s.NoneAwaits sen) (i : Sensor) :
    (s.discardHead i).NoneAwaits sen := by
  have hleave := h.modQueue (i := i) (f := List.tail) fun l hl q hq => hl q (List.mem_of_mem_tail hq)
  exact hleave.congr (by
    unfold State.discardHead State.discardBy
    rw [(State.testGroups_reports _).refiner]
    rfl)

theorem State.NoneAwaits.beginWork {s : State} {sen : Sensor} (h : s.NoneAwaits sen) (i : Sensor) (q : RefineRequest) :
    (s.beginWork i q).NoneAwaits sen := by
  refine (h.modQueue (i := i) (f := modHead fun x => { x with
    state := .inProgress, flags := { x.flags with truncated := x.flags.truncated || s.startGone i q } })
    fun l hl x hx => ?_).congr rfl
  cases l with
  | nil => cases hx
  | cons y rest =>
    rcases List.mem_cons.1 hx with rfl | hx
    · exact (nomatch ·)
    · exact hl x (List.mem_cons_of_mem _ hx)

theorem State.stall_queues (s : State) : s.stall.refiner.queues = s.refiner.queues := by
  unfold State.stall
  split <;> rfl

theorem State.NoneAwaits.grantDecision {sen : Sensor} (fuel : Nat) {s : State} (h : s.NoneAwaits sen) :
    (s.grantDecision fuel).NoneAwaits sen := by
  induction fuel generalizing s with
  | zero => exact h
  | succ fuel ih =>
    unfold State.grantDecision
    split
    · exact h.congr rfl
    · split
      · exact h.congr (by rw [State.stall_queues])
      · split
        · exact h
        · have hpass : State.NoneAwaits { s.passOthers ‹_› with
              refiner := { (s.passOthers ‹_›).refiner with lastGranted := ‹_› } } sen :=
            (h.passOthers _).congr rfl
          dsimp only
          split
          · exact ih (hpass.discardHead _)
          · exact hpass.beginWork _ _

theorem State.NoneAwaits.settle {s : State} {sen : Sensor} (h : s.NoneAwaits sen) (before : State) :
    (State.settle before s).NoneAwaits sen := by
  unfold State.settle
  split
  · exact h
  · split
    · exact h.grantDecision _
    · split
      · exact h.congr rfl
      · exact h

/-- R79: the GAP announcement makes every request that awaited data READY. -/
theorem State.refinerGap_noneAwaits (s : State) (sen : Sensor) : (s.refinerGap sen).NoneAwaits sen := by
  intro q hq
  simp only [State.refinerGap, State.modQueue, PerSensor.get_set, List.mem_map] at hq
  obtain ⟨x, -, rfl⟩ := hq
  split
  · exact (nomatch ·)
  · assumption

/-! ### The Detector at a GAP (R67) -/

/-- R67: the channels after the announcement are BLIND; nothing else that is not of picks and offers changes. -/
theorem State.detectorGap_rest (s : State) (sen : Sensor) :
    ∃ d : DetectorRecord, (d.channels.p.state = .blind ∧ d.channels.s.state = .blind)
      ∧ s.detectorGap sen = { s with
        detector := s.detector.set sen d, refiner := (s.detectorGap sen).refiner, table := (s.detectorGap sen).table
        grouper := (s.detectorGap sen).grouper, offers := (s.detectorGap sen).offers
        attention := (s.detectorGap sen).attention } := by
  unfold State.detectorGap
  split
  · rename_i h
    refine ⟨s.detector.get sen, (DetectorRecord.blind_iff _).1 h, ?_⟩
    rw [PerSensor.set_get]
  · refine ⟨{ s.detector.get sen with channels := (s.detector.get sen).channels.map fun _ c => c.enterBlind }, ⟨rfl, rfl⟩, ?_⟩
    have hends : PicksOnly (s.modDetector sen fun d => { d with channels := d.channels.map fun _ c => c.enterBlind })
        (s.endEpisodes sen .enterBlind).retest :=
      ((State.handOnBlind_picks _ _ _ _).trans (State.handOnBlind_picks _ _ _ _)).trans
        (State.retest_grants _).toPicksOnly
    exact hends.rest

/-- R11: what has been announced of a GAP. -/
theorem State.announcedGap_rest (s : State) (sen : Sensor) :
    ∃ d : DetectorRecord, (d.channels.p.state = .blind ∧ d.channels.s.state = .blind)
      ∧ s.announcedGap sen = { s with
        ring := (s.closePageShort sen).ring, detector := s.detector.set sen d, refiner := (s.announcedGap sen).refiner
        table := (s.announcedGap sen).table, grouper := (s.announcedGap sen).grouper
        offers := (s.announcedGap sen).offers, attention := (s.announcedGap sen).attention } := by
  obtain ⟨d, hblind, hrest⟩ := (s.closePageShort sen).detectorGap_rest sen
  have hpicks : PicksOnly ((s.closePageShort sen).detectorGap sen) (s.announcedGap sen) :=
    (State.refinerGap_picks _ sen).trans (State.settle_grants _ _).toPicksOnly
  refine ⟨d, hblind, ?_⟩
  have h := hpicks.rest
  rw [hrest] at h
  exact h

theorem State.announcedGap_gapCut (s : State) (sen : Sensor) :
    (s.announcedGap sen).refiner.gapCut.get sen = some ((s.ring.get sen).newest.getD 0) := by
  have hring : ((s.closePageShort sen).detectorGap sen).ring = (s.closePageShort sen).ring := by
    obtain ⟨d, -, hrest⟩ := (s.closePageShort sen).detectorGap_rest sen
    rw [hrest]
  have hnewest : (((s.closePageShort sen).detectorGap sen).ring.get sen).newest = (s.ring.get sen).newest := by
    rw [hring, State.closePageShort, State.modRing_ring, PerSensor.get_set, RingRecord.closeShort_newest]
  unfold State.announcedGap
  rw [(State.settle_grants _ _).gapCut]
  simp only [State.refinerGap, PerSensor.get_set, hnewest]

/-- R9, R11: a GAP declared in a state whose rings, channels and chains are those of `s`. -/
theorem State.declareGap_declared {s u : State} {sen : Sensor} {dt : Nat} (flag : Bool) (hring : u.ring = s.ring)
    (hdet : u.detector = s.detector) (hchains : u.chains = s.chains)
    (hports : u.ports = s.ports) (htime : u.time = (s.elapse dt).time) :
    GapDeclared s (u.declareGap sen flag) sen dt := by
  obtain ⟨d, ⟨hp, hs⟩, hrest⟩ := u.announcedGap_rest sen
  have hdetector : (u.declareGap sen flag).detector = s.detector.set sen d := by
    rw [State.declareGap_detector, hrest, hdet]
  have hringOf : (u.declareGap sen flag).ring = s.ring.set sen ((s.ring.get sen).closeShort u.pageSize.active) := by
    rw [State.declareGap_ring, hrest, State.closePageShort, State.modRing_ring, hring]
  have hkeeps : (u.declareGap sen flag).refiner = (u.announcedGap sen).refiner
      ∧ (u.declareGap sen flag).chains = u.chains ∧ (u.declareGap sen flag).ports = u.ports
      ∧ (u.declareGap sen flag).time = u.time := by
    rw [State.declareGap_eq]
    cases flag
    · refine ⟨rfl, ?_, ?_, ?_⟩ <;> rw [if_neg (by decide), hrest] <;> rfl
    · refine ⟨rfl, ?_, ?_, ?_⟩ <;> rw [if_pos rfl, hrest] <;> rfl
  obtain ⟨hrefiner, hc, hpo, ht⟩ := hkeeps
  refine ⟨?_, ?_, fun hpage hnew => ?_, ?_, ?_, ?_, fun other hne => ⟨?_, ?_⟩, hc.trans hchains, hpo.trans hports,
    ht.trans htime⟩
  · unfold State.channel
    rw [hdetector, PerSensor.get_set]
    exact hp
  · unfold State.channel
    rw [hdetector, PerSensor.get_set]
    exact hs
  · rw [hringOf, PerSensor.get_set, RingRecord.closeShort_page, if_pos ⟨hpage, hnew⟩]
  · rw [hringOf, PerSensor.get_set, RingRecord.closeShort_newest]
  · rw [hrefiner]
    exact (State.refinerGap_noneAwaits _ sen).settle _
  · rw [hrefiner, State.announcedGap_gapCut, hring]
  · rw [hringOf, PerSensor.get_set_ne _ _ hne]
  · rw [hdetector, PerSensor.get_set_ne _ _ hne]

/-- R11: the intake records after a GAP declaration with its flag. -/
theorem State.declareGap_intake_flag (s : State) (sen : Sensor) : (s.declareGap sen true).intake
    = s.intake.set sen ({ s.intake.get sen with flags := { (s.intake.get sen).flags with gap := true } }).enterGap := by
  rw [State.declareGap_eq, if_pos rfl, State.modIntake_intake, State.setIntakeFlag_intake, State.announcedGap_intake,
    PerSensor.get_set, PerSensor.set_set]
  rfl

/-- R11, R12: a GAP flag that was clear raises INTAKE_FAULT. -/
theorem State.declareGap_pends {s : State} {sen : Sensor} (h : (s.intake.get sen).flags.gap = false) (p : Port) :
    Pends (s.declareGap sen true) p .intakeFault := by
  rw [State.declareGap_eq, if_pos rfl]
  refine State.setIntakeFlag_pends (s := s.announcedGap sen) ?_ p
  rw [State.announcedGap_intake]
  exact h

theorem State.declareGap_spares (s : State) (sen : Sensor) (flag : Bool) : Spares sen s (s.declareGap sen flag) := by
  refine ⟨s.declareGap_works sen flag, fun i hi => ?_, fun i hi => ?_⟩
  · rw [State.declareGap_ring]
    exact s.announcedGap_ring_other hi
  · obtain ⟨d, -, hrest⟩ := s.announcedGap_rest sen
    rw [State.declareGap_detector, hrest]
    exact PerSensor.get_set_ne _ _ hi

/-- Settles O11: both rows end in the same declaration. -/
theorem frameSilenceDeclaresGap : Obligations.FrameSilenceDeclaresGap := by
  refine ⟨fun dt sen start s hr ht hdue => ?_, fun dt bytes f s hf hg hr ha hbad => ?_⟩
  · have hover : (s.elapse dt).silenceOverdue sen = true := by
      unfold State.silenceOverdue
      rw [show ((s.elapse dt).intake.get sen).state = .running from hr,
        show ((s.elapse dt).intake.get sen).silenceTimer = some start from ht]
      exact decide_eq_true hdue
    refine ⟨(s.elapse dt).declareGap sen true, congrArg Host.Outcome.next (if_pos hover), ?_,
      State.declareGap_declared (s := s) (u := s.elapse dt) true rfl rfl rfl rfl rfl,
      fun h p => State.declareGap_pends (s := s.elapse dt) h p⟩
    rw [State.declareGap_intake_flag]
    rfl
  · obtain ⟨u, hu⟩ : ∃ u, u = ((s.elapse dt).modIntake f.sensor
        (.countBad (s.time.localTime + dt))).setIntakeFlag f.sensor .parity := ⟨_, rfl⟩
    have hhandle : (s.elapse dt).handleFrame f = u.declareGap f.sensor true := by
      rw [State.handleFrame_bad (s := s.elapse dt) hg hr, hu]
      refine if_neg ?_
      rw [show ((s.elapse dt).intake.get f.sensor).consecutiveBad = 7 from hbad]
      decide
    have hintu : u.intake = s.intake.set f.sensor { s.intake.get f.sensor with
        consecutiveBad := (s.intake.get f.sensor).consecutiveBad + 1
        consecutiveGood := 0
        flags := { (s.intake.get f.sensor).flags with parity := true }
        silenceTimer := some (s.time.localTime + dt) } := by
      rw [hu, State.setIntakeFlag_intake, State.modIntake_intake, PerSensor.get_set, PerSensor.set_set]
      rfl
    refine ⟨_, (frame_runs hf ha).trans (congrArg Host.Outcome.next hhandle), ?_, ?_, fun hor p => ?_⟩
    · rw [State.declareGap_intake_flag, hintu, PerSensor.get_set, PerSensor.set_set]
      rfl
    · refine State.declareGap_declared true ?_ ?_ ?_ ?_ ?_ <;> rw [hu] <;> rfl
    · rcases hor with h | h
      · refine (u.declareGap_works f.sensor true).pends (by decide) ?_
        rw [hu]
        refine State.setIntakeFlag_pends ?_ p
        rw [State.modIntake_intake, PerSensor.get_set]
        exact h
      · refine State.declareGap_pends ?_ p
        rw [hintu, PerSensor.get_set]
        exact h

/-! ### Stream starts (R5, R8, R10, R37, R38) -/

/-- R41: check bits that were computed over an entry's fields accept it. -/
theorem mapTest_withCheck (e : MapEntry) : mapTest e.withCheck = .clean := by
  unfold mapTest
  dsimp only
  rw [show e.withCheck.checkOf = e.withCheck.check from rfl, Nat.xor_self]
  rfl

/-- R38: a stream-start set opens the next page. -/
theorem State.placeSet_start (s : State) (sen : Sensor) (set : SampleSet) (arrival : Nat) :
    ∃ q : RingRecord, (s.placeSet sen set true arrival).ring.get sen
      = q.opening s.pageSize.active set ((s.ring.get sen).nextPageStart s.pageSize.active)
          (s.newEntry sen ((s.ring.get sen).nextPageStart s.pageSize.active) arrival) := by
  rcases s.placeSet_ring sen set true arrival with ⟨q, -, h⟩ | ⟨h, -⟩
  · exact ⟨q, h⟩
  · cases h

theorem State.placeSet_startsPage (s : State) (sen : Sensor) (set : SampleSet) (arrival : Nat) :
    StartsPage s (s.placeSet sen set true arrival) sen set := by
  obtain ⟨q, h⟩ := s.placeSet_start sen set arrival
  unfold StartsPage
  rw [h]
  exact ⟨rfl, rfl, rfl, Store.read_write _ _ _⟩

theorem StartsPage.settles {s t u : State} {sen : Sensor} {set : SampleSet} (h : StartsPage s t sen set)
    (hs : (t.ring.get sen).Settles (u.ring.get sen)) : StartsPage s u sen set := by
  unfold StartsPage
  rw [hs.newest, hs.page, hs.setsInPage, hs.slots]
  exact h

theorem StartsPage.of_newest {s s' t : State} {sen : Sensor} {set : SampleSet} (h : StartsPage s t sen set)
    (hn : (s.ring.get sen).newest = (s'.ring.get sen).newest) (hp : s.pageSize = s'.pageSize) :
    StartsPage s' t sen set := by
  unfold StartsPage at h ⊢
  rwa [hn, hp] at h

/-- R5, R10: a good frame in STARTING or GAP. -/
theorem State.startStream_starts {s : State} {f : Frame} {set : SampleSet} {now : Nat}
    (hset : set = correct (s.activeCorrection f.sensor) f) (hnow : now = s.time.localTime) :
    (s.startStream f).intake = s.intake.set f.sensor ((s.intake.get f.sensor).started set f.sequence now)
      ∧ StartsPage s (s.startStream f) f.sensor set ∧ Spares f.sensor s (s.startStream f) := by
  subst hset hnow
  refine ⟨?_, ?_, (State.handOn_spares _ _ _ _ _).trans (State.modIntake_spares _ fun _ => rfl)⟩
  · unfold State.startStream
    dsimp only
    rw [State.modIntake_intake, State.handOn_intake]
  · exact (s.placeSet_startsPage f.sensor _ s.time.localTime).settles (State.handOn_settles _ _ _ _ _)

theorem State.handleFrame_start {s : State} {f : Frame} (hg : f.good = true)
    (h : (s.intake.get f.sensor).state = .starting ∨ (s.intake.get f.sensor).state = .gap) :
    s.handleFrame f = s.startStream f := by
  unfold State.handleFrame
  rw [hg]
  rcases h with h | h <;> rw [h]

/-- Settles O12: the page that is opened, and the frames that open one. -/
theorem streamStartOpensNextPage : Obligations.StreamStartOpensNextPage := by
  refine ⟨fun s sen set arrival => ?_, fun dt bytes f s hf hg ha => ?_⟩
  · intro p n t
    obtain ⟨hnew, hpage, hsets, hslot⟩ := s.placeSet_startsPage sen set arrival
    obtain ⟨q, hq⟩ := s.placeSet_start sen set arrival
    refine ⟨hnew, hpage, hsets, hslot, ⟨s.newEntry sen n arrival, ?_, rfl, rfl, rfl, rfl, mapTest_withCheck _⟩,
      (s.placeSet_stores sen set true arrival).others⟩
    change Store.read ((s.placeSet sen set true arrival).ring.get sen).pageMap _ = _
    rw [hq]
    exact Store.read_write _ _ _
  · intro r set started
    refine ⟨fun hst => ?_, fun next hr hexp hd => ?_⟩
    · obtain ⟨hint, hpage, hspares⟩ := State.startStream_starts (s := s.elapse dt) (f := f) (set := set)
        (now := s.time.localTime + dt) rfl rfl
      exact ⟨_, (frame_runs hf ha).trans (congrArg Host.Outcome.next (State.handleFrame_start (s := s.elapse dt) hg hst)),
        hint, hpage, hspares.others⟩
    · obtain ⟨u, hu⟩ : ∃ u, u = (s.elapse dt).setIntakeFlag f.sensor .sequence := ⟨_, rfl⟩
      obtain ⟨v, hv⟩ : ∃ v, v = u.declareGap f.sensor true := ⟨_, rfl⟩
      have hdist : ((s.elapse dt).intake.get f.sensor).distance f.sequence = (f.sequence - next).toNat :=
        IntakeRecord.distance_of_expected (r := (s.elapse dt).intake.get f.sensor) hexp f.sequence
      have hhandle : (s.elapse dt).handleFrame f = v.startStream f := by
        rw [State.handleFrame_good (s := s.elapse dt) hg hr, hv, hu]
        unfold State.goodRunning
        dsimp only
        rw [hdist, if_neg (by omega), if_neg (by omega)]
        rfl
      have hintv : v.intake = s.intake.set f.sensor ({ r with
          flags := { r.flags with sequence := true, gap := true } }).enterGap := by
        rw [hv, State.declareGap_intake_flag, hu, State.setIntakeFlag_intake, PerSensor.get_set, PerSensor.set_set]
        rfl
      have hsu : Spares f.sensor (s.elapse dt) u := by
        rw [hu]
        exact State.setIntakeFlag_spares _ _ _ _
      have huv : Spares f.sensor u v := by
        rw [hv]
        exact State.declareGap_spares _ _ _
      have hgap : GapDeclared s v f.sensor dt := by
        rw [hv]
        refine State.declareGap_declared true ?_ ?_ ?_ ?_ ?_ <;> rw [hu] <;> rfl
      obtain ⟨-, -, -, hnew, -, -, -, -, -, htime⟩ := hgap
      have hset : set = correct (v.activeCorrection f.sensor) f := by
        unfold State.activeCorrection
        rw [hintv, PerSensor.get_set]
        rfl
      obtain ⟨hint, hpage, hspares⟩ := State.startStream_starts (s := v) (f := f) hset
        (now := s.time.localTime + dt) (by rw [htime]; rfl)
      refine ⟨_, (frame_runs hf ha).trans (congrArg Host.Outcome.next hhandle), ?_, fun hor p => ?_,
        hpage.of_newest hnew ?_, ((hsu.trans huv).trans hspares).others⟩
      · rw [hint, hintv, PerSensor.get_set, PerSensor.set_set]
        rfl
      · rcases hor with h | h
        · refine (huv.trans hspares).works.pends (by decide) ?_
          rw [hu]
          exact State.setIntakeFlag_pends (by exact h) p
        · refine hspares.works.pends (by decide) ?_
          rw [hv]
          refine State.declareGap_pends ?_ p
          rw [hu, State.setIntakeFlag_intake, PerSensor.get_set]
          exact h
      · rw [(hsu.trans huv).works.rest]
        rfl

/-! ### The copy of the correction group (R17, R18) -/

/-- R17: with the rate unchanged the copy is all. -/
theorem State.copyCorrection_same_rate {s : State} {sen : Sensor}
    (h : (s.intake.get sen).correction.staged.rate = (s.intake.get sen).correction.active.rate) :
    s.copyCorrection sen = s.modIntake sen .copyGroup := if_pos h

/-- R17, R18: a copy that is no end of a stream leaves rings, channels and chains. -/
theorem State.copyCorrection_rest {s : State} {sen : Sensor} (h : (s.intake.get sen).state ≠ .running) :
    (s.copyCorrection sen).ring = s.ring ∧ (s.copyCorrection sen).detector = s.detector
      ∧ (s.copyCorrection sen).chains = s.chains ∧ (s.copyCorrection sen).presets = s.presets := by
  have hoff : ∀ u : State, (u.enterOff sen).ring = u.ring ∧ (u.enterOff sen).detector = u.detector
      ∧ (u.enterOff sen).chains = u.chains ∧ (u.enterOff sen).presets = u.presets := fun u => by
    have hrest := (State.retest_grants (u.modIntake sen fun r => { r with state := .off })).rest
    unfold State.enterOff
    refine ⟨?_, ?_, ?_, ?_⟩ <;> rw [hrest] <;> rfl
  unfold State.copyCorrection
  dsimp only
  split
  · exact ⟨rfl, rfl, rfl, rfl⟩
  · split
    · exact absurd ‹_› h
    · exact absurd ‹_› h
    · exact hoff _
    · exact hoff _
    · exact hoff _
    · exact ⟨rfl, rfl, rfl, rfl⟩
    · exact ⟨rfl, rfl, rfl, rfl⟩

theorem State.applyCorrection_running {s : State} {sen : Sensor} (h : (s.intake.get sen).state = .running) :
    s.applyCorrection sen = (s.modIntake sen fun r => { r with applyPending := true }, .pending) := if_pos h

theorem State.applyCorrection_idle {s : State} {sen : Sensor} (h : (s.intake.get sen).state ≠ .running) :
    s.applyCorrection sen = (s.copyCorrection sen, .applied) := if_neg h

/-- R18: a sensor that enters OFF; its ring and channels stay. -/
theorem State.enterOff_spares (s : State) (sen : Sensor) : Spares sen s (s.enterOff sen) :=
  ((State.modIntake_works (f := fun r => { r with state := .off }) fun _ => rfl).trans
    (State.retest_grants _).toPicksOnly.works).spares (s.enterOff_rest sen).1 (s.enterOff_rest sen).2.2

/-- R204: the APPLY of a correction group, before FREEZE. -/
theorem applyCorrection_leaves {dt : Nat} {p : Port} {sen : Sensor} {s : State} (hf : s.frozen = false)
    (h : Holds s p (.apply (GroupName.area (.correction sen)))) :
    let r := s.intake.get sen
    ∃ t, Runs (.applyCorrection dt p sen) s t
      ∧ (r.state = .running → t.intake = s.intake.set sen { r with applyPending := true }
          ∧ Answered s t p 0x0A#8 .ok [1#8])
      ∧ (r.state ≠ .running → r.correction.staged.rate = r.correction.active.rate →
          t.intake = s.intake.set sen { r with correction := ⟨r.correction.staged, r.correction.staged⟩, applyPending := false }
            ∧ Answered s t p 0x0A#8 .ok [0#8])
      ∧ (r.state = .off → r.correction.active.rate = .off → r.correction.staged.rate ≠ .off →
          t.intake = s.intake.set sen { r with
              state := .starting
              correction := ⟨r.correction.staged, r.correction.staged⟩
              applyPending := false
              consecutiveBad := 0
              consecutiveGood := 0
              silenceTimer := none }
            ∧ Answered s t p 0x0A#8 .ok [0#8])
      ∧ (r.correction.staged ≠ r.correction.active → r.state = .running → Announced s t p)
      ∧ (r.correction.staged = r.correction.active → t.attention = s.attention)
      ∧ t.ring = s.ring ∧ t.detector = s.detector ∧ t.chains = s.chains ∧ t.presets = s.presets := by
  intro r
  have hrun : Runs (.applyCorrection dt p sen) s _ := congrArg Host.Outcome.next (State.perform_given h dt _)
  by_cases hr : r.state = .running
  · obtain ⟨t, ht, hrest, hansw, hann⟩ := State.apply_answered (s := s) (dt := dt) (p := p)
      (same := decide (r.correction.staged = r.correction.active)) (owner := fun u => u.applyCorrection sen) hf
      (State.applyCorrection_running (s := s.elapse dt) hr) rfl
    have hann' := hann rfl
    have hint : t.intake = s.intake.set sen { r with applyPending := true } := by
      rw [hrest]
      rfl
    refine ⟨t, hrun.trans (congrArg Host.Outcome.next ht), fun _ => ⟨hint, hansw⟩, fun hne => absurd hr hne, fun hoff => ?_,
      fun hne _ => ?_, fun heq => ?_, ?_, ?_, ?_, ?_⟩
    · rw [hr] at hoff
      cases hoff
    · rwa [decide_eq_false hne] at hann'
    · rwa [decide_eq_true heq] at hann'
    all_goals
      rw [hrest]
      rfl
  · have hworks := (s.elapse dt).copyCorrection_works sen
    obtain ⟨t, ht, hrest, hansw, hann⟩ := State.apply_answered (s := s) (dt := dt) (p := p)
      (same := decide (r.correction.staged = r.correction.active)) (owner := fun u => u.applyCorrection sen) hf
      (State.applyCorrection_idle (s := s.elapse dt) hr) (by rw [hworks.rest]; rfl)
    obtain ⟨hring, hdet, hchains, hpresets⟩ := State.copyCorrection_rest (s := s.elapse dt) hr
    have hint : t.intake = s.intake.set sen r.copied := by
      rw [hrest]
      exact (s.elapse dt).copyCorrection_intake sen
    refine ⟨t, hrun.trans (congrArg Host.Outcome.next ht), fun hrunning => absurd hrunning hr, fun _ hrate => ⟨?_, hansw⟩,
      fun hoff hactive hstaged => ⟨?_, hansw⟩, fun _ hrunning => absurd hrunning hr, fun heq => ?_, ?_, ?_, ?_, ?_⟩
    · rw [hint, IntakeRecord.copied, if_pos hrate]
      rfl
    · have hrate : ¬ r.correction.staged.rate = r.correction.active.rate := fun he => hstaged (he.trans hactive)
      rw [hint, IntakeRecord.copied, if_neg hrate, hoff]
      cases hnew : r.correction.staged.rate
      · exact absurd hnew hstaged
      all_goals rfl
    · have hsame := State.copyCorrection_same_rate (s := s.elapse dt) (sen := sen) (by
        exact congrArg CorrectionGroup.rate heq)
      have hann' := hann (by rw [hsame]; rfl)
      rwa [decide_eq_true heq] at hann'
    · rw [hrest]
      exact hring
    · rw [hrest]
      exact hdet
    · rw [hrest]
      exact hchains
    · rw [hrest]
      exact hpresets

/-- R17: a pending copy is made before the frame is handled. -/
theorem frame_runs_copied {dt : Nat} {bytes : List Byte} {f : Frame} {s : State} (hf : parseFrame bytes = some f)
    (ha : (s.intake.get f.sensor).applyPending = true) :
    exec (.sampleLinkFrame dt bytes) s = .next (((s.elapse dt).copyCorrection f.sensor).handleFrame f) := by
  refine congrArg Host.Outcome.next ?_
  unfold State.frame
  rw [hf]
  dsimp only
  unfold State.copyAtFrame
  rw [if_pos (by exact ha)]

/-- R17, R18: a copy that changes the rate of a running sensor ends its stream in a GAP without a flag. -/
def State.cutStream (s : State) (sen : Sensor) : State := (s.modIntake sen .copyGroup).declareGap sen false

section
variable {s : State} {sen : Sensor}

theorem State.copyCorrection_cut_off (hr : (s.intake.get sen).state = .running)
    (hrate : (s.intake.get sen).correction.staged.rate ≠ (s.intake.get sen).correction.active.rate)
    (hoff : (s.intake.get sen).correction.staged.rate = .off) :
    s.copyCorrection sen = (s.cutStream sen).enterOff sen := by
  unfold State.copyCorrection
  dsimp only
  rw [if_neg hrate, hr, hoff]
  rfl

theorem State.copyCorrection_cut_on (hr : (s.intake.get sen).state = .running)
    (hrate : (s.intake.get sen).correction.staged.rate ≠ (s.intake.get sen).correction.active.rate)
    (hon : (s.intake.get sen).correction.staged.rate ≠ .off) : s.copyCorrection sen = s.cutStream sen := by
  unfold State.copyCorrection
  dsimp only
  rw [if_neg hrate, hr]
  cases hstaged : (s.intake.get sen).correction.staged.rate
  · exact absurd hstaged hon
  all_goals rfl

theorem State.cutStream_intake (s : State) (sen : Sensor) :
    (s.cutStream sen).intake = s.intake.set sen (s.intake.get sen).copyGroup.enterGap := by
  unfold State.cutStream
  rw [State.declareGap_intake, State.modIntake_intake, PerSensor.get_set, PerSensor.set_set]

theorem State.cutStream_spares (s : State) (sen : Sensor) : Spares sen s (s.cutStream sen) :=
  (State.modIntake_spares (f := .copyGroup) _ fun _ => rfl).trans (State.declareGap_spares _ _ _)

theorem State.cutStream_declared (s : State) (sen : Sensor) (dt : Nat) :
    GapDeclared s ((s.elapse dt).cutStream sen) sen dt :=
  State.declareGap_declared (u := (s.elapse dt).modIntake sen .copyGroup) false rfl rfl rfl rfl rfl

end

/-- R2, R18: a frame of a sensor that has just entered OFF is an OFF frame. -/
theorem State.enterOff_handleFrame (s : State) (f : Frame) :
    (s.enterOff f.sensor).handleFrame f = (s.enterOff f.sensor).modIntake f.sensor .countOff := by
  unfold State.handleFrame
  rw [State.enterOff_intake, PerSensor.get_set]
  cases f.good <;> rfl

/-- Settles O42: the APPLY, and the copy that a frame finds pending. -/
theorem correctionAppliesBetweenFrames : Obligations.CorrectionAppliesBetweenFrames := by
  refine ⟨fun dt p sen s hf h => applyCorrection_leaves hf h, fun dt bytes f s hf ha => ?_⟩
  intro r copied
  refine ⟨fun hrate => ?_, fun hr hrate hoff => ?_, fun hr hrate hon hg => ?_⟩
  · have hcopied : Runs (.sampleLinkFrame dt bytes) { s with intake := s.intake.set f.sensor copied }
        ((State.elapse { s with intake := s.intake.set f.sensor copied } dt).handleFrame f) :=
      frame_runs hf (by rw [PerSensor.get_set])
    rw [frame_runs_copied hf ha, hcopied, State.copyCorrection_same_rate (s := s.elapse dt) hrate]
    rfl
  · have hcopy := State.copyCorrection_cut_off (s := s.elapse dt) hr hrate hoff
    have hint : ((s.elapse dt).cutStream f.sensor).intake = s.intake.set f.sensor copied.enterGap :=
      (s.elapse dt).cutStream_intake f.sensor
    obtain ⟨hp, hs, hpage, hnew, -⟩ := s.cutStream_declared f.sensor dt
    have hcut := (s.elapse dt).cutStream_spares f.sensor
    generalize (s.elapse dt).cutStream f.sensor = v at hcopy hint hp hs hpage hnew hcut
    obtain ⟨hring, -, hdet⟩ := v.enterOff_rest f.sensor
    have hspares : Spares f.sensor (s.elapse dt) ((v.enterOff f.sensor).modIntake f.sensor .countOff) :=
      (hcut.trans (v.enterOff_spares _)).trans (State.modIntake_spares _ fun _ => rfl)
    refine ⟨(v.enterOff f.sensor).modIntake f.sensor .countOff, (frame_runs_copied hf ha).trans
      (congrArg Host.Outcome.next (by rw [hcopy]; exact v.enterOff_handleFrame f)), ?_, ?_, ?_,
      fun hopen hne => ?_, ?_, hspares.others⟩
    · rw [State.modIntake_intake, State.enterOff_intake, hint, PerSensor.get_set, PerSensor.set_set, PerSensor.get_set,
        PerSensor.set_set]
      rfl
    · unfold State.channel at hp ⊢
      rw [State.modIntake_detector, hdet]
      exact hp
    · unfold State.channel at hs ⊢
      rw [State.modIntake_detector, hdet]
      exact hs
    · rw [State.modIntake_ring, hring]
      exact hpage hopen hne
    · rw [State.modIntake_ring, hring]
      exact hnew
  · have hcopy := State.copyCorrection_cut_on (s := s.elapse dt) hr hrate hon
    have hint : ((s.elapse dt).cutStream f.sensor).intake = s.intake.set f.sensor copied.enterGap :=
      (s.elapse dt).cutStream_intake f.sensor
    obtain ⟨-, -, -, hnew, -, -, -, -, -, htime⟩ := s.cutStream_declared f.sensor dt
    have hcut := (s.elapse dt).cutStream_spares f.sensor
    generalize (s.elapse dt).cutStream f.sensor = v at hcopy hint hnew htime hcut
    have hset : correct r.correction.staged f = correct (v.activeCorrection f.sensor) f := by
      unfold State.activeCorrection
      rw [hint, PerSensor.get_set]
      rfl
    obtain ⟨hstarted, hpage, hspares⟩ := State.startStream_starts (s := v) (f := f) hset
      (now := s.time.localTime + dt) (by rw [htime]; rfl)
    have hhandle : v.handleFrame f = v.startStream f :=
      State.handleFrame_start hg (.inr (by rw [hint, PerSensor.get_set]; rfl))
    refine ⟨_, (frame_runs_copied hf ha).trans (congrArg Host.Outcome.next ((by rw [hcopy]; exact hhandle))), ?_,
      hpage.of_newest hnew ?_, (hcut.trans hspares).others⟩
    · rw [hstarted, hint, PerSensor.get_set, PerSensor.set_set]
      rw [show copied = { copied with state := .running } from by rw [← hr]]
      rfl
    · rw [hcut.works.rest]
      rfl

end Sys2Proof.Machine


/-! PROOFS. Chapter 2: the messages of the Time Link and the second-marks. -/

namespace Sys2Proof.Machine

/-! ### Second-marks -/

theorem State.mark_locked {s : State} {m : TimeMessage} (hm : s.time.pendingMessage = some m) (hl : m.locked = true) :
    s.mark = s.validMark m.seconds := by
  unfold State.mark
  rw [hm]
  exact if_pos hl

theorem State.mark_ignored {s : State} (h : ∀ m, s.time.pendingMessage = some m → m.locked = false) :
    s.mark = s.ignoredMark := by
  unfold State.mark
  split
  · next m hm => exact if_neg (by rw [h m hm]; decide)
  · rfl

/-- R26: a mark in step with the time held, or one that finds no time held. -/
theorem State.validMark_renews {s : State} {n : Nat}
    (h : ∀ d, s.time.markDifference { seconds := n, micros := 0 } = some d → d ≤ 1000) :
    s.validMark n = { s with time := s.time.renew { seconds := n, micros := 0 } } := by
  unfold State.validMark
  dsimp only
  split
  · rfl
  · next d hd => exact if_neg (Nat.not_lt.2 (h d hd))

theorem State.validMark_steps {s : State} {n d : Nat}
    (h : s.time.markDifference { seconds := n, micros := 0 } = some d) (hd : 1000 < d) :
    s.validMark n = State.raiseBoth { s with time := { s.time.renew { seconds := n, micros := 0 } with
      lastFault := .step, stepSize := min d 4294967295 } } .timeFault := by
  unfold State.validMark
  dsimp only
  rw [h]
  exact if_pos hd

theorem Timebase.markDifference_noTime {x : Timebase} (h : x.state = .noTime) (a : AbsTime) :
    x.markDifference a = none := by
  unfold Timebase.markDifference
  rw [h]

theorem Timebase.markDifference_held {x : Timebase} (h : x.state ≠ .noTime) (a : AbsTime) :
    x.markDifference a = x.anchor.map fun b => AbsTime.distance (b.absAt x.localTime) a := by
  unfold Timebase.markDifference
  split
  · next hn => exact absurd hn h
  · rfl

/-- The difference found is the distance from the anchor's time. -/
theorem Timebase.markDifference_eq_some {x : Timebase} {a : AbsTime} {d : Nat} (h : x.markDifference a = some d) :
    x.state ≠ .noTime ∧ ∃ b, x.anchor = some b ∧ d = AbsTime.distance (b.absAt x.localTime) a := by
  have hs : x.state ≠ .noTime := fun hn => by
    rw [Timebase.markDifference_noTime hn] at h
    cases h
  rw [Timebase.markDifference_held hs] at h
  obtain ⟨b, hb, hd⟩ := Option.map_eq_some_iff.1 h
  exact ⟨hs, b, hb, hd.symm⟩

/-- Settles O6: the step test splits the valid marks in two. -/
theorem secondMarkRenewsAnchorOrIsIgnored : Obligations.SecondMarkRenewsAnchorOrIsIgnored := by
  refine ⟨?_, fun dt s h => congrArg Host.Outcome.next (State.mark_ignored (s := s.elapse dt) h)⟩
  intro dt s m hm hl now
  have hrun : Runs (.secondMark dt) s ((s.elapse dt).validMark m.seconds) :=
    congrArg Host.Outcome.next (State.mark_locked (s := s.elapse dt) hm hl)
  by_cases hstep : ∃ d, (s.elapse dt).time.markDifference { seconds := m.seconds, micros := 0 } = some d ∧ 1000 < d
  · obtain ⟨d, hd, hlt⟩ := hstep
    obtain ⟨hs, b, hb, hdist⟩ := Timebase.markDifference_eq_some hd
    rw [State.validMark_steps hd hlt] at hrun
    refine ⟨_, hrun, rfl, rfl, fun a ha _ _ => ⟨rfl, ?_, State.raiseBoth_pends _ _⟩, fun h => ?_⟩
    · obtain rfl : b = a := Option.some.inj (hb.symm.trans ha)
      exact congrArg (min · 4294967295) hdist
    · rcases h with h | h | ⟨a, ha, hle⟩
      · exact absurd h hs
      · exact absurd (hb.symm.trans h) (by simp)
      · obtain rfl : b = a := Option.some.inj (hb.symm.trans ha)
        exact absurd hle (Nat.not_le.2 (hdist ▸ hlt))
  · have hno : ∀ d, (s.elapse dt).time.markDifference { seconds := m.seconds, micros := 0 } = some d → d ≤ 1000 :=
      fun d hd => Nat.not_lt.1 fun hlt => hstep ⟨d, hd, hlt⟩
    rw [State.validMark_renews hno] at hrun
    refine ⟨_, hrun, rfl, rfl, fun a ha hs hlt => ?_, fun _ => ⟨rfl, rfl, rfl⟩⟩
    refine absurd ((Timebase.markDifference_held (x := (s.elapse dt).time) hs _).trans ?_)
      (fun hd => hstep ⟨_, hd, hlt⟩)
    exact congrArg (Option.map _) ha

/-! ### The line -/

theorem Timebase.idleAt_iff (x : Timebase) (t : Nat) : x.idleAt t = true ↔ x.idleSince + 5000 ≤ t :=
  decide_eq_true_iff

theorem State.endMessage_idle {s : State} (h : s.time.line = none) : s.endMessage = s := by
  unfold State.endMessage
  rw [h]

theorem State.endMessage_some {s : State} {chars : List LineChar} (h : s.time.line = some chars) :
    s.endMessage = State.timeMessage { s with time := { s.time with line := none } } chars (s.time.idleSince + 5000) := by
  unfold State.endMessage
  rw [h]
  rfl

theorem State.timeMessage_line (s : State) (chars : List LineChar) (arrival : Nat) :
    (s.timeMessage chars arrival).time.line = s.time.line
      ∧ (s.timeMessage chars arrival).time.idleSince = s.time.idleSince := by
  unfold State.timeMessage
  split
  · exact ⟨rfl, rfl⟩
  · dsimp only
    split
    · exact ⟨rfl, rfl⟩
    · exact ⟨rfl, rfl⟩

theorem State.endMessage_line (s : State) : s.endMessage.time.line = none
    ∧ s.endMessage.time.idleSince = s.time.idleSince := by
  cases h : s.time.line with
  | none =>
    rw [State.endMessage_idle h]
    exact ⟨h, rfl⟩
  | some chars =>
    rw [State.endMessage_some h]
    exact State.timeMessage_line _ _ _

/-- A state whose line carries something else. -/
def State.lined (s : State) (line : Option (List LineChar)) (since : Nat) : State :=
  { s with time := { s.time with line := line, idleSince := since } }

/-- R22: a character before which the line was not idle for long. -/
theorem State.lineChar_goesOn {s : State} {c : TimedChar} (h : s.time.localTime - c.began < s.time.idleSince + 5000) :
    s.lineChar c = s.lined (s.time.line.map (· ++ [c.char])) (s.time.localTime - c.ended) := by
  have hno : ¬ s.time.idleAt (s.time.localTime - c.began) = true := fun hi =>
    Nat.not_le.2 h ((Timebase.idleAt_iff _ _).1 hi)
  unfold State.lineChar
  dsimp only
  rw [if_neg hno]
  rfl

/-- R22: a character after idle time begins a message. -/
theorem State.lineChar_begins {s : State} {c : TimedChar} (h : s.time.idleSince + 5000 ≤ s.time.localTime - c.began) :
    s.lineChar c = s.endMessage.lined (some [c.char]) (s.time.localTime - c.ended) := by
  unfold State.lineChar
  dsimp only
  rw [if_pos ((Timebase.idleAt_iff _ _).2 h)]
  rfl

/-- After a row's characters the line is idle since the last of them. -/
theorem State.lineChars_since (l : List TimedChar) (d : TimedChar) (s : State) (h : l.getLast? = some d) :
    (l.foldl State.lineChar s).time.idleSince = s.time.localTime - d.ended := by
  obtain ⟨init, rfl⟩ := List.getLast?_eq_some_iff.1 h
  rw [List.foldl_append]
  exact congrArg (· - d.ended) (State.lineChars_times s init).localTime

/-- Characters that follow `d` and that no idle time divides. -/
def Undivided : TimedChar → List TimedChar → Prop
  | _, [] => True
  | d, e :: rest => e.ended ≤ e.began ∧ e.began ≤ d.ended ∧ d.ended < e.began + 5000 ∧ Undivided e rest

theorem undivided_of {c : TimedChar} {rest : List TimedChar} (ho : charsInOrder (c :: rest) = true)
    (hi : ∀ i d e, (c :: rest)[i]? = some d → (c :: rest)[i + 1]? = some e → d.ended < e.began + 5000) :
    Undivided c rest := by
  induction rest generalizing c with
  | nil => trivial
  | cons e rest ih =>
    simp only [charsInOrder, Bool.and_eq_true, decide_eq_true_eq] at ho
    obtain ⟨⟨-, hbegan⟩, ho⟩ := ho
    have hended : e.ended ≤ e.began := by
      cases rest with
      | nil => simpa [charsInOrder] using ho
      | cons f rest =>
        simp only [charsInOrder, Bool.and_eq_true, decide_eq_true_eq] at ho
        exact ho.1.1
    exact ⟨hended, hbegan, hi 0 c e rfl rfl, ih ho fun i => hi (i + 1)⟩

/-- Undivided characters go on with what the line carries. -/
theorem State.lineChars_goOn (s : State) (rest : List TimedChar) (d : TimedChar) (line : Option (List LineChar))
    (h : Undivided d rest) (hd : d.ended ≤ s.time.localTime) :
    rest.foldl State.lineChar (s.lined line (s.time.localTime - d.ended))
      = s.lined (line.map (· ++ rest.map (·.char))) (s.time.localTime - (rest.getLastD d).ended) := by
  induction rest generalizing d line with
  | nil =>
    rw [show line.map (· ++ ([] : List TimedChar).map (·.char)) = line from by simp]
    rfl
  | cons e rest ih =>
    obtain ⟨hended, hbegan, hshort, hrest⟩ := h
    have hchar : (s.lined line (s.time.localTime - d.ended)).lineChar e
        = s.lined (line.map (· ++ [e.char])) (s.time.localTime - e.ended) :=
      State.lineChar_goesOn (show s.time.localTime - e.began < s.time.localTime - d.ended + 5000 by omega)
    rw [List.foldl_cons, hchar, ih e _ hrest (by omega), List.getLastD_cons]
    simp [Option.map_map, Function.comp_def]

/-- R22: what the line carries after a row's characters, when no idle time divides them. -/
theorem State.lineChars_carry {s : State} {l : List TimedChar} {line : Option (List LineChar)} {since : Nat}
    (h : LineCarries s.time s.time.localTime l line since) : l.foldl State.lineChar s = s.lined line since := by
  cases l with
  | nil =>
    obtain ⟨rfl, rfl⟩ := h
    rfl
  | cons c rest =>
    obtain ⟨ho, hnow, rfl, hi, hline⟩ := h
    have hc : c.ended ≤ c.began := by
      cases rest with
      | nil => simpa [charsInOrder] using ho
      | cons f rest =>
        simp only [charsInOrder, Bool.and_eq_true, decide_eq_true_eq] at ho
        exact ho.1.1
    have hrest := undivided_of ho hi
    rw [List.foldl_cons]
    rcases hline with ⟨hidle, hnone, rfl⟩ | ⟨hbusy, rfl⟩
    · rw [State.lineChar_begins (by omega), State.endMessage_idle hnone, s.lineChars_goOn rest c _ hrest (by omega)]
      rfl
    · rw [State.lineChar_goesOn (by omega), s.lineChars_goOn rest c _ hrest (by omega)]
      simp [Option.map_map, Function.comp_def]

/-! ### Messages -/

theorem parseTimeMessage_good (b1 b2 b3 b4 b5 : Byte) :
    parseTimeMessage ([0xD4#8, b1, b2, b3, b4, b5, 0xD4#8 ^^^ b1 ^^^ b2 ^^^ b3 ^^^ b4 ^^^ b5].map
      fun b => { byte := b, framingError := false }) = some ((b1 ++ b2 ++ b3 ++ b4).toNat, b5.getLsbD 0) :=
  if_pos ⟨rfl, rfl, rfl⟩

/-- R22: a message is good with 7 bytes, no framing error, the lead byte, and a check byte that makes the XOR 0. -/
theorem parseTimeMessage_eq_none {chars : List LineChar}
    (h : chars.length ≠ 7 ∨ (∃ c ∈ chars, c.framingError = true) ∨ (chars.map (·.byte)).head? ≠ some 0xD4#8
      ∨ (chars.map (·.byte)).foldl (· ^^^ ·) 0#8 ≠ 0#8) : parseTimeMessage chars = none := by
  unfold parseTimeMessage
  dsimp only
  split
  · next b0 b1 b2 b3 b4 b5 b6 hb =>
    refine if_neg fun ⟨hall, hlead, hcheck⟩ => ?_
    rw [hb] at h
    rcases h with h | ⟨c, hc, he⟩ | h | h
    · exact h (by rw [← List.length_map (f := LineChar.byte), hb]; rfl)
    · simpa [he] using List.all_eq_true.1 hall c hc
    · exact h (congrArg some hlead)
    · refine h ?_
      subst hcheck
      simp only [List.foldl_cons, List.foldl_nil, BitVec.zero_xor]
      exact BitVec.xor_self
  · rfl

theorem State.timeLink_idle {s : State} {l : List TimedChar}
    (h : (l.foldl State.lineChar s).time.idleSince + 5000 ≤ s.time.localTime) :
    s.timeLink l = (l.foldl State.lineChar s).endMessage := by
  unfold State.timeLink
  dsimp only
  rw [(State.lineChars_times s l).localTime]
  exact if_pos ((Timebase.idleAt_iff _ _).2 h)

/-- A row whose characters no idle time divides, and whether the message they end in has arrived. -/
theorem State.timeLink_carries {s : State} {l : List TimedChar} {line : Option (List LineChar)} {since : Nat}
    (h : LineCarries s.time s.time.localTime l line since) :
    s.timeLink l = if since + 5000 ≤ s.time.localTime then (s.lined line since).endMessage else s.lined line since := by
  unfold State.timeLink
  rw [State.lineChars_carry h]
  exact if_congr (Timebase.idleAt_iff _ _) rfl rfl

/-- R22: idle time divides a row's characters as two rows would. -/
theorem State.timeLink_divided {s : State} {l : List TimedChar} {c : TimedChar} {rest : List TimedChar}
    (h : (l.foldl State.lineChar s).time.idleSince + 5000 ≤ s.time.localTime - c.began) :
    s.timeLink (l ++ c :: rest) = (s.timeLink l).timeLink (c :: rest) := by
  obtain ⟨v, hv⟩ : ∃ v, v = l.foldl State.lineChar s := ⟨_, rfl⟩
  have hnow : v.time.localTime = s.time.localTime := hv ▸ (State.lineChars_times s l).localTime
  rw [← hv] at h
  obtain ⟨hnone, hsince⟩ := State.endMessage_line v
  have hfirst : s.timeLink l = v.endMessage := by
    rw [hv]
    exact State.timeLink_idle (by rw [← hv]; omega)
  have hend := (State.endMessage_times v).localTime
  have hchar : v.endMessage.lineChar c = v.lineChar c := by
    rw [State.lineChar_begins (s := v) (by omega), State.lineChar_begins (s := v.endMessage) (by omega),
      State.endMessage_idle hnone, hend]
  rw [hfirst]
  unfold State.timeLink
  rw [List.foldl_append, ← hv, List.foldl_cons, List.foldl_cons, hchar]

/-- Settles O5: a row's characters are one run without idle time, or two rows. -/
theorem timeLinkMessagePendsOrIsCounted : Obligations.TimeLinkMessagePendsOrIsCounted := by
  refine ⟨?_, ?_⟩
  · intro dt l s line since now h
    have hcarry : exec (.timeLinkMessage dt l) s = .next (if since + 5000 ≤ now
        then ((s.elapse dt).lined line since).endMessage else (s.elapse dt).lined line since) :=
      congrArg Host.Outcome.next (State.timeLink_carries (s := s.elapse dt) h)
    refine ⟨fun hno => hcarry.trans (congrArg Host.Outcome.next ?_), fun harrives => ?_⟩
    · rcases hno with hno | rfl
      · exact if_neg (Nat.not_le.2 hno)
      · rw [State.endMessage_idle rfl, ite_self]
        rfl
    rw [if_pos harrives] at hcarry
    refine ⟨fun b1 b2 b3 b4 b5 hline => ?_, fun chars hline hbad => hcarry.trans (congrArg Host.Outcome.next ?_)⟩
    · subst hline
      rw [State.endMessage_some rfl] at hcarry
      unfold State.timeMessage at hcarry
      rw [parseTimeMessage_good] at hcarry
      by_cases hlost : b5.getLsbD 0 = false ∧ s.time.state = .locked
      · refine ⟨_, hcarry.trans (congrArg Host.Outcome.next (if_pos hlost)), rfl, rfl, ?_⟩
        rw [if_pos hlost]
        exact ⟨rfl, rfl, State.raiseBoth_pends _ _⟩
      · refine ⟨_, hcarry.trans (congrArg Host.Outcome.next (if_neg hlost)), rfl, rfl, ?_⟩
        rw [if_neg hlost]
        exact ⟨rfl, rfl, rfl⟩
    · subst hline
      rw [State.endMessage_some rfl]
      unfold State.timeMessage
      rw [parseTimeMessage_eq_none hbad]
      rfl
  · intro dt l c rest s now h
    have hidle : (l.foldl State.lineChar (s.elapse dt)).time.idleSince + 5000 ≤ (s.elapse dt).time.localTime - c.began := by
      cases hl : l.getLast? with
      | none =>
        rw [hl] at h
        rw [List.getLast?_eq_none_iff.1 hl]
        show s.time.idleSince + 5000 ≤ now - c.began
        omega
      | some d =>
        rw [hl] at h
        rw [State.lineChars_since l d _ hl]
        show now - d.ended + 5000 ≤ now - c.began
        omega
    refine ⟨_, rfl, ?_, congrArg Host.Outcome.next (State.timeLink_divided hidle)⟩
    rw [State.timeLink_idle (Nat.le_trans hidle (Nat.sub_le _ _))]
    exact (State.endMessage_line _).1

end Sys2Proof.Machine


/-! PROOFS. The check bits of the page time map (R41). The code is linear over XOR: the syndrome of two errors is the
XOR of their syndromes, and that of a correct entry is 0. -/

namespace Sys2Proof.Machine

/-! ### Linearity -/

theorem add_shiftLeft_eq_xor {a n : Nat} (h : a < 2 ^ n) (b : Nat) : a + b <<< n = a ^^^ b <<< n := by
  refine Nat.eq_of_testBit_eq fun j => ?_
  rw [Nat.shiftLeft_eq, Nat.add_comm, Nat.mul_comm, Nat.testBit_two_pow_mul_add _ h, Nat.testBit_xor,
    Nat.testBit_two_pow_mul]
  split
  · next hj => simp [Nat.not_le.2 hj]
  · next hj =>
    have hle : n ≤ j := Nat.not_lt.1 hj
    simp [hle, Nat.testBit_lt_two_pow (h.trans_le (Nat.pow_le_pow_right Nat.zero_lt_two hle))]

theorem xor_shiftRight_xor (x y n : Nat) : (x ^^^ y) ^^^ (x ^^^ y) >>> n = (x ^^^ x >>> n) ^^^ (y ^^^ y >>> n) := by
  rw [Nat.shiftRight_xor_distrib]
  ac_rfl

theorem xor_odd (x y : Nat) : ((x ^^^ y) % 2 == 1) = (x % 2 == 1).xor (y % 2 == 1) := by
  have h := Nat.testBit_xor x y 0
  simp only [Nat.testBit_zero] at h
  exact h

theorem parity_xor (x y : Nat) : parity (x ^^^ y) = (parity x).xor (parity y) := by
  simp only [parity, xor_shiftRight_xor, xor_odd]

/-- Parts that do not overlap: each is placed at or above `top`, the end of the one before. -/
def Chained {α : Type} (pos width : α → Nat) : Nat → List α → Prop
  | _, [] => True
  | top, i :: rest => top ≤ pos i ∧ Chained pos width (pos i + width i) rest

/-- Linear parts placed side by side are linear together. -/
theorem foldl_parts_xor {α : Type} {pos width : α → Nat} {part : α → Nat → Nat}
    (hlin : ∀ i x y, part i (x ^^^ y) = part i x ^^^ part i y) (hlt : ∀ i x, part i x < 2 ^ width i)
    (l : List α) {top : Nat} (h : Chained pos width top l) {a b : Nat} (ha : a < 2 ^ top) (hb : b < 2 ^ top) (x y : Nat) :
    l.foldl (fun w i => w + part i (x ^^^ y) <<< pos i) (a ^^^ b)
      = l.foldl (fun w i => w + part i x <<< pos i) a ^^^ l.foldl (fun w i => w + part i y <<< pos i) b := by
  induction l generalizing top a b with
  | nil => rfl
  | cons i rest ih =>
    obtain ⟨htop, hrest⟩ := h
    have up {c : Nat} (hc : c < 2 ^ top) : c < 2 ^ pos i := hc.trans_le (Nat.pow_le_pow_right Nat.zero_lt_two htop)
    have fits {c : Nat} (hc : c < 2 ^ top) (z : Nat) : c ^^^ part i z <<< pos i < 2 ^ (pos i + width i) := by
      refine Nat.xor_lt_two_pow ((up hc).trans_le (Nat.pow_le_pow_right Nat.zero_lt_two (Nat.le_add_right _ _))) ?_
      rw [Nat.shiftLeft_eq, Nat.pow_add, Nat.mul_comm]
      exact Nat.mul_lt_mul_of_pos_left (hlt i z) (Nat.two_pow_pos _)
    rw [List.foldl_cons, List.foldl_cons, List.foldl_cons, add_shiftLeft_eq_xor (up (Nat.xor_lt_two_pow ha hb)),
      add_shiftLeft_eq_xor (up ha), add_shiftLeft_eq_xor (up hb), ← ih hrest (fits ha x) (fits hb y), hlin,
      Nat.shiftLeft_xor_distrib]
    congr 1
    ac_rfl

theorem bit_lt (b : Bool) : b.toNat < 2 ^ 1 := Bool.toNat_lt b

theorem run_xor (lo n x y : Nat) : ((x ^^^ y) >>> lo) % 2 ^ n = (x >>> lo) % 2 ^ n ^^^ (y >>> lo) % 2 ^ n := by
  rw [Nat.shiftRight_xor_distrib, Nat.xor_mod_two_pow]

theorem spreadBits_xor (x y : Nat) : spreadBits (x ^^^ y) = spreadBits x ^^^ spreadBits y :=
  foldl_parts_xor (part := fun (i : Nat × Nat × Nat) x => (x >>> i.1) % 2 ^ i.2.1) (pos := fun i => i.2.2)
    (width := fun i => i.2.1) (fun i x y => run_xor i.1 i.2.1 x y)
    (fun i _ => Nat.mod_lt _ (Nat.two_pow_pos i.2.1)) codeRuns (top := 0) (by simp [codeRuns, Chained])
    Nat.zero_lt_one Nat.zero_lt_one x y

theorem gatherBits_xor (x y : Nat) : gatherBits (x ^^^ y) = gatherBits x ^^^ gatherBits y :=
  foldl_parts_xor (part := fun (i : Nat × Nat × Nat) x => (x >>> i.2.2) % 2 ^ i.2.1) (pos := fun i => i.1)
    (width := fun i => i.2.1) (fun i x y => run_xor i.2.2 i.2.1 x y)
    (fun i _ => Nat.mod_lt _ (Nat.two_pow_pos i.2.1)) codeRuns (top := 0) (by simp [codeRuns, Chained])
    Nat.zero_lt_one Nat.zero_lt_one x y

theorem toNat_xor (a b : Bool) : (a.xor b).toNat = a.toNat ^^^ b.toNat := by
  cases a <;> cases b <;> rfl

theorem hammingBits_xor (x y : Nat) : hammingBits (x ^^^ y) = hammingBits x ^^^ hammingBits y :=
  foldl_parts_xor (part := fun k w => (parity (w &&& hammingMask k)).toNat) (pos := id) (width := fun _ => 1)
    (fun k x y => by rw [Nat.and_xor_distrib_right, parity_xor, toNat_xor])
    (fun _ _ => bit_lt _) (List.range 8) (top := 0) (by simp [List.range_succ, Chained])
    Nat.zero_lt_one Nat.zero_lt_one x y

theorem hammingBits_lt (w : Nat) : hammingBits w < 2 ^ 8 := by
  have h : ∀ k, (parity (w &&& hammingMask k)).toNat ≤ 1 := fun k => Bool.toNat_le _
  have h0 := h 0; have h1 := h 1; have h2 := h 2; have h3 := h 3
  have h4 := h 4; have h5 := h 5; have h6 := h 6; have h7 := h 7
  simp only [hammingBits, List.range_succ, List.range_zero, List.nil_append, List.cons_append, List.foldl_cons,
    List.foldl_nil, Nat.shiftLeft_eq]
  omega

/-- The check bits of a data word, as a number. -/
def codeOf (d : Nat) : Nat :=
  hammingBits (spreadBits d) + ((parity (spreadBits d)).xor (parity (hammingBits (spreadBits d)))).toNat <<< 8

theorem codeOf_lt (d : Nat) : codeOf d < 2 ^ 9 := by
  have h := hammingBits_lt (spreadBits d)
  have hb := Bool.toNat_le ((parity (spreadBits d)).xor (parity (hammingBits (spreadBits d))))
  unfold codeOf
  rw [Nat.shiftLeft_eq]
  omega

theorem codeOf_xor (x y : Nat) : codeOf (x ^^^ y) = codeOf x ^^^ codeOf y := by
  have h (d : Nat) : codeOf d = hammingBits (spreadBits d)
      ^^^ ((parity (spreadBits d)).xor (parity (hammingBits (spreadBits d)))).toNat <<< 8 :=
    add_shiftLeft_eq_xor (hammingBits_lt _) _
  rw [h, h, h, spreadBits_xor, hammingBits_xor, parity_xor, parity_xor, Bool.xor_assoc,
    Bool.xor_left_comm (parity (spreadBits y)), ← Bool.xor_assoc, toNat_xor, Nat.shiftLeft_xor_distrib]
  ac_rfl

theorem MapEntry.checkOf_toNat (e : MapEntry) : e.checkOf.toNat = codeOf e.dataBits.toNat :=
  (BitVec.toNat_ofNat _ _).trans (Nat.mod_eq_of_lt (codeOf_lt _))

/-! ### Single bits -/

/-- What the code makes of data bit `i`: its name is of odd parity, is no check bit's, and is where the bit stands in
the code word. -/
def namesBit (i : Nat) : Bool :=
  let position := codeOf (2 ^ i) % 256
  parity (codeOf (2 ^ i)) && decide (position ≠ 0 ∧ position ∉ [1, 2, 4, 8, 16, 32, 64, 128])
    && decide (3 < position ∧ position ≤ 200) && decide (spreadBits (2 ^ i) = 1 <<< position)

theorem namesBit_all : (List.range' 1 191).all namesBit = true := by decide +kernel

theorem namesBit_of {i : Nat} (h1 : 1 ≤ i) (h : i < 192) : namesBit i = true :=
  List.all_eq_true.1 namesBit_all i (List.mem_range'_1.2 ⟨h1, h⟩)

/-- The four parts of `namesBit`. -/
theorem codeOf_bit {i : Nat} (h1 : 1 ≤ i) (h : i < 192) :
    parity (codeOf (2 ^ i)) = true
      ∧ ¬ (codeOf (2 ^ i) % 256 = 0 ∨ codeOf (2 ^ i) % 256 ∈ [1, 2, 4, 8, 16, 32, 64, 128])
      ∧ (3 < codeOf (2 ^ i) % 256 ∧ codeOf (2 ^ i) % 256 ≤ 200)
      ∧ spreadBits (2 ^ i) = 1 <<< (codeOf (2 ^ i) % 256) := by
  have hn := namesBit_of h1 h
  simp only [namesBit, Bool.and_eq_true, decide_eq_true_eq] at hn
  obtain ⟨⟨⟨hp, hne⟩, hr⟩, hs⟩ := hn
  exact ⟨hp, not_or.2 hne, hr, hs⟩

theorem gatherBits_spreadBits_bit : ∀ i < 192, gatherBits (spreadBits (2 ^ i)) = 2 ^ i := by decide +kernel

/-- Linear maps that keep the single bits keep every word. -/
theorem eq_self_of_bits {f : Nat → Nat} (h0 : f 0 = 0) (hf : ∀ x y, f (x ^^^ y) = f x ^^^ f y) {n : Nat}
    (h : ∀ i < n, f (2 ^ i) = 2 ^ i) (d : Nat) (hd : d < 2 ^ n) : f d = d := by
  induction n generalizing d with
  | zero =>
    obtain rfl : d = 0 := by omega
    exact h0
  | succ n ih =>
    have ih := ih fun i hi => h i (Nat.lt_succ_of_lt hi)
    by_cases hlt : d < 2 ^ n
    · exact ih d hlt
    · obtain ⟨r, rfl⟩ : ∃ r, d = r + 1 <<< n := ⟨d - 2 ^ n, by rw [Nat.shiftLeft_eq]; omega⟩
      have hr : r < 2 ^ n := by rw [Nat.shiftLeft_eq, Nat.pow_succ] at hd; omega
      rw [add_shiftLeft_eq_xor hr, hf, ih r hr, Nat.one_shiftLeft, h n (Nat.lt_succ_self n)]

theorem gatherBits_spreadBits {d : Nat} (h : d < 2 ^ 192) : gatherBits (spreadBits d) = d :=
  eq_self_of_bits (f := fun d => gatherBits (spreadBits d)) (by decide)
    (fun x y => by rw [spreadBits_xor, gatherBits_xor]) gatherBits_spreadBits_bit d h

/-! ### Entries and their words -/

theorem MapEntry.dataBits_ofDataBits {d : BitVec 192} (h : d.getLsbD 0 = true) (check : BitVec 9) :
    (MapEntry.ofDataBits d check).dataBits = d := by
  have hvalid : (1#1 : BitVec 1) = d.extractLsb' 0 1 := by
    refine BitVec.eq_of_getLsbD_eq fun i hi => ?_
    obtain rfl : i = 0 := by omega
    simp [h]
  have joined {lo mid n m : Nat} (hmid : mid = lo + n) :
      d.extractLsb' mid m ++ d.extractLsb' lo n = d.extractLsb' lo (m + n) :=
    BitVec.extractLsb'_append_extractLsb'_eq_extractLsb' hmid
  unfold MapEntry.dataBits MapEntry.ofDataBits
  dsimp only
  rw [hvalid, joined (show 144 = 80 + 64 from rfl), joined (show 80 = 48 + 32 from rfl),
    joined (show 48 = 28 + 20 from rfl), joined (show 28 = 26 + 2 from rfl), joined (show 26 = 16 + 10 from rfl),
    joined (show 16 = 1 + 15 from rfl), joined (show 1 = 0 + 1 from rfl)]
  exact BitVec.extractLsb'_eq_self

/-- A part of a word above its lowest field. -/
theorem extract_above {v w : Nat} (x : BitVec v) (y : BitVec w) (start len : Nat) :
    (x ++ y).extractLsb' (w + start) len = x.extractLsb' start len := by
  rw [BitVec.extractLsb'_append_eq_of_le (Nat.le_add_right _ _), Nat.add_sub_cancel_left]

/-- Each field is found by passing the fields below it. -/
theorem MapEntry.ofDataBits_dataBits (e : MapEntry) (check : BitVec 9) :
    MapEntry.ofDataBits e.dataBits check = { e with check := check } := by
  obtain ⟨start, loc, sec, mic, q, f, p, c⟩ := e
  unfold MapEntry.ofDataBits
  congr 1
  · exact (extract_above _ 1#1 143 48).trans <| (extract_above _ p 128 48).trans <| (extract_above _ f 118 48).trans <|
      (extract_above _ q 116 48).trans <| (extract_above _ mic 96 48).trans <| (extract_above _ sec 64 48).trans <|
      (extract_above _ loc 0 48).trans BitVec.extractLsb'_eq_self
  · exact (extract_above _ 1#1 79 64).trans <| (extract_above _ p 64 64).trans <| (extract_above _ f 54 64).trans <|
      (extract_above _ q 52 64).trans <| (extract_above _ mic 32 64).trans <| (extract_above _ sec 0 64).trans <|
      BitVec.extractLsb'_append_eq_right
  · exact (extract_above _ 1#1 47 32).trans <| (extract_above _ p 32 32).trans <| (extract_above _ f 22 32).trans <|
      (extract_above _ q 20 32).trans <| (extract_above _ mic 0 32).trans BitVec.extractLsb'_append_eq_right
  · exact (extract_above _ 1#1 27 20).trans <| (extract_above _ p 12 20).trans <| (extract_above _ f 2 20).trans <|
      (extract_above _ q 0 20).trans BitVec.extractLsb'_append_eq_right
  · exact (extract_above _ 1#1 25 2).trans <| (extract_above _ p 10 2).trans <| (extract_above _ f 0 2).trans
      BitVec.extractLsb'_append_eq_right
  · exact (extract_above _ 1#1 15 10).trans <| (extract_above _ p 0 10).trans BitVec.extractLsb'_append_eq_right
  · exact (extract_above _ 1#1 0 15).trans BitVec.extractLsb'_append_eq_right

theorem MapEntry.dataBits_valid (e : MapEntry) : e.dataBits.getLsbD 0 = true :=
  (BitVec.getLsbD_append (y := 1#1) (i := 0)).trans rfl

/-- The syndrome: the difference of the check bits (R41). -/
def MapEntry.syndrome (e : MapEntry) : Nat := codeOf e.dataBits.toNat ^^^ e.check.toNat

/-- What an error in bit `i` adds to the syndrome. -/
def syndromeOf (i : Nat) : Nat := if i < 192 then codeOf (2 ^ i) else 2 ^ (i - 192)

theorem MapEntry.syndrome_withCheck (e : MapEntry) : e.withCheck.syndrome = 0 := by
  unfold MapEntry.syndrome
  rw [← MapEntry.checkOf_toNat]
  exact Nat.xor_self _

theorem MapEntry.flipBit_dataBits (e : MapEntry) {i : Nat} (h1 : 1 ≤ i) (h : i < 192) :
    (e.flipBit i).dataBits = e.dataBits ^^^ BitVec.twoPow 192 i := by
  unfold MapEntry.flipBit
  rw [if_pos h]
  refine MapEntry.dataBits_ofDataBits ?_ _
  rw [BitVec.getLsbD_xor, MapEntry.dataBits_valid, BitVec.getLsbD_twoPow]
  simp [show i ≠ 0 by omega]

theorem twoPow_toNat {w i : Nat} (h : i < w) : (BitVec.twoPow w i).toNat = 2 ^ i := by
  rw [BitVec.toNat_twoPow]
  exact Nat.mod_eq_of_lt (Nat.pow_lt_pow_right Nat.one_lt_two h)

/-- The syndromes of errors add up. -/
theorem MapEntry.syndrome_flipBit (e : MapEntry) {i : Nat} (h1 : 1 ≤ i) (h : i < 201) :
    (e.flipBit i).syndrome = e.syndrome ^^^ syndromeOf i := by
  unfold syndromeOf
  by_cases hi : i < 192
  · rw [if_pos hi]
    unfold MapEntry.syndrome
    rw [MapEntry.flipBit_dataBits e h1 hi, show (e.flipBit i).check = e.check from by
      unfold MapEntry.flipBit; rw [if_pos hi]; rfl, BitVec.toNat_xor, twoPow_toNat hi, codeOf_xor]
    ac_rfl
  · rw [if_neg hi]
    unfold MapEntry.syndrome MapEntry.flipBit
    rw [if_neg hi]
    dsimp only
    rw [BitVec.toNat_xor, twoPow_toNat (by omega), ← Nat.xor_assoc]
    rfl

theorem check_bits : ∀ k < 9, parity (2 ^ k) = true
    ∧ (2 ^ k % 256 = 0 ∨ 2 ^ k % 256 ∈ [1, 2, 4, 8, 16, 32, 64, 128]) := by decide

theorem syndromeOf_odd {i : Nat} (h1 : 1 ≤ i) (h : i < 201) : parity (syndromeOf i) = true := by
  unfold syndromeOf
  split
  · next hi => exact (codeOf_bit h1 hi).1
  · exact (check_bits (i - 192) (by omega)).1

theorem ne_zero_of_parity {x : Nat} (h : parity x = true) : x ≠ 0 := by
  rintro rfl
  exact absurd h (by decide)

/-- Different errors have different syndromes: a name that is no check bit's tells where the bit stands. -/
theorem syndromeOf_ne {i j : Nat} (hi : 1 ≤ i) (hij : i < j) (hj : j < 201) : syndromeOf i ≠ syndromeOf j := by
  unfold syndromeOf
  by_cases hj' : j < 192
  · rw [if_pos (hij.trans hj'), if_pos hj']
    intro h
    obtain ⟨-, -, -, hsi⟩ := codeOf_bit hi (hij.trans hj')
    obtain ⟨-, -, -, hsj⟩ := codeOf_bit (hi.trans hij.le) hj'
    have hpow : (2 : Nat) ^ i = 2 ^ j := by
      rw [← gatherBits_spreadBits_bit i (hij.trans hj'), ← gatherBits_spreadBits_bit j hj', hsi, hsj, h]
    exact hij.ne (Nat.pow_right_injective le_rfl hpow)
  · rw [if_neg hj']
    by_cases hi' : i < 192
    · rw [if_pos hi']
      intro h
      obtain ⟨-, hno, -⟩ := codeOf_bit hi hi'
      rw [h] at hno
      exact hno (check_bits (j - 192) (by omega)).2
    · rw [if_neg hi']
      intro h
      have heq : i - 192 = j - 192 := Nat.pow_right_injective le_rfl h
      omega

/-! ### The test -/

theorem MapEntry.checkOf_xor_check (e : MapEntry) : e.checkOf.toNat ^^^ e.check.toNat = e.syndrome := by
  rw [MapEntry.checkOf_toNat]
  rfl

theorem mapTest_checkBit {e : MapEntry} (h : parity e.syndrome = true)
    (hc : e.syndrome % 256 = 0 ∨ e.syndrome % 256 ∈ [1, 2, 4, 8, 16, 32, 64, 128]) :
    mapTest e = .corrected e.withCheck := by
  unfold mapTest
  rw [MapEntry.checkOf_xor_check]
  dsimp only
  rw [if_neg (ne_zero_of_parity h), if_pos h, if_pos hc]

theorem mapTest_dataBit {e : MapEntry} (h : parity e.syndrome = true)
    (hc : ¬ (e.syndrome % 256 = 0 ∨ e.syndrome % 256 ∈ [1, 2, 4, 8, 16, 32, 64, 128]))
    (hd : 3 < e.syndrome % 256 ∧ e.syndrome % 256 ≤ 200) :
    mapTest e = .corrected (e.flipAt (e.syndrome % 256)) := by
  unfold mapTest
  rw [MapEntry.checkOf_xor_check]
  dsimp only
  rw [if_neg (ne_zero_of_parity h), if_pos h, if_neg hc, if_pos hd]

theorem mapTest_even {e : MapEntry} (h : parity e.syndrome = false) (h0 : e.syndrome ≠ 0) : mapTest e = .faulty := by
  unfold mapTest
  rw [MapEntry.checkOf_xor_check]
  dsimp only
  rw [if_neg h0, if_neg (by rw [h]; decide)]

/-- A data bit in error is put right where its syndrome names it. -/
theorem MapEntry.flipAt_flipBit (e : MapEntry) {i : Nat} (h1 : 1 ≤ i) (h : i < 192) :
    (e.flipBit i).flipAt (codeOf (2 ^ i) % 256) = e.withCheck := by
  obtain ⟨-, -, -, hspread⟩ := codeOf_bit h1 h
  unfold MapEntry.flipAt
  rw [← hspread, MapEntry.flipBit_dataBits e h1 h, BitVec.toNat_xor, twoPow_toNat h, spreadBits_xor, Nat.xor_assoc,
    Nat.xor_self, Nat.xor_zero, gatherBits_spreadBits e.dataBits.isLt, BitVec.ofNat_toNat, BitVec.setWidth_eq,
    MapEntry.ofDataBits_dataBits]
  rfl

theorem mapTest_flipBit (e : MapEntry) {i : Nat} (h1 : 1 ≤ i) (h : i < 201) :
    mapTest (e.withCheck.flipBit i) = .corrected e.withCheck := by
  have hs : (e.withCheck.flipBit i).syndrome = syndromeOf i := by
    rw [MapEntry.syndrome_flipBit _ h1 h, MapEntry.syndrome_withCheck, Nat.zero_xor]
  have hodd := syndromeOf_odd h1 h
  by_cases hi : i < 192
  · have hcode : syndromeOf i = codeOf (2 ^ i) := if_pos hi
    obtain ⟨-, hno, hrange, -⟩ := codeOf_bit h1 hi
    rw [hcode] at hs hodd
    rw [mapTest_dataBit (by rw [hs]; exact hodd) (by rw [hs]; exact hno) (by rw [hs]; exact hrange), hs,
      MapEntry.flipAt_flipBit _ h1 hi]
    rfl
  · have hcode : syndromeOf i = 2 ^ (i - 192) := if_neg hi
    rw [hcode] at hs hodd
    rw [mapTest_checkBit (by rw [hs]; exact hodd) (by rw [hs]; exact (check_bits (i - 192) (by omega)).2)]
    unfold MapEntry.flipBit
    rw [if_neg hi]
    rfl

theorem mapTest_flipBit_twice (e : MapEntry) {i j : Nat} (hi : 1 ≤ i) (hij : i < j) (hj : j < 201) :
    mapTest ((e.withCheck.flipBit i).flipBit j) = .faulty := by
  have hs : ((e.withCheck.flipBit i).flipBit j).syndrome = syndromeOf i ^^^ syndromeOf j := by
    rw [MapEntry.syndrome_flipBit _ (hi.trans hij.le) hj, MapEntry.syndrome_flipBit _ hi (hij.trans hj),
      MapEntry.syndrome_withCheck, Nat.zero_xor]
  refine mapTest_even ?_ ?_
  · rw [hs, parity_xor, syndromeOf_odd hi (hij.trans hj), syndromeOf_odd (hi.trans hij.le) hj]
    rfl
  · rw [hs]
    exact fun h => syndromeOf_ne hi hij hj (Nat.xor_eq_zero_iff.1 h)

/-- Settles O13: the code is linear, and its single bits have odd syndromes of their own. -/
theorem mapCheckAcceptsAndRepairs : Obligations.MapCheckAcceptsAndRepairs := by
  refine ⟨fun e => ⟨mapTest_withCheck e, fun i hi => ?_, fun i h1 h => mapTest_flipBit e h1 h,
    fun i j hi hij hj => mapTest_flipBit_twice e hi hij hj⟩, fun s sen page stored => ?_⟩
  · have h := mapTest_flipBit e (i := 192 + i) (by omega) (by omega)
    unfold MapEntry.flipBit at h
    rw [if_neg (by omega), Nat.add_sub_cancel_left] at h
    exact h
  · intro r index hread
    have hread' : Store.read (s.ring.get sen).pageMap (s.pageSize.active.mapIndex page) = some stored := hread
    refine ⟨fun h => ?_, fun e h => ?_, fun h => ?_⟩
    · unfold State.readEntry
      simp only [hread', h]
    · unfold State.readEntry
      simp only [hread', h]
      rfl
    · obtain ⟨u, hu⟩ : ∃ u, u = s.modRing sen fun r => { r with
          pageMap := Store.erase r.pageMap index, mapFaults := bump r.mapFaults } := ⟨_, rfl⟩
      have hread : s.readEntry sen page = (u.raiseBoth .mapFault, none) := by
        unfold State.readEntry
        simp only [hread', h, hu]
        rfl
      refine ⟨_, hread, by rw [hu]; rfl, by rw [hu]; rfl, State.raiseBoth_pends _ _, fun hinv => ?_⟩
      rw [State.raiseBoth_ring, hu, State.modRing_ring, PerSensor.get_set]
      obtain ⟨-, hmap, -⟩ := hinv sen
      exact Store.read_erase _ hmap

end Sys2Proof.Machine


/-! PROOFS. What the group tests, the release tests and the grant decisions leave of the records; DETACH, ATTACH and
TAKE. -/

namespace Sys2Proof.Machine

/-! ### Tests -/

/-- A record after the group tests: nothing of it has changed but that expiry may have made it SINGLE, and that an
attached port may have been offered it. -/
def PickRecord.Tested (s : State) (r r' : PickRecord) : Prop :=
  r = { r' with grouping := r.grouping, delivery := r.delivery }
    ∧ (r.grouping = r'.grouping ∨ r.grouping = .single)
    ∧ ∀ p, s.attached p = false → r.delivery.get p = r'.delivery.get p

/-- What tests of groups and of records can do: every record that is left is one of before, tested. -/
structure TestsOnly (s t : State) : Prop extends GrantsOnly s t where
  tested : ∀ r ∈ t.table.records, ∃ r' ∈ s.table.records, r.Tested s r'

theorem PickRecord.Tested.refl (s : State) (r : PickRecord) : r.Tested s r := ⟨rfl, .inl rfl, fun _ _ => rfl⟩

theorem PickRecord.Tested.trans {s t : State} {r r' r'' : PickRecord} (hm : ∀ p, t.attached p = s.attached p)
    (k : r.Tested t r') (h : r'.Tested s r'') : r.Tested s r'' := by
  obtain ⟨hsame, hgroup, hdelivery⟩ := h
  obtain ⟨ksame, kgroup, kdelivery⟩ := k
  refine ⟨by rw [ksame, hsame], ?_, fun p hp => (kdelivery p ((hm p).trans hp)).trans (hdelivery p hp)⟩
  rcases kgroup with kgroup | kgroup
  · rw [kgroup]
    exact hgroup
  · exact .inr kgroup

theorem TestsOnly.refl (s : State) : TestsOnly s s := ⟨.refl s, fun r hr => ⟨r, hr, .refl s r⟩⟩

theorem TestsOnly.trans {s t u : State} (h : TestsOnly s t) (k : TestsOnly t u) : TestsOnly s u :=
  ⟨h.toGrantsOnly.trans k.toGrantsOnly, fun r hr =>
    let ⟨_, hr', k'⟩ := k.tested r hr
    let ⟨r'', hr'', h'⟩ := h.tested _ hr'
    ⟨r'', hr'', k'.trans h.attached h'⟩⟩

theorem TestsOnly.foldl {α : Type} {f : State → α → State} (h : ∀ s x, TestsOnly s (f s x)) (l : List α) (s : State) :
    TestsOnly s (l.foldl f s) := by
  induction l generalizing s with
  | nil => exact .refl s
  | cons x rest ih => exact (h s x).trans (ih _)

/-- No record is changed. -/
theorem TestsOnly.of_sublist {s t : State} (h : GrantsOnly s t) (hs : t.table.records.Sublist s.table.records) :
    TestsOnly s t :=
  ⟨h, fun r hr => ⟨r, hs.subset hr, .refl s r⟩⟩

theorem TestsOnly.of_table {s t : State} (h : GrantsOnly s t) (ht : t.table = s.table) : TestsOnly s t :=
  .of_sublist h (by rw [ht])

/-- One record is changed. -/
theorem State.modPick_tests {s : State} {id : Nat} {f : PickRecord → PickRecord} (hf : ∀ r, (f r).Tested s r) :
    TestsOnly s (s.modPick id f) := by
  refine ⟨(State.modPick_reports fun r => ?_).toGrantsOnly, fun r hr => ?_⟩
  · obtain ⟨hsame, -⟩ := hf r
    unfold PickRecord.SameButReports
    rw [hsame]
  · rw [State.modPick_table] at hr
    obtain ⟨r', hr', rfl⟩ := List.mem_map.1 hr
    refine ⟨r', hr', ?_⟩
    split
    · exact hf r'
    · exact .refl s r'

theorem State.setSingle_tests (s : State) (id : Nat) : TestsOnly s (s.setGrouping id .single) :=
  State.modPick_tests fun _ => ⟨rfl, .inr rfl, fun _ _ => rfl⟩

theorem State.setDelivery_tests {s : State} {p : Port} (id : Nat) (d : Delivery) (h : s.attached p = true) :
    TestsOnly s (s.setDelivery p id d) :=
  State.modPick_tests fun r => ⟨rfl, .inl rfl, fun q hq => by
    rw [PerPort.get_set_ne]
    rintro rfl
    rw [h] at hq
    cases hq⟩

theorem State.setNotices_tests {s : State} {p : Port} (l : List Notice) (h : s.attached p = true) :
    TestsOnly s (s.setNotices p l) :=
  .of_table (State.setNotices_reports l h).toGrantsOnly rfl

theorem State.offerPick_tests {s : State} {p : Port} (id : Nat) (h : s.attached p = true) :
    TestsOnly s (s.offerPick p id) :=
  (State.setNotices_tests _ h).trans (State.setDelivery_tests id _ (by rw [State.attached_setNotices]; exact h))

theorem State.eachAttached_tests {s : State} {f : State → Port → OfferMode → State}
    (hf : ∀ t p m, t.attached p = true → TestsOnly t (f t p m)) : TestsOnly s (s.eachAttached f) := by
  have one : ∀ (t : State) (p : Port), TestsOnly t (State.atAttached f t p) := fun t p => by
    unfold State.atAttached
    split
    · exact .refl t
    · next m hm => exact hf t p m (State.attached_of_mode hm)
  exact (one s .a).trans (one _ .b)

theorem State.offerExpired_tests (s : State) (id : Nat) : TestsOnly s (s.offerExpired id) :=
  State.eachAttached_tests fun t p m h => by
    split
    · exact State.offerPick_tests id h
    · exact .refl t

theorem State.mergeClosing_tests (s : State) (group : Nat) : TestsOnly s (s.mergeClosing group) :=
  State.eachAttached_tests fun t p m h => by
    split
    · exact State.setNotices_tests _ h
    · exact State.setNotices_tests _ h

theorem State.releaseTest_sublist (s : State) (id : Nat) :
    (s.releaseTest id).table.records.Sublist s.table.records := by
  unfold State.releaseTest
  split
  · exact List.Sublist.refl _
  · split
    · exact List.filter_sublist
    · exact List.Sublist.refl _

theorem State.releaseTest_tests (s : State) (id : Nat) : TestsOnly s (s.releaseTest id) :=
  .of_sublist (State.releaseTest_reports s id).toGrantsOnly (s.releaseTest_sublist id)

theorem State.releaseTests_tests (s : State) (ids : List Nat) : TestsOnly s (s.releaseTests ids) :=
  .foldl State.releaseTest_tests ids s

theorem State.groupFreeTest_table (s : State) (id : Nat) : (s.groupFreeTest id).table = s.table := by
  unfold State.groupFreeTest
  split
  · rfl
  · split <;> rfl

theorem State.groupFreeTest_tests (s : State) (id : Nat) : TestsOnly s (s.groupFreeTest id) :=
  .of_table (State.groupFreeTest_reports s id).toGrantsOnly (s.groupFreeTest_table id)

theorem State.countExpired_reports (s : State) :
    ReportsOnly s { s with grouper := { s.grouper with expired := bump s.grouper.expired } } :=
  State.grouper_reports rfl rfl (fun h => h) fun h => ⟨h.1, bump_le _⟩

theorem State.expireGroup_tests (s : State) (g : GroupRecord) (handling : Option Nat) :
    TestsOnly s (s.expireGroup g handling) :=
  (((TestsOnly.foldl State.setSingle_tests (g.members.map (·.pick)) s).trans
    (.foldl State.offerExpired_tests (g.others handling) _)).trans
    (.of_table ((State.freeGroup_reports _ g.id).trans (State.countExpired_reports _)).toGrantsOnly rfl)).trans
    (State.releaseTests_tests _ _)

theorem State.closeGroup_tests (s : State) (g : GroupRecord) (handling : Option Nat) :
    TestsOnly s (s.closeGroup g handling) :=
  (((TestsOnly.of_table (State.modGroup_reports s _ _).toGrantsOnly rfl).trans (State.mergeClosing_tests _ _)).trans
    (State.releaseTests_tests _ _)).trans (State.groupFreeTest_tests _ _)

theorem State.testGroup_tests (s : State) (handling : Option Nat) (id : Nat) : TestsOnly s (s.testGroup handling id) := by
  unfold State.testGroup
  split
  · exact .refl s
  · split <;> try split
    · exact State.expireGroup_tests s _ _
    · exact .refl s
    · exact State.closeGroup_tests s _ _
    · exact .refl s
    · exact .refl s

theorem State.testGroups_tests (s : State) : TestsOnly s s.testGroups :=
  .foldl (fun t id => State.testGroup_tests t none id) _ s

theorem State.discardHead_tests (s : State) (sen : Sensor) : TestsOnly s (s.discardHead sen) := by
  refine TestsOnly.trans (.of_table (t := (s.modQueue sen List.tail).loseRequest sen) ?_ rfl) (State.testGroups_tests _)
  exact (State.modQueue_grants fun _ h => h.sublist (List.tail_sublist _)).trans (State.loseRequest_grants _ _)

theorem State.stall_table (s : State) : s.stall.table = s.table := by
  unfold State.stall
  split <;> rfl

theorem State.grantDecision_tests (fuel : Nat) (s : State) : TestsOnly s (s.grantDecision fuel) := by
  induction fuel generalizing s with
  | zero => exact .refl s
  | succ fuel ih =>
    refine ⟨State.grantDecision_grants _ s, ?_⟩
    unfold State.grantDecision
    split
    · exact (TestsOnly.refl s).tested
    · split
      · rw [State.stall_table]
        exact (TestsOnly.refl s).tested
      · split
        · exact (TestsOnly.refl s).tested
        · next sen _ _ _ _ _ =>
          have hpass : TestsOnly s { s.passOthers sen with
              refiner := { (s.passOthers sen).refiner with lastGranted := sen } } :=
            .of_table ((State.passOthers_grants s sen).trans
              (State.refiner_grants rfl ⟨rfl, rfl, rfl⟩ (fun _ h => h) (fun _ h => h) .inl rfl)) rfl
          dsimp only
          split
          · exact ((hpass.trans (State.discardHead_tests _ _)).trans (ih _)).tested
          · exact hpass.tested

theorem State.settle_tests (before s : State) : TestsOnly s (State.settle before s) := by
  refine ⟨State.settle_grants before s, ?_⟩
  unfold State.settle
  split
  · exact (TestsOnly.refl s).tested
  · split
    · exact (State.grantDecision_tests _ s).tested
    · split <;> exact (TestsOnly.refl s).tested

/-! ### No candidates -/

theorem State.readyHead_eq_none {s : State} (h : s.candidates = []) (sen : Sensor) : s.readyHead sen = none := by
  have hno := List.filter_eq_nil_iff.1 h sen (by cases sen <;> decide)
  exact Option.not_isSome_iff_eq_none.1 hno

theorem State.chosen_eq_none {s : State} (h : s.candidates = []) : s.chosen = none := by
  unfold State.chosen
  split
  · refine List.find?_eq_none.2 fun sen _ => ?_
    rw [State.readyHead_eq_none h]
    decide
  · rw [h]
    rfl

/-- Without a READY head the end of an operation changes the refiner alone. -/
theorem State.settle_idle {s : State} (h : s.candidates = []) (before : State) :
    State.settle before s = { s with refiner := (State.settle before s).refiner } := by
  unfold State.settle
  split
  · rfl
  · split
    · rw [decisionFuel, State.grantDecision, State.chosen_eq_none h]
    · split <;> rfl

theorem State.candidates_congr {s t : State} (h : t.refiner = s.refiner) : t.candidates = s.candidates := by
  unfold State.candidates State.readyHead
  rw [h]

/-! ### DETACH (R160) -/

/-- What a detach leaves of the records: tested ones of the withdrawn state. -/
theorem State.detachPort_tests (s : State) (p : Port) :
    ∃ u, TestsOnly (s.withdrawn p) u ∧ s.detachPort p = u.silenced p :=
  ⟨_, ((State.releaseTests_tests _ _).trans (State.settle_tests _ _)).trans (.foldl State.groupFreeTest_tests _ _), rfl⟩

/-- R160, R178, R191, R200: what a detach leaves of its port. -/
theorem State.detachPort_leaves (s : State) (p : Port) {t : State} (ht : t = s.detachPort p) :
    t.attached p = false ∧ t.notices p = [] ∧ (t.offers.get p).setting = (s.offers.get p).setting
      ∧ t.chain p = Chain.reset ∧ t.chain p.other = s.chain p.other
      ∧ (∀ r ∈ t.table.records, r.delivery.get p = .none)
      ∧ (t.attention.get p).pending = 0#10 ∧ (t.attention.get p).changedBy = ⟨false, false⟩
      ∧ (t.attention.get p).pulse = none ∧ (t.attention.get p).mask = (s.attention.get p).mask
      ∧ t.ports = s.ports.set p { s.ports.get p with timer := none }
      ∧ (t.offers.get p.other).mode = (s.offers.get p.other).mode
      ∧ t.ring = s.ring ∧ t.detector = s.detector ∧ t.intake = s.intake := by
  obtain ⟨u, hu, hdetach⟩ := s.detachPort_tests p
  rw [hdetach] at ht
  subst ht
  have hoff := s.withdrawn_offers p
  have hdetached : (s.withdrawn p).attached p = false := by
    unfold State.attached
    rw [hoff, PerPort.get_set]
    rfl
  have hchains : u.chains = s.chains.set p .reset := by rw [hu.rest]; exact s.withdrawn_chains p
  have hports : u.ports = s.ports := by rw [hu.rest, s.withdrawn_rest p]
  refine ⟨(hu.attached p).trans hdetached, (hu.detached p hdetached).trans ?_, ((hu.modes p).2).trans ?_, ?_, ?_,
    fun r hr => ?_, ?_, ?_, ?_, ?_, ?_, ((hu.modes p.other).1).trans ?_, ?_⟩
  · unfold State.notices
    rw [hoff, PerPort.get_set]
  · rw [hoff, PerPort.get_set]
  · change u.chains.get p = _
    rw [hchains, PerPort.get_set]
  · change u.chains.get p.other = _
    rw [hchains, PerPort.get_set_other]
    rfl
  · obtain ⟨r', hr', -, -, hd⟩ := hu.tested r hr
    rw [hd p hdetached]
    obtain ⟨x, -, rfl⟩ := List.mem_map.1 (show r' ∈ s.table.records.map _ from hr')
    exact PerPort.get_set _ _ _
  · change ((u.attention.set p _).get p).pending = _
    rw [PerPort.get_set]
    rfl
  · change ((u.attention.set p _).get p).changedBy = _
    rw [PerPort.get_set]
    rfl
  · change ((u.attention.set p _).get p).pulse = _
    rw [PerPort.get_set]
    rfl
  · change ((u.attention.set p _).get p).mask = _
    rw [PerPort.get_set]
    refine ((hu.attention p).mask).trans ?_
    change ((s.attention.set p _).get p).mask = _
    rw [PerPort.get_set]
    exact (AttnRecord.grows_offerNews _ _ _ _).mask
  · change u.ports.set p { u.ports.get p with timer := none } = _
    rw [hports]
  · rw [hoff, PerPort.get_set_other]
  · change u.ring = _ ∧ u.detector = _ ∧ u.intake = _
    rw [hu.rest, s.withdrawn_rest p]
    exact ⟨rfl, rfl, rfl⟩

/-- Settles O28: both rows detach the port, and DETACH answers. -/
theorem detachLeavesNothingWaiting : Obligations.DetachLeavesNothingWaiting := by
  rintro dt p s i (⟨rfl, hh, ha⟩ | ⟨rfl, start, htimer, hdue⟩)
  · obtain ⟨t, ht⟩ : ∃ t, t = (s.elapse dt).detachPort p := ⟨_, rfl⟩
    have howner : (s.elapse dt).answerDetach p = { state := t, result := .ok, data := [] } := by
      rw [ht]
      exact if_pos ha
    have hrun := State.perform_given hh dt fun u => u.answerDetach p
    rw [howner] at hrun
    obtain ⟨h1, h2, h3, h4, h5, h6, h7, h8, h9, h10, hports, h11, h12⟩ := State.detachPort_leaves _ p ht
    have hgiven : (Answer.given { state := t, result := .ok, data := [] } p Request.detach.code).ports
        = s.ports.set p { s.ports.get p with
            timer := none, slot := .done { code := 0x02#8, result := .ok, data := [] } } := by
      change t.ports.set p { t.ports.get p with slot := _ } = _
      rw [hports, PerPort.get_set, PerPort.set_set]
      rfl
    refine ⟨_, congrArg Host.Outcome.next hrun, h1, h2, h3, h4, h5, h6, h7, h8, h9, h10, ?_, ?_, ?_, ?_, h11,
      fun _ => ?_, (nomatch ·), h12⟩ <;> rw [hgiven]
    · rw [PerPort.get_set]
    · rw [PerPort.get_set]
    · rw [PerPort.get_set]
    · rw [PerPort.get_set_other]
    · rw [PerPort.get_set]
  · have hdue' : (s.elapse dt).portOverdue p = true := by
      unfold State.portOverdue
      rw [show ((s.elapse dt).ports.get p).timer = some start from htimer]
      exact decide_eq_true hdue
    obtain ⟨h1, h2, h3, h4, h5, h6, h7, h8, h9, h10, hports, h11, h12⟩ := (s.elapse dt).detachPort_leaves p rfl
    refine ⟨_, congrArg Host.Outcome.next (if_pos hdue'), h1, h2, h3, h4, h5, h6, h7, h8, h9, h10, ?_, ?_, ?_, ?_, h11,
      (nomatch ·), fun _ => ?_, h12⟩ <;> rw [hports]
    · rw [PerPort.get_set]
    · rw [PerPort.get_set]
      rfl
    · rw [PerPort.get_set]
      rfl
    · rw [PerPort.get_set_other]
      rfl
    · rw [PerPort.get_set]
      rfl

/-! ### ATTACH (R159) -/

/-- R151: several picks are offered to one port. -/
theorem State.foldl_offerPick (s : State) (p : Port) (ids : List Nat) :
    let t := ids.foldl (fun u id => u.offerPick p id) s
    t = { s with offers := t.offers, attention := t.attention, table := t.table }
      ∧ t.offers = s.offers.set p { s.offers.get p with notices := s.notices p ++ ids.map .pickNew }
      ∧ t.table = { s.table with records := s.table.records.map fun r =>
          if r.id ∈ ids then { r with delivery := r.delivery.set p .waiting } else r } := by
  induction ids generalizing s with
  | nil => exact ⟨rfl, by rw [List.map_nil, List.append_nil]; exact (PerPort.set_get _ _).symm, by simp⟩
  | cons id rest ih =>
    obtain ⟨hrest, hoff, htable⟩ := ih (s.offerPick p id)
    refine ⟨hrest.trans rfl, ?_, ?_⟩
    · rw [List.foldl_cons, hoff]
      change (s.offers.set p _).set p { (s.offers.set p _).get p with notices := ((s.offers.set p _).get p).notices ++ _ } = _
      rw [PerPort.set_set, PerPort.get_set, List.append_assoc]
      rfl
    · rw [List.foldl_cons, htable]
      change ArrivalTable.mk _ _ = ArrivalTable.mk _ _
      congr 1
      change (s.table.records.map _).map _ = _
      rw [List.map_map]
      refine List.map_congr_left fun r _ => ?_
      simp only [Function.comp_apply, List.mem_cons]
      by_cases h : r.id = id
      · subst h
        by_cases hm : r.id ∈ rest
        · simp [hm]
        · simp [hm]
      · simp [h]

/-- R159, step 3: several groups are reported to one port. -/
theorem State.foldl_appendDeclared (s : State) (p : Port) (ids : List Nat) :
    let t := ids.foldl (fun u g => u.appendNotice p (.groupDeclared g)) s
    t = { s with offers := t.offers, attention := t.attention }
      ∧ t.offers = s.offers.set p { s.offers.get p with notices := s.notices p ++ ids.map .groupDeclared } := by
  induction ids generalizing s with
  | nil => exact ⟨rfl, by rw [List.map_nil, List.append_nil]; exact (PerPort.set_get _ _).symm⟩
  | cons id rest ih =>
    obtain ⟨hrest, hoff⟩ := ih (s.appendNotice p (.groupDeclared id))
    refine ⟨hrest.trans rfl, ?_⟩
    rw [List.foldl_cons, hoff]
    change (s.offers.set p _).set p { (s.offers.set p _).get p with notices := ((s.offers.set p _).get p).notices ++ _ } = _
    rw [PerPort.set_set, PerPort.get_set, List.append_assoc]
    rfl

/-- R159: the catch-up of a port. -/
theorem State.catchUp_offers (s : State) (p : Port) {offered : List PickRecord} {declared : List GroupRecord}
    (ho : offered = s.table.records.filter (PickRecord.offeredAt (s.offers.get p).setting))
    (hd : declared = s.grouper.groups.filter fun g => g.state = .declared) :
    s.catchUp p = { s with
        offers := (s.catchUp p).offers, attention := (s.catchUp p).attention, table := (s.catchUp p).table }
      ∧ (s.catchUp p).offers = s.offers.set p { s.offers.get p with
          notices := s.notices p ++ offered.map (fun r => .pickNew r.id) ++ declared.map fun g => .groupDeclared g.id }
      ∧ (s.catchUp p).table = { s.table with
          records := s.table.records.map fun r =>
            if r.id ∈ offered.map (·.id) then { r with delivery := r.delivery.set p .waiting } else r } := by
  obtain ⟨hrest, hoff, htable⟩ := s.foldl_offerPick p (offered.map (·.id))
  obtain ⟨hrest', hoff'⟩ := State.foldl_appendDeclared
    ((offered.map (·.id)).foldl (fun u id => u.offerPick p id) s) p (declared.map (·.id))
  have he : s.catchUp p = (declared.map (·.id)).foldl (fun u g => u.appendNotice p (.groupDeclared g))
      ((offered.map (·.id)).foldl (fun u id => u.offerPick p id) s) := by
    rw [ho, hd]
    rfl
  rw [he]
  refine ⟨?_, ?_, ?_⟩
  · rw [hrest', hrest]
  · rw [hoff', State.notices, hoff, PerPort.get_set, PerPort.set_set, List.map_map, List.map_map]
    rfl
  · rw [hrest']
    exact htable

/-- Settles O31: the catch-up of the port that has become ATTACHED. -/
theorem attachCatchesUp : Obligations.AttachCatchesUp := by
  intro dt p s hh
  have hrun := State.perform_given hh dt fun u => u.answerAttach p
  refine ⟨fun ha => congrArg Host.Outcome.next (hrun.trans ?_), fun ha hempty => ?_⟩
  · have howner : (s.elapse dt).answerAttach p = (s.elapse dt).refuse .already := if_pos ha
    rw [howner]
    rfl
  intro m offered declared
  obtain ⟨u, hu⟩ : ∃ u, u = (s.elapse dt).becomeAttached p := ⟨_, rfl⟩
  have hset : (u.offers.get p) = { s.offers.get p with mode := some m } := by
    rw [hu]
    exact PerPort.get_set _ _ _
  have huoff : u.offers = s.offers.set p { s.offers.get p with mode := some m } := by rw [hu]; rfl
  have hutable : u.table = s.table := by rw [hu]; rfl
  obtain ⟨hrest, hoff, htable⟩ := u.catchUp_offers p (offered := offered) (declared := declared)
    (by rw [hset, hutable]; rfl) (by rw [hu]; rfl)
  have hnotices : u.notices p = [] := by
    unfold State.notices
    rw [hset]
    exact hempty
  rw [hnotices, List.nil_append, hset, huoff, PerPort.set_set] at hoff
  rw [hutable] at htable
  have howner : (s.elapse dt).answerAttach p
      = { state := u.catchUp p, result := .ok, data := u8 (offered.length + declared.length) } := by
    have hlen : ((u.catchUp p).notices p).length = offered.length + declared.length := by
      unfold State.notices
      rw [hoff, PerPort.get_set, List.length_append, List.length_map, List.length_map]
    rw [← hlen, hu]
    exact if_neg (by rw [show (s.elapse dt).attached p = false from ha]; decide)
  rw [howner] at hrun
  have hports : u.ports = s.ports.set p { s.ports.get p with
      timer := if (s.ports.get p).timeout = 0 then none else some (s.time.localTime + dt) } := by rw [hu]; rfl
  have hkeeps : (u.catchUp p).ports = u.ports := by rw [hrest]
  refine ⟨_, congrArg Host.Outcome.next hrun, ?_, ?_, ?_, fun r hr r' hr' hid => ?_, htable, ?_, ?_⟩
  · change State.respond _ _ _ _ _ = _
    unfold State.respond
    rw [hrest, hu]
    rfl
  · change (u.catchUp p).offers.get p = _
    rw [hoff, PerPort.get_set]
  · change (u.catchUp p).offers.get p.other = _
    rw [hoff, PerPort.get_set_other]
  · change r' ∈ (u.catchUp p).table.records at hr'
    rw [htable] at hr'
    obtain ⟨x, -, rfl⟩ := List.mem_map.1 hr'
    have hx : x.id = r.id := by
      rw [← hid]
      split <;> rfl
    rw [if_pos (hx ▸ List.mem_map_of_mem hr)]
    exact PerPort.get_set _ _ _
  · change (u.catchUp p).ports.set p { (u.catchUp p).ports.get p with slot := _ } = _
    rw [hkeeps, hports, PerPort.get_set, PerPort.set_set]
    rfl
  · change (u.catchUp p).table.nextId = _
    rw [htable]

/-! ### TAKE (R156) -/

/-- R156, R124: what a take does after the notice has gone, of a pick's notice. -/
theorem State.tookPick_delivery {s : State} {p : Port} {id : Nat} {x : PickRecord} (hx : s.findPick id = some x) :
    ∀ r ∈ (s.tookPick p id).table.records, r.id = id → r.delivery.get p = x.state.taken := by
  unfold State.tookPick
  rw [hx]
  intro r hr hid
  have hr' : r ∈ (s.setDelivery p id x.state.taken).table.records := (State.releaseTest_sublist _ _).subset hr
  rw [State.setDelivery, State.modPick_table] at hr'
  obtain ⟨y, -, rfl⟩ := List.mem_map.1 hr'
  have hy : y.id = id := by
    rw [← hid]
    split <;> rfl
  rw [if_pos hy]
  exact PerPort.get_set _ _ _

theorem State.releaseTest_attention (s : State) (id : Nat) : (s.releaseTest id).attention = s.attention := by
  unfold State.releaseTest
  split
  · rfl
  · split <;> rfl

theorem State.groupFreeTest_attention (s : State) (id : Nat) : (s.groupFreeTest id).attention = s.attention := by
  unfold State.groupFreeTest
  split
  · rfl
  · split <;> rfl

theorem State.tookPick_lists (s : State) (p : Port) (id : Nat) :
    (s.tookPick p id).offers = s.offers ∧ (s.tookPick p id).attention = s.attention := by
  unfold State.tookPick
  split
  · exact ⟨rfl, rfl⟩
  · exact ⟨State.releaseTest_offers _ _, State.releaseTest_attention _ _⟩

/-- What follows the removal of a notice changes no list. -/
theorem State.tookNotice_lists (s : State) (p : Port) (n : Notice) :
    (s.tookNotice p n).offers = s.offers ∧ (s.tookNotice p n).attention = s.attention := by
  cases n with
  | pickNew id => exact s.tookPick_lists p id
  | pickFinal id => exact s.tookPick_lists p id
  | pickRetracted id _ => exact s.tookPick_lists p id
  | groupDeclared g => exact ⟨s.groupFreeTest_offers g, s.groupFreeTest_attention g⟩
  | groupClosed g => exact ⟨s.groupFreeTest_offers g, s.groupFreeTest_attention g⟩

theorem PickState.taken_eq (x : PickState) :
    x.taken = if x = .provisional then .takenProvisional else .takenFinal := by
  cases x <;> rfl

/-- Settles O32: without a READY head no decision follows the take. -/
theorem takeAnswersOldestNotice : Obligations.TakeAnswersOldestNotice := by
  intro dt p s hh
  have hrun := State.perform_given hh dt fun u => u.answerTake p
  refine ⟨fun hempty => ?_, fun n rest hn => ?_⟩
  · have howner : (s.elapse dt).answerTake p = { state := s.elapse dt, result := .empty, data := u8 0 } := by
      unfold State.answerTake
      rw [show (s.elapse dt).notices p = [] from hempty]
    rw [howner] at hrun
    exact ⟨_, congrArg Host.Outcome.next hrun, rfl, rfl⟩
  obtain ⟨u, hu⟩ : ∃ u, u = (s.elapse dt).setNotices p rest := ⟨_, rfl⟩
  obtain ⟨v, hv⟩ : ∃ v, v = u.tookNotice p n := ⟨_, rfl⟩
  obtain ⟨w, hw⟩ : ∃ w, w = State.settle (s.elapse dt) v := ⟨_, rfl⟩
  have howner : (s.elapse dt).answerTake p = {
      state := w
      result := .ok
      data := u8 n.kindNum ++ u8 n.retractingPort ++ u8 rest.length ++ (s.elapse dt).subjectSnapshot n } := by
    rw [hw, hv, hu]
    unfold State.answerTake
    rw [show (s.elapse dt).notices p = n :: rest from hn]
  rw [howner] at hrun
  have hreports : ReportsOnly u v := hv ▸ u.tookNotice_reports p n
  have hgrants : GrantsOnly u w := hw ▸ hreports.toGrantsOnly.trans (State.settle_grants _ v)
  have hwkeeps : w.ports = s.ports ∧ w.chains = s.chains ∧ w.ring = s.ring ∧ w.intake = s.intake
      ∧ w.detector = s.detector := by
    rw [hgrants.rest, hu]
    exact ⟨rfl, rfl, rfl, rfl, rfl⟩
  obtain ⟨hports, hkeeps⟩ := hwkeeps
  refine ⟨_, congrArg Host.Outcome.next hrun, Answer.answered (a := { state := w, result := _, data := _ }) _ hports,
    fun hidle => ?_, hkeeps⟩
  have hcand : v.candidates = [] := (State.candidates_congr (hreports.refiner.trans (by rw [hu]; rfl))).trans hidle
  have hwv : w = { v with refiner := w.refiner } := by
    rw [hw]
    exact State.settle_idle hcand _
  obtain ⟨hoff, hattn⟩ := u.tookNotice_lists p n
  rw [← hv] at hoff hattn
  have hwoff : w.offers = u.offers := by rw [hwv]; exact hoff
  have hwattn : w.attention = u.attention := by rw [hwv]; exact hattn
  refine ⟨?_, ?_, ?_, fun hlast => ?_, fun id hid x hx r hr hrid => ?_⟩
  · change (w.offers.get p).notices = rest
    rw [hwoff, hu]
    exact State.notices_setNotices _ _ _
  · change (w.offers.get p.other).notices = _
    rw [hwoff, hu]
    exact State.notices_setNotices_other _ _ _
  · change w.attention.get p.other = _
    rw [hwattn, hu, State.setNotices_attention, PerPort.get_set_other]
    rfl
  · change ¬ ClassSet.has (w.attention.get p).pending .offer = true
    rw [hwattn, hu, State.setNotices_attention, PerPort.get_set, hlast,
      show ((s.elapse dt).offers.get p).notices = n :: rest from hn]
    simp [offerNews]
  · change r ∈ w.table.records at hr
    rw [hwv] at hr
    rw [← PickState.taken_eq]
    have hux : u.findPick id = some x := by rw [hu]; exact hx
    have htook : v = u.tookPick p id := by
      rw [hv]
      rcases hid with rfl | rfl | ⟨q, rfl⟩ <;> rfl
    rw [htook] at hr
    exact State.tookPick_delivery hux r hr hrid

end Sys2Proof.Machine


/-! PROOFS. Retraction and finalization, and what is merged into the lists (R114, R116, R117, R143, R154). -/

namespace Sys2Proof.Machine

/-! ### One port's list -/

/-- R154: what the merge of a retraction by `by_` makes of a list, by the port's delivery field. -/
def retractedList (id : Nat) (by_ p : Port) (d : Delivery) (l : List Notice) : List Notice :=
  match l.find? (Notice.namesPick id) with
  | some (.pickNew _) => dropPick id l
  | some (.pickFinal _) => if p = by_ then dropPick id l else retractInPlace id by_ l
  | some _ => l
  | none => if p ≠ by_ ∧ (d = .takenProvisional ∨ d = .takenFinal) then l ++ [.pickRetracted id by_] else l

/-- R154: what it makes of the delivery field. -/
def retractedDelivery (id : Nat) (d : Delivery) (l : List Notice) : Delivery :=
  if d = .waiting ∧ l.find? (Notice.namesPick id) = some (.pickNew id) then .none else d

theorem State.delivery_of_mem {s : State} (h : (s.table.records.map (·.id)).Nodup) {r : PickRecord}
    (hr : r ∈ s.table.records) (p : Port) : s.delivery p r.id = r.delivery.get p := by
  unfold State.delivery
  rw [State.findPick_of_mem h hr]

theorem State.modPick_mem {s : State} {r : PickRecord} (hr : r ∈ s.table.records) (f : PickRecord → PickRecord) :
    f r ∈ (s.modPick r.id f).table.records := by
  rw [State.modPick_table]
  exact List.mem_map.2 ⟨r, hr, if_pos rfl⟩

theorem State.mergeRetractionAt_at {s : State} (h : (s.table.records.map (·.id)).Nodup) {r : PickRecord}
    (hr : r ∈ s.table.records) (by_ p : Port) :
    let t := s.mergeRetractionAt r.id by_ p
    t.offers = s.offers.set p { s.offers.get p with
        notices := retractedList r.id by_ p (r.delivery.get p) (s.notices p) }
      ∧ { r with delivery := r.delivery.set p (retractedDelivery r.id (r.delivery.get p) (s.notices p)) }
        ∈ t.table.records := by
  have hdelivery := State.delivery_of_mem h hr p
  have hsame : s.offers = s.offers.set p { s.offers.get p with notices := s.notices p } := (PerPort.set_get _ _).symm
  have hstays : { r with delivery := r.delivery.set p (r.delivery.get p) } ∈ s.table.records := by
    rw [PerPort.set_get]
    exact hr
  have hkeeps (hne : s.pickNotice p r.id ≠ some (.pickNew r.id)) :
      { r with delivery := r.delivery.set p (retractedDelivery r.id (r.delivery.get p) (s.notices p)) }
        ∈ s.table.records := by
    rw [show retractedDelivery r.id (r.delivery.get p) (s.notices p) = r.delivery.get p from if_neg fun h => hne h.2]
    exact hstays
  unfold State.mergeRetractionAt retractedList
  cases hfind : s.pickNotice p r.id with
  | none =>
    have hrecord := hkeeps (by rw [hfind]; exact (nomatch ·))
    rw [show (s.notices p).find? (Notice.namesPick r.id) = none from hfind, hdelivery]
    dsimp only
    split
    · exact ⟨rfl, hrecord⟩
    · exact ⟨hsame, hrecord⟩
  | some n =>
    rw [show (s.notices p).find? (Notice.namesPick r.id) = some n from hfind]
    have hnames : n.namesPick r.id = true := List.find?_some hfind
    cases n with
    | pickNew id =>
      obtain rfl : id = r.id := by simpa [Notice.namesPick] using hnames
      dsimp only
      rw [hdelivery]
      split
      · next hw =>
        rw [show retractedDelivery r.id (r.delivery.get p) (s.notices p) = .none from if_pos ⟨hw, hfind⟩]
        exact ⟨rfl, State.modPick_mem (s := s.setNotices p _) hr _⟩
      · next hw =>
        rw [show retractedDelivery r.id (r.delivery.get p) (s.notices p) = r.delivery.get p from if_neg fun h => hw h.1]
        exact ⟨rfl, hstays⟩
    | pickFinal id =>
      have hrecord := hkeeps (by rw [hfind]; exact (nomatch ·))
      dsimp only
      split
      · exact ⟨rfl, hrecord⟩
      · exact ⟨rfl, hrecord⟩
    | pickRetracted id q => exact ⟨hsame, hkeeps (by rw [hfind]; exact (nomatch ·))⟩
    | groupDeclared g => cases hnames
    | groupClosed g => cases hnames

theorem State.mergeRetraction_atAttached {s : State} (h : (s.table.records.map (·.id)).Nodup) {r : PickRecord}
    (hr : r ∈ s.table.records) (by_ p : Port) :
    let t := State.atAttached (fun u q _ => u.mergeRetractionAt r.id by_ q) s p
    (t.table.records.map (·.id)).Nodup
      ∧ t.offers = s.offers.set p { s.offers.get p with
        notices := if s.attached p = true then retractedList r.id by_ p (r.delivery.get p) (s.notices p)
          else s.notices p }
      ∧ { r with delivery := r.delivery.set p (if s.attached p = true
          then retractedDelivery r.id (r.delivery.get p) (s.notices p) else r.delivery.get p) } ∈ t.table.records := by
  unfold State.atAttached
  cases hm : (s.offers.get p).mode with
  | none =>
    have ha : ¬ s.attached p = true := by simp [State.attached, hm]
    rw [if_neg ha, if_neg ha, PerPort.set_get]
    exact ⟨h, (PerPort.set_get _ _).symm, hr⟩
  | some m =>
    have ha := State.attached_of_mode hm
    rw [if_pos ha, if_pos ha]
    exact ⟨(State.mergeRetractionAt_reports r.id by_ ha).ids.nodup h, State.mergeRetractionAt_at h hr by_ p⟩

/-- R154: a retraction is merged into every attached port's list. -/
theorem State.mergeRetraction_merges {s : State} (h : (s.table.records.map (·.id)).Nodup) {r : PickRecord}
    (hr : r ∈ s.table.records) (by_ : Port) :
    let t := s.mergeRetraction r.id by_
    (∀ q, t.offers.get q = { s.offers.get q with
        notices := if s.attached q = true then retractedList r.id by_ q (r.delivery.get q) (s.notices q)
          else s.notices q })
      ∧ ∃ r' ∈ t.table.records, r' = { r with delivery := r'.delivery }
        ∧ ∀ q, r'.delivery.get q = if s.attached q = true
            then retractedDelivery r.id (r.delivery.get q) (s.notices q) else r.delivery.get q := by
  obtain ⟨ha, hoa, hra⟩ := State.mergeRetraction_atAttached h hr by_ .a
  obtain ⟨-, hob, hrb⟩ := State.mergeRetraction_atAttached ha hra by_ .b
  have hattached : State.attached (State.atAttached (fun u q _ => u.mergeRetractionAt r.id by_ q) s .a) .b = s.attached .b := by
    unfold State.attached
    rw [hoa]
    rfl
  have hnotices : State.notices (State.atAttached (fun u q _ => u.mergeRetractionAt r.id by_ q) s .a) .b = s.notices .b := by
    unfold State.notices
    rw [hoa]
    rfl
  dsimp only at hob hrb
  rw [hattached, hnotices] at hob hrb
  intro t
  have ht : t.offers = _ := hob
  refine ⟨fun q => ?_, _, hrb, rfl, fun q => ?_⟩
  · rw [ht, hoa]
    cases q <;> rfl
  · cases q <;> rfl

/-! ### Which notice names a pick -/

/-- Where one notice at most names a pick, it is the one found. -/
theorem sole_named {l : List Notice} {id : Nat} {n : Notice} (hn : n ∈ l) (hid : n.namesPick id = true)
    (h : (l.filter (Notice.namesPick id)).length ≤ 1) :
    l.find? (Notice.namesPick id) = some n ∧ ∀ m ∈ l, m.namesPick id = true → m = n := by
  have hmem : n ∈ l.filter (Notice.namesPick id) := List.mem_filter.2 ⟨hn, hid⟩
  obtain ⟨x, hx⟩ : ∃ x, l.filter (Notice.namesPick id) = [x] :=
    List.length_eq_one_iff.1 (Nat.le_antisymm h (List.length_pos_of_mem hmem))
  rw [hx, List.mem_singleton] at hmem
  subst hmem
  refine ⟨by rw [← List.head?_filter, hx]; rfl, fun m hm hmid => ?_⟩
  have hm' : m ∈ l.filter (Notice.namesPick id) := List.mem_filter.2 ⟨hm, hmid⟩
  rw [hx] at hm'
  exact List.mem_singleton.1 hm'

theorem dropPick_sole {l : List Notice} {id : Nat} {n : Notice} (hid : n.namesPick id = true)
    (h : ∀ m ∈ l, m.namesPick id = true → m = n) : dropPick id l = l.filter fun m => m ≠ n := by
  refine List.filter_congr fun m hm => ?_
  cases hnames : m.namesPick id with
  | true => simp [h m hm hnames]
  | false =>
    have hne : m ≠ n := by
      rintro rfl
      rw [hid] at hnames
      cases hnames
    simp [hne]

theorem find_named_none {l : List Notice} {id : Nat} (h : ∀ n ∈ l, n.namesPick id = false) :
    l.find? (Notice.namesPick id) = none :=
  List.find?_eq_none.2 fun n hn => by rw [h n hn]; decide

/-! ### Release -/

theorem State.listNames_needs {s : State} {p : Port} {r : PickRecord} (ha : s.attached p = true) {n : Notice}
    (hn : n ∈ s.notices p) (hid : n.namesPick r.id = true) : s.releasable r = false := by
  have hneeds : s.portNeeds p r = true := by
    unfold State.portNeeds
    rw [ha, List.any_eq_true.2 ⟨n, hn, hid⟩]
    rfl
  unfold State.releasable
  cases p <;> simp [hneeds]

/-- R123: a record stands while an attached port's list names it. -/
theorem State.releaseTest_named {s : State} {p : Port} {id : Nat} (ha : s.attached p = true) {n : Notice}
    (hn : n ∈ s.notices p) (hid : n.namesPick id = true) : s.releaseTest id = s := by
  unfold State.releaseTest
  split
  · rfl
  · next r hr =>
    obtain ⟨-, rfl⟩ := State.mem_of_findPick hr
    exact if_neg (by rw [State.listNames_needs ha hn hid]; decide)

theorem State.releaseTest_rest (s : State) (id : Nat) :
    s.releaseTest id = { s with table := (s.releaseTest id).table } := by
  unfold State.releaseTest
  split
  · rfl
  · split <;> rfl

/-- The records that are left when the changed one goes. -/
theorem filter_changed_others {l : List PickRecord} {id : Nat} {f : PickRecord → PickRecord}
    (hf : ∀ x : PickRecord, x.id = id → (f x).id = id) :
    (l.map fun x => if x.id = id then f x else x).filter (fun x => x.id != id) = l.filter fun x => x.id ≠ id := by
  induction l with
  | nil => rfl
  | cons x rest ih =>
    by_cases hid : x.id = id
    · simpa [hid, hf x hid] using ih
    · simpa [hid] using ih

theorem State.releaseTest_free {s : State} {id : Nat} {r : PickRecord} (hr : s.findPick id = some r)
    (h : s.releasable r = true) : s.releaseTest id = { s with table := s.table.free id } := by
  unfold State.releaseTest
  rw [hr]
  exact if_pos h

/-! ### RETRACT (R116) -/

theorem State.leaveGroup_keeps (s : State) (pick groupId : Nat) :
    (s.leaveGroup pick groupId).table = s.table ∧ (s.leaveGroup pick groupId).offers = s.offers := by
  unfold State.leaveGroup
  split
  · exact ⟨rfl, rfl⟩
  · split
    · exact ⟨rfl, rfl⟩
    · dsimp only
      split <;> exact ⟨rfl, rfl⟩

theorem State.setGrouping_mem {s : State} {r : PickRecord} (hr : r ∈ s.table.records) (G : Grouping) :
    { r with grouping := G } ∈ (s.setGrouping r.id G).table.records :=
  State.modPick_mem hr _

/-- R143: the grouper leaves a retracted record SINGLE, and no list changed. -/
theorem State.groupRetract_single {s : State} {r : PickRecord} (hr : r ∈ s.table.records) :
    { r with grouping := .single } ∈ (s.groupRetract r).table.records ∧ (s.groupRetract r).offers = s.offers := by
  have left (g : Nat) : { r with grouping := .single } ∈ ((s.leaveGroup r.id g).setGrouping r.id .single).table.records
      ∧ ((s.leaveGroup r.id g).setGrouping r.id .single).offers = s.offers := by
    obtain ⟨htable, hoffers⟩ := s.leaveGroup_keeps r.id g
    exact ⟨State.setGrouping_mem (by rw [htable]; exact hr) _, hoffers⟩
  unfold State.groupRetract
  split
  · next hg => exact ⟨by rw [← hg]; exact hr, rfl⟩
  · exact left _
  · exact left _

/-- R116, R117: in `t` the record `r` of `s` has been retracted by port `p`, up to the release test: it stands as `r'`,
RETRACTED and SINGLE, and the lists are merged. -/
structure Retraction (s t : State) (p : Port) (r r' : PickRecord) : Prop where
  picks : PicksOnly s t
  refiner : t.refiner = s.refiner
  lists : ∀ q, t.offers.get q = { s.offers.get q with
    notices := if s.attached q = true then retractedList r.id p q (r.delivery.get q) (s.notices q) else s.notices q }
  mem : r' ∈ t.table.records
  same : r' = { r with state := .retracted, retractedBy := some p, grouping := .single, delivery := r'.delivery }
  delivery : ∀ q, r'.delivery.get q = if s.attached q = true
    then retractedDelivery r.id (r.delivery.get q) (s.notices q) else r.delivery.get q

theorem State.retraction_merges {s : State} (h : (s.table.records.map (·.id)).Nodup) {r : PickRecord}
    (hr : r ∈ s.table.records) (p : Port) :
    ∃ r', Retraction s (((s.modPick r.id (PickRecord.retract p)).groupRetract (r.retract p)).mergeRetraction r.id p)
      p r r' := by
  obtain ⟨u, hu⟩ : ∃ u, u = (s.modPick r.id (PickRecord.retract p)).groupRetract (r.retract p) := ⟨_, rfl⟩
  have hreports : ReportsOnly (s.modPick r.id (PickRecord.retract p)) u := hu ▸ State.groupRetract_reports _ _
  have hpicks : PicksOnly s u :=
    (State.modPick_picks (id := r.id) (f := PickRecord.retract p) fun _ => rfl).trans hreports.toPicksOnly
  have hu' : { r with state := .retracted, retractedBy := some p, grouping := .single } ∈ u.table.records
      ∧ u.offers = s.offers := by
    rw [hu]
    exact State.groupRetract_single (s := s.modPick r.id (PickRecord.retract p)) (State.modPick_mem hr (PickRecord.retract p))
  obtain ⟨hmem, hoff⟩ := hu'
  have hmerge : ReportsOnly u (u.mergeRetraction r.id p) := State.mergeRetraction_reports u r.id p
  obtain ⟨hlists, r', hr', hsame, hdelivery⟩ := State.mergeRetraction_merges (hpicks.ids.nodup h) hmem p
  dsimp only at hlists hr' hdelivery
  simp only [State.notices, State.attached, hoff] at hlists hdelivery
  rw [← hu]
  exact ⟨r', hpicks.trans hmerge.toPicksOnly, hmerge.refiner.trans hreports.refiner, hlists, hr', hsame, hdelivery⟩

/-- R154: what the merge makes of a list, notice by notice. -/
theorem retractedList_merges (id : Nat) (p q : Port) (d : Delivery) (l : List Notice)
    (h : (l.filter (Notice.namesPick id)).length ≤ 1) :
    (.pickNew id ∈ l → retractedList id p q d l = l.filter fun n => n ≠ .pickNew id)
      ∧ (.pickFinal id ∈ l → q = p → retractedList id p q d l = l.filter fun n => n ≠ .pickFinal id)
      ∧ (.pickFinal id ∈ l → q ≠ p → retractedList id p q d l
          = l.map fun n => if n = .pickFinal id then .pickRetracted id p else n)
      ∧ ((∀ n ∈ l, n.namesPick id = false) → retractedList id p q d l
          = if q ≠ p ∧ (d = .takenProvisional ∨ d = .takenFinal) then l ++ [.pickRetracted id p] else l) := by
  have hnew : (Notice.pickNew id).namesPick id = true := beq_self_eq_true id
  have hfinal : (Notice.pickFinal id).namesPick id = true := beq_self_eq_true id
  unfold retractedList
  refine ⟨fun hn => ?_, fun hn hq => ?_, fun hn hq => ?_, fun hno => ?_⟩
  · obtain ⟨hfind, hsole⟩ := sole_named hn hnew h
    rw [hfind]
    exact dropPick_sole hnew hsole
  · obtain ⟨hfind, hsole⟩ := sole_named hn hfinal h
    rw [hfind]
    exact (if_pos hq).trans (dropPick_sole hfinal hsole)
  · obtain ⟨hfind, -⟩ := sole_named hn hfinal h
    rw [hfind]
    exact if_neg hq
  · rw [find_named_none hno]

/-- The owner's answer to RETRACT of a live record. -/
theorem State.answerRetract_live {s : State} {id : Nat} {r : PickRecord} (p : Port) (hr : s.findPick id = some r)
    (hs : r.state ≠ .retracted) : s.answerRetract p id = {
      state := State.settle s ((((s.modPick r.id (PickRecord.retract p)).groupRetract (r.retract p)).mergeRetraction
        r.id p).releaseTest r.id)
      result := .ok
      data := (r.retract p).snapshot } := by
  obtain ⟨-, rfl⟩ := State.mem_of_findPick hr
  unfold State.answerRetract
  rw [hr]
  exact if_neg hs

section
variable {s u w : State} {p : Port} {r r' : PickRecord}

/-- The state that the answer to RETRACT leaves, from the merged one. -/
def retractEnd (s u : State) (id : Nat) : State := State.settle s (u.releaseTest id)

theorem retractEnd_tests (s u : State) (id : Nat) : TestsOnly u (retractEnd s u id) :=
  (u.releaseTest_tests id).trans (State.settle_tests _ _)

/-- R116: the record, where it still stands after the tests. -/
theorem Retraction.record (h : Retraction s u p r r') (hnd : (s.table.records.map (·.id)).Nodup) (hw : TestsOnly u w)
    {x : PickRecord} (hx : x ∈ w.table.records) (hid : x.id = r.id) :
    x.state = .retracted ∧ x.retractedBy = some p ∧ x.grouping = .single ∧ x.ending = r.ending := by
  obtain ⟨y, hy, hysame, hygroup, -⟩ := hw.tested x hx
  have hyid : y.id = r'.id := by
    rw [h.same, ← hid, hysame]
  obtain rfl : y = r' := List.inj_on_of_nodup_map (h.picks.ids.nodup hnd) hy h.mem hyid
  refine ⟨by rw [hysame, h.same], by rw [hysame, h.same], ?_, by rw [hysame, h.same]⟩
  rcases hygroup with hygroup | hygroup
  · rw [hygroup, h.same]
  · exact hygroup

/-- R124: with no refinement request waiting, no grant decision follows the release test. -/
theorem Retraction.end_rest (h : Retraction s u p r r') (hidle : s.candidates = []) :
    retractEnd s u r.id = { u.releaseTest r.id with refiner := (retractEnd s u r.id).refiner } :=
  State.settle_idle ((State.candidates_congr ((State.releaseTest_reports u r.id).refiner.trans h.refiner)).trans hidle) _

theorem Retraction.end_offers (h : Retraction s u p r r') (hidle : s.candidates = []) :
    (retractEnd s u r.id).offers = u.offers := by
  rw [h.end_rest hidle]
  exact State.releaseTest_offers _ _

/-- R154: the lists. -/
theorem Retraction.end_list (h : Retraction s u p r r') (hidle : s.candidates = []) (q : Port) :
    (retractEnd s u r.id).offers.get q = { s.offers.get q with
      notices := if s.attached q = true then retractedList r.id p q (r.delivery.get q) (s.notices q)
        else s.notices q } := by
  rw [h.end_offers hidle]
  exact h.lists q

/-- R121, R123: a retracted record that an attached port's list names stands, and what was waiting there waits no more. -/
theorem Retraction.stands (h : Retraction s u p r r') (hidle : s.candidates = [])
    (hnamed : ∃ q, (retractEnd s u r.id).attached q = true
      ∧ ∃ n ∈ (retractEnd s u r.id).notices q, n.namesPick r.id = true) :
    ∃ r' ∈ (retractEnd s u r.id).table.records, r'.id = r.id
      ∧ ∀ q, r'.delivery.get q = if s.attached q = true ∧ r.delivery.get q = .waiting
        ∧ s.pickNotice q r.id = some (.pickNew r.id) then .none else r.delivery.get q := by
  obtain ⟨q, hq, n, hn, hname⟩ := hnamed
  have hq' : u.attached q = true := ((retractEnd_tests s u r.id).attached q).symm.trans hq
  have hn' : n ∈ u.notices q := by
    unfold State.notices at hn
    rw [h.end_offers hidle] at hn
    exact hn
  have htable : (retractEnd s u r.id).table = u.table := by
    rw [h.end_rest hidle, State.releaseTest_named hq' hn' hname]
  refine ⟨r', htable ▸ h.mem, by rw [h.same], fun q => ?_⟩
  rw [h.delivery q]
  unfold retractedDelivery
  by_cases ha : s.attached q = true
  · rw [if_pos ha]
    exact if_congr ⟨fun h => ⟨ha, h⟩, fun h => h.2⟩ rfl rfl
  · rw [if_neg ha]
    exact (if_neg fun h => ha h.1).symm

end

/-! ### Finalization (R114) -/

/-- R154: whether a port is told that a record became FINAL. -/
def State.finalNews (s : State) (r : PickRecord) (q : Port) : Prop :=
  s.attached q = true ∧ (∀ n ∈ s.notices q, n.namesPick r.id = false) ∧ r.delivery.get q = .takenProvisional

theorem State.pickNotice_none_iff {s : State} {p : Port} {id : Nat} :
    s.pickNotice p id = none ↔ ∀ n ∈ s.notices p, n.namesPick id = false := by
  unfold State.pickNotice
  rw [List.find?_eq_none]
  exact forall₂_congr fun _ _ => by rw [Bool.not_eq_true]

/-- R154: the merge of a finalization at one port. -/
theorem State.mergeFinal_atAttached {s : State} (h : (s.table.records.map (·.id)).Nodup) {r : PickRecord}
    (hr : r ∈ s.table.records) (p : Port) :
    let t := State.atAttached (fun t p _ => match t.pickNotice p r.id with
      | some _ => t
      | none => if t.delivery p r.id = .takenProvisional then t.appendNotice p (.pickFinal r.id) else t) s p
    t = { s with offers := t.offers, attention := t.attention } ∧ t.offers.get p.other = s.offers.get p.other
      ∧ (s.finalNews r p → t.offers.get p = { s.offers.get p with notices := s.notices p ++ [.pickFinal r.id] })
      ∧ (¬ s.finalNews r p → t.offers.get p = s.offers.get p) := by
  unfold State.atAttached
  cases hm : (s.offers.get p).mode with
  | none =>
    refine ⟨rfl, rfl, fun hnews => ?_, fun _ => rfl⟩
    obtain ⟨ha, -⟩ := hnews
    simp [State.attached, hm] at ha
  | some m =>
    have ha := State.attached_of_mode hm
    dsimp only
    cases hfind : s.pickNotice p r.id with
    | some n =>
      refine ⟨rfl, rfl, fun hnews => ?_, fun _ => rfl⟩
      obtain ⟨-, hno, -⟩ := hnews
      rw [State.pickNotice_none_iff.2 hno] at hfind
      cases hfind
    | none =>
      dsimp only
      rw [State.delivery_of_mem h hr]
      split
      · next hd =>
        refine ⟨rfl, PerPort.get_set_other _ _ _, fun _ => PerPort.get_set _ _ _, fun hno => ?_⟩
        exact absurd ⟨ha, State.pickNotice_none_iff.1 hfind, hd⟩ hno
      · next hd =>
        refine ⟨rfl, rfl, fun hnews => ?_, fun _ => rfl⟩
        exact absurd hnews.2.2 hd

/-- R154: a finalization is merged into every attached port's list. -/
theorem State.mergeFinal_merges {s : State} (h : (s.table.records.map (·.id)).Nodup) {r : PickRecord}
    (hr : r ∈ s.table.records) :
    let t := s.mergeFinal r.id
    t = { s with offers := t.offers, attention := t.attention }
      ∧ (∀ q, s.finalNews r q → t.offers.get q = { s.offers.get q with notices := s.notices q ++ [.pickFinal r.id] })
      ∧ ∀ q, ¬ s.finalNews r q → t.offers.get q = s.offers.get q := by
  obtain ⟨hra, hoa, hna, hsa⟩ := State.mergeFinal_atAttached h hr .a
  obtain ⟨u, hu⟩ : ∃ u, u = State.atAttached (fun t p _ => match t.pickNotice p r.id with
      | some _ => t
      | none => if t.delivery p r.id = .takenProvisional then t.appendNotice p (.pickFinal r.id) else t) s .a := ⟨_, rfl⟩
  dsimp only at hra hoa hna hsa
  rw [← hu] at hra hoa hna hsa
  have htable : u.table = s.table := by rw [hra]
  obtain ⟨hrb, hob, hnb, hsb⟩ := State.mergeFinal_atAttached (s := u) (by rw [htable]; exact h)
    (by rw [htable]; exact hr) .b
  have hb : u.offers.get .b = s.offers.get .b := hoa
  have hnews : u.finalNews r .b ↔ s.finalNews r .b := by
    unfold State.finalNews State.attached State.notices
    rw [hb]
  unfold State.notices at hnb
  rw [hnews, hb] at hnb hsb
  have he : s.mergeFinal r.id = State.atAttached (fun t p _ => match t.pickNotice p r.id with
      | some _ => t
      | none => if t.delivery p r.id = .takenProvisional then t.appendNotice p (.pickFinal r.id) else t) u .b := by
    rw [hu]
    rfl
  rw [he]
  refine ⟨?_, fun q => ?_, fun q => ?_⟩
  · rw [hrb, hra]
  · cases q with
    | a => exact fun hq => hob.trans (hna hq)
    | b => exact hnb
  · cases q with
    | a => exact fun hq => hob.trans (hsa hq)
    | b => exact hsb

/-- R107, R114: a finalized record in the table. -/
theorem State.modPick_table_of_mem {s : State} (h : (s.table.records.map (·.id)).Nodup) {r : PickRecord}
    (hr : r ∈ s.table.records) (f : PickRecord → PickRecord) :
    (s.modPick r.id f).table = { s.table with records := s.table.records.map fun x => if x.id = r.id then f r else x } := by
  unfold State.modPick
  dsimp only
  congr 1
  refine List.map_congr_left fun x hx => ?_
  by_cases hid : x.id = r.id
  · rw [if_pos hid, if_pos hid, List.inj_on_of_nodup_map h hx hr hid]
  · rw [if_neg hid, if_neg hid]

theorem State.finalize_provisional {s : State} {sen : Sensor} {ch : Channel} {trigger : Nat} {info : EndInfo}
    {r : PickRecord} (hr : s.findEpisode sen ch trigger = some r) (hs : r.state = .provisional) :
    s.finalize sen ch trigger info
      = ((s.modPick r.id fun x => x.finish info).mergeFinal r.id).releaseTest r.id := by
  unfold State.finalize
  rw [hr]
  exact if_pos hs

/-- R123: a FINAL record that no group holds is released where no port is attached. -/
theorem State.releasable_of_detached {s : State} {r : PickRecord} (ha : ∀ p, s.attached p = false)
    (hs : r.state ≠ .provisional) (hg : r.grouping = .single)
    (hm : ∀ g ∈ s.grouper.groups, g.state ≠ .closed → ∀ m ∈ g.members, m.pick ≠ r.id) : s.releasable r = true := by
  have hlisted : s.listedLive r.id = false := by
    unfold State.listedLive
    refine List.any_eq_false.2 fun g hgm => ?_
    rw [Bool.and_eq_true, decide_eq_true_eq, List.any_eq_true]
    rintro ⟨hclosed, m, hmm, hid⟩
    exact hm g hgm hclosed m hmm (by simpa using hid)
  have hneeds (p : Port) : s.portNeeds p r = false := by
    unfold State.portNeeds
    rw [ha p]
    rfl
  simp [State.releasable, hs, hneeds, hg, Grouping.isPending, hlisted]

theorem State.findEpisode_mem {s : State} {sen : Sensor} {ch : Channel} {trigger : Nat} {r : PickRecord}
    (h : s.findEpisode sen ch trigger = some r) :
    r ∈ s.table.records ∧ r.sensor = sen ∧ r.channel = ch ∧ r.trigger = trigger := by
  have hp := List.find?_some h
  simp only [Bool.and_eq_true, decide_eq_true_eq, beq_iff_eq] at hp
  exact ⟨List.mem_of_find?_eq_some h, hp.1.1, hp.1.2, hp.2⟩

/-- R114, R154: in `v` the record `r` of `s` has been finalized with `info`, up to the release test. -/
structure Finalized (s v : State) (r : PickRecord) (info : EndInfo) : Prop where
  rest : v = { s with table := v.table, offers := v.offers, attention := v.attention }
  ids : (v.table.records.map (·.id)).Nodup
  mem : r.finish info ∈ v.table.records
  table : v.table = { s.table with records := s.table.records.map fun x => if x.id = r.id then r.finish info else x }
  told : ∀ q, s.finalNews r q → v.offers.get q = { s.offers.get q with notices := s.notices q ++ [.pickFinal r.id] }
  quiet : ∀ q, ¬ s.finalNews r q → v.offers.get q = s.offers.get q

section
variable {s v : State} {r : PickRecord} {info : EndInfo}

theorem State.finalize_finalizes {sen : Sensor} {ch : Channel} {trigger : Nat}
    (hr : s.findEpisode sen ch trigger = some r) (hs : r.state = .provisional)
    (hnd : (s.table.records.map (·.id)).Nodup) :
    ∃ v, Finalized s v r info ∧ s.finalize sen ch trigger info = v.releaseTest r.id := by
  obtain ⟨hmem, -⟩ := State.findEpisode_mem hr
  obtain ⟨u, hu⟩ : ∃ u, u = s.modPick r.id fun x => x.finish info := ⟨_, rfl⟩
  have huids : (u.table.records.map (·.id)).Nodup := by
    rw [hu]
    exact (State.modPick_picks (s := s) (id := r.id) (f := fun x => x.finish info) fun _ => rfl).ids.nodup hnd
  have humem : r.finish info ∈ u.table.records := by
    rw [hu]
    exact State.modPick_mem hmem _
  have hutable : u.table = { s.table with
      records := s.table.records.map fun x => if x.id = r.id then r.finish info else x } := by
    rw [hu]
    exact State.modPick_table_of_mem hnd hmem _
  have hurest : u = { s with table := u.table } := by
    rw [hu]
    rfl
  have hmerges := State.mergeFinal_merges huids humem
  obtain ⟨v, hv⟩ : ∃ v, v = u.mergeFinal r.id := ⟨_, rfl⟩
  dsimp only at hmerges
  rw [show u.mergeFinal (r.finish info).id = v from hv.symm] at hmerges
  obtain ⟨hrest, htold, hquiet⟩ := hmerges
  have hnews (q : Port) : u.finalNews (r.finish info) q ↔ s.finalNews r q := by
    rw [hurest]
    rfl
  have hvtable : v.table = u.table := by rw [hrest]
  have hvrest : v = { s with table := v.table, offers := v.offers, attention := v.attention } := by
    rw [hrest, hurest]
  refine ⟨v, ⟨hvrest, hvtable ▸ huids, hvtable ▸ humem, hvtable.trans hutable, fun q hq => ?_, fun q hq => ?_⟩, ?_⟩
  · refine (htold q ((hnews q).2 hq)).trans ?_
    rw [hurest]
    rfl
  · refine (hquiet q fun h => hq ((hnews q).1 h)).trans ?_
    rw [hurest]
  · rw [hv, hu]
    exact State.finalize_provisional hr hs

theorem Finalized.attached (h : Finalized s v r info) (q : Port) : v.attached q = s.attached q := by
  unfold State.attached
  by_cases hq : s.finalNews r q
  · rw [h.told q hq]
  · rw [h.quiet q hq]

/-- R123, condition 2: a finalized record that a list names stands. -/
theorem Finalized.stands (h : Finalized s v r info)
    (hq : ∃ q, s.finalNews r q ∨ s.attached q = true ∧ ∃ n ∈ s.notices q, n.namesPick r.id = true) :
    v.releaseTest r.id = v := by
  obtain ⟨q, hq⟩ := hq
  by_cases hn : s.finalNews r q
  · refine State.releaseTest_named (n := .pickFinal r.id) ((h.attached q).trans hn.1) ?_ (beq_self_eq_true _)
    unfold State.notices
    rw [h.told q hn]
    exact List.mem_append_right _ (List.mem_singleton.2 rfl)
  · obtain ⟨ha, n, hmn, hname⟩ := hq.resolve_left hn
    refine State.releaseTest_named ((h.attached q).trans ha) ?_ hname
    unfold State.notices
    rw [h.quiet q hn]
    exact hmn

/-- R123, R124: a finalized record that nothing holds is freed. -/
theorem Finalized.freed (h : Finalized s v r info) (ha : ∀ p, s.attached p = false) (hg : r.grouping = .single)
    (hm : ∀ g ∈ s.grouper.groups, g.state ≠ .closed → ∀ m ∈ g.members, m.pick ≠ r.id) :
    (v.releaseTest r.id).table = { s.table with records := s.table.records.filter fun x => x.id ≠ r.id } := by
  have hfind : v.findPick r.id = some (r.finish info) := State.findPick_of_mem h.ids h.mem
  have hgroups : v.grouper = s.grouper := by rw [h.rest]
  have hfree : v.releasable (r.finish info) = true :=
    State.releasable_of_detached (fun q => (h.attached q).trans (ha q)) (nomatch ·) hg (by rw [hgroups]; exact hm)
  rw [State.releaseTest_free hfind hfree]
  unfold ArrivalTable.free
  dsimp only
  rw [h.table]
  exact congrArg (ArrivalTable.mk · s.table.nextId) (filter_changed_others fun _ _ => rfl)

end

/-! ### The two clauses -/

/-- R116, R117, R143, R154: RETRACT of a live record. -/
theorem retract_live {dt : Nat} {p : Port} {id : BitVec 16} {s : State} (hh : Holds s p (.retract id)) {r : PickRecord}
    (hr : s.findPick id.toNat = some r) (hs : r.state ≠ .retracted) (hnd : (s.table.records.map (·.id)).Nodup) :
    ∃ u r', Retraction (s.elapse dt) u p r r' ∧ ∃ t, Runs (.retract dt p id) s t
      ∧ Answered s t p 0x07#8 .ok (PickRecord.snapshot { r with state := .retracted, retractedBy := some p })
      ∧ ∃ ports, t = { retractEnd (s.elapse dt) u r.id with ports := ports } := by
  have hfind : (s.elapse dt).findPick id.toNat = some r := hr
  obtain ⟨hmem, -⟩ := State.mem_of_findPick hr
  obtain ⟨r', h⟩ := State.retraction_merges (s := s.elapse dt) hnd hmem p
  have hrun := State.perform_given hh dt fun u => u.answerRetract p id.toNat
  rw [State.answerRetract_live p hfind hs] at hrun
  generalize (((s.elapse dt).modPick r.id (PickRecord.retract p)).groupRetract
    (r.retract p)).mergeRetraction r.id p = u at h hrun
  have hall : PicksOnly (s.elapse dt) (retractEnd (s.elapse dt) u r.id) :=
    h.picks.trans (retractEnd_tests _ u r.id).toPicksOnly
  exact ⟨u, r', h, _, congrArg Host.Outcome.next hrun,
    Answer.answered (a := { state := retractEnd (s.elapse dt) u r.id, result := _, data := _ }) _ (by rw [hall.rest]; rfl),
    _, rfl⟩

/-- Settles O34: `retract_live` with what `Retraction` says of the state it leaves, the two refusals, and finalization by
`finalize_finalizes`. -/
theorem retractWithdrawsRecord : Obligations.RetractWithdrawsRecord := by
  refine ⟨fun dt p id s hh => ⟨fun r hr hs hnd => ?_, fun r hr hs => ?_, fun hno => ?_⟩,
    fun s sen ch trigger info => ⟨fun hno => ?_, fun r hr hs hnd => ?_⟩⟩
  · obtain ⟨u, r', h, t, hrun, hanswered, ports, ht⟩ := retract_live (dt := dt) hh hr hs hnd
    obtain ⟨-, hid⟩ := State.mem_of_findPick hr
    have htests := retractEnd_tests (s.elapse dt) u r.id
    have hall : PicksOnly (s.elapse dt) (retractEnd (s.elapse dt) u r.id) := h.picks.trans htests.toPicksOnly
    rw [← hid]
    refine ⟨t, hrun, hanswered, ?_⟩
    rw [ht]
    refine ⟨fun x hx hxid => h.record hnd htests hx hxid, hall.nextPick, (congrArg State.chains hall.rest :),
      (congrArg State.ring hall.rest :), (congrArg State.intake hall.rest :), (congrArg State.detector hall.rest :),
      fun hidle => ⟨fun q hq => ?_, fun q hq hsole => ?_, h.stands hidle⟩⟩
    · exact (h.end_list hidle q).trans (by
        rw [if_neg (by rw [show (s.elapse dt).attached q = false from hq]; decide)]
        rfl)
    · have hnotices : (retractEnd (s.elapse dt) u r.id).notices q
          = retractedList r.id p q (r.delivery.get q) (s.notices q) :=
        (congrArg OfferRecord.notices (h.end_list hidle q)).trans (if_pos hq)
      have hmerges := retractedList_merges r.id p q (r.delivery.get q) (s.notices q) hsole
      rw [← hnotices] at hmerges
      exact hmerges
  · have howner : (s.elapse dt).answerRetract p id.toNat
        = { state := s.elapse dt, result := .already, data := r.snapshot } := by
      unfold State.answerRetract
      rw [show (s.elapse dt).findPick id.toNat = some r from hr]
      exact if_pos hs
    have hrun := State.perform_given hh dt fun u => u.answerRetract p id.toNat
    rw [howner] at hrun
    exact ⟨_, congrArg Host.Outcome.next hrun, rfl, rfl⟩
  · have howner : (s.elapse dt).answerRetract p id.toNat = (s.elapse dt).refuse .noSuchPick := by
      unfold State.answerRetract
      rw [show (s.elapse dt).findPick id.toNat = none from State.findPick_eq_none hno]
    have hrun := State.perform_given hh dt fun u => u.answerRetract p id.toNat
    rw [howner] at hrun
    exact ⟨_, congrArg Host.Outcome.next hrun, rfl, rfl⟩
  · unfold State.finalize
    split
    · rfl
    · next r hr =>
      obtain ⟨hmem, hsen, hch, htrigger⟩ := State.findEpisode_mem hr
      exact if_neg (hno r hmem hsen hch htrigger)
  · obtain ⟨v, h, ht⟩ := State.finalize_finalizes (info := info) hr hs hnd
    have hoff : (v.releaseTest r.id).offers = v.offers := State.releaseTest_offers _ _
    dsimp only
    rw [ht]
    refine ⟨?_, fun q hq => by rw [hoff]; exact h.told q hq, fun q hq => by rw [hoff]; exact h.quiet q hq,
      fun hq => by rw [h.stands hq]; exact h.table, fun ha hb hg hm => h.freed (fun q => ?_) hg hm⟩
    · rw [State.releaseTest_rest, h.rest]
    · cases q
      · exact ha
      · exact hb

end Sys2Proof.Machine


/-! PROOFS. A QUIET channel at its on-threshold, and the request that it posts (R62, R63, R71, R77, R78). -/

namespace Sys2Proof.Machine

/-! ### A request that stands last in its queue -/

/-- R77: the request as a channel posted it; while its data is awaited, it is PENDING_DATA. -/
structure RefineRequest.AsPosted (ch : Channel) (n localTime period : Nat) (awaits : Prop) (q : RefineRequest) : Prop where
  channel : q.channel = ch
  trigger : q.trigger = n
  triggerLocal : q.triggerLocal = localTime
  period : q.period = period
  info : q.info = none
  state : awaits → q.state = .pendingData

/-- A request with a property stands last in a queue. -/
def LastIs (K : RefineRequest → Prop) (l : List RefineRequest) : Prop := ∃ q, l.getLast? = some q ∧ K q

theorem LastIs.passOverHead {K : RefineRequest → Prop} (hK : ∀ q n, K q → K { q with passOver := n })
    {l : List RefineRequest} (h : LastIs K l) : LastIs K (passOverHead l) := by
  obtain ⟨q, hq, hKq⟩ := h
  match l with
  | [] => cases hq
  | [x] =>
    obtain rfl : x = q := Option.some.inj hq
    exact ⟨_, rfl, hK x _ hKq⟩
  | x :: y :: rest => exact ⟨q, hq, hKq⟩

/-- The head is not the request that stands last, or the change is one that it takes. -/
theorem LastIs.modHead {K : RefineRequest → Prop} {f : RefineRequest → RefineRequest} {x : RefineRequest}
    {rest : List RefineRequest} (hf : K x → K (f x)) (h : LastIs K (x :: rest)) : LastIs K (modHead f (x :: rest)) := by
  obtain ⟨q, hq, hKq⟩ := h
  cases rest with
  | nil =>
    obtain rfl : x = q := Option.some.inj hq
    exact ⟨_, rfl, hf hKq⟩
  | cons y rest => exact ⟨q, hq, hKq⟩

theorem LastIs.tail {K : RefineRequest → Prop} {x : RefineRequest} {rest : List RefineRequest} (hx : ¬ K x)
    (h : LastIs K (x :: rest)) : LastIs K rest := by
  obtain ⟨q, hq, hKq⟩ := h
  cases rest with
  | nil =>
    obtain rfl : x = q := Option.some.inj hq
    exact absurd hKq hx
  | cons y rest => exact ⟨q, hq, hKq⟩

theorem State.queue_of_readyHead {s : State} {sen : Sensor} {q : RefineRequest} (h : s.readyHead sen = some q) :
    q.state = .ready ∧ ∃ rest, s.refiner.queues.get sen = q :: rest := by
  unfold State.readyHead at h
  split at h
  · next x rest hl =>
    split at h
    · next hx =>
      obtain rfl : x = q := Option.some.inj h
      exact ⟨hx, rest, hl⟩
    · cases h
  · cases h

/-! ### Grant decisions and the last request -/

/-- The last request of a sensor's queue is the posted one, and the ring holds its trigger sample. -/
structure State.Posted (s : State) (sen : Sensor) (ch : Channel) (n localTime period : Nat) (awaits : Prop) : Prop where
  last : LastIs (RefineRequest.AsPosted ch n localTime period awaits) (s.refiner.queues.get sen)
  holds : (s.ring.get sen).below n = false

theorem RefineRequest.AsPosted.passOver {ch : Channel} {n localTime period : Nat} {awaits : Prop} {q : RefineRequest}
    (h : q.AsPosted ch n localTime period awaits) (k : Nat) :
    RefineRequest.AsPosted ch n localTime period awaits { q with passOver := k } :=
  ⟨h.channel, h.trigger, h.triggerLocal, h.period, h.info, h.state⟩

section
variable {s : State} {sen : Sensor} {ch : Channel} {n localTime period : Nat} {awaits : Prop}

theorem State.Posted.congr {t : State} (h : s.Posted sen ch n localTime period awaits)
    (hq : t.refiner.queues.get sen = s.refiner.queues.get sen) (hr : t.ring = s.ring) :
    t.Posted sen ch n localTime period awaits :=
  ⟨by rw [hq]; exact h.last, by rw [hr]; exact h.holds⟩

theorem State.Posted.passOthers (h : s.Posted sen ch n localTime period awaits) (i : Sensor) :
    (s.passOthers i).Posted sen ch n localTime period awaits := by
  refine ⟨?_, h.holds⟩
  unfold State.passOthers
  rw [PerSensor.get_map]
  split
  · exact h.last.passOverHead fun _ k hq => hq.passOver k
  · exact h.last

/-- R90, step 1: a request whose trigger sample has gone is not the posted one. -/
theorem State.Posted.discardHead (h : s.Posted sen ch n localTime period awaits) {i : Sensor} {q : RefineRequest}
    {rest : List RefineRequest} (hq : s.refiner.queues.get i = q :: rest) (hgone : (s.ring.get i).below q.trigger = true) :
    (s.discardHead i).Posted sen ch n localTime period awaits := by
  have hrefiner : (s.discardHead i).refiner.queues = s.refiner.queues.set i (s.refiner.queues.get i).tail := by
    unfold State.discardHead State.discardBy
    rw [(State.testGroups_reports _).refiner]
    rfl
  have hring : (s.discardHead i).ring = s.ring := by rw [(State.discardHead_grants s i).rest]
  refine ⟨?_, by rw [hring]; exact h.holds⟩
  rw [hrefiner]
  by_cases hi : sen = i
  · subst hi
    rw [PerSensor.get_set, hq]
    refine LastIs.tail (fun hp => ?_) (hq ▸ h.last)
    rw [hp.trigger, h.holds] at hgone
    cases hgone
  · rw [PerSensor.get_set_ne _ _ hi]
    exact h.last

/-- R90: a request that awaits data is not granted. -/
theorem State.Posted.beginWork (h : s.Posted sen ch n localTime period awaits) {i : Sensor} {q : RefineRequest}
    {x : RefineRequest} {rest : List RefineRequest} (hx : s.refiner.queues.get i = x :: rest) (hready : x.state = .ready) :
    (s.beginWork i q).Posted sen ch n localTime period awaits := by
  refine ⟨?_, h.holds⟩
  unfold State.beginWork State.modQueue
  dsimp only
  by_cases hi : sen = i
  · subst hi
    rw [PerSensor.get_set, hx]
    refine LastIs.modHead (fun hp => ?_) (hx ▸ h.last)
    refine ⟨hp.channel, hp.trigger, hp.triggerLocal, hp.period, hp.info, fun ha => ?_⟩
    rw [hp.state ha] at hready
    cases hready
  · rw [PerSensor.get_set_ne _ _ hi]
    exact h.last

/-- R86: the head that is passed over is the head of before. -/
theorem State.passOthers_chosen (s : State) (i : Sensor) :
    (s.passOthers i).refiner.queues.get i = s.refiner.queues.get i := by
  unfold State.passOthers
  rw [PerSensor.get_map]
  exact if_neg fun h => h.1 rfl

theorem State.Posted.grantDecision (fuel : Nat) {s : State} (h : s.Posted sen ch n localTime period awaits) :
    (s.grantDecision fuel).Posted sen ch n localTime period awaits := by
  induction fuel generalizing s with
  | zero => exact h
  | succ fuel ih =>
    unfold State.grantDecision
    split
    · exact h.congr rfl rfl
    · split
      · refine h.congr (by rw [State.stall_queues]) ?_
        rw [(State.stall_grants s).rest]
      · split
        · exact h
        · next i _ _ _ q hq =>
          obtain ⟨hready, rest, hqueue⟩ := State.queue_of_readyHead hq
          have hpass : State.Posted { s.passOthers i with
              refiner := { (s.passOthers i).refiner with lastGranted := i } } sen ch n localTime period awaits :=
            (h.passOthers i).congr rfl rfl
          have hhead := (s.passOthers_chosen i).trans hqueue
          dsimp only
          split
          · next hgone => exact ih (hpass.discardHead hhead hgone)
          · exact hpass.beginWork hhead hready

theorem State.Posted.settle (h : s.Posted sen ch n localTime period awaits) (before : State) :
    (State.settle before s).Posted sen ch n localTime period awaits := by
  unfold State.settle
  split
  · exact h
  · split
    · exact h.grantDecision _
    · split
      · exact h.congr rfl rfl
      · exact h

end

/-! ### Posting (R77) -/

theorem State.testPosted_asPosted (s : State) (sen : Sensor) (ch : Channel) (n localTime : Nat) {awaits : Prop}
    (h : awaits → s.refiner.gapCut.get sen = none ∧ ∀ m, (s.ring.get sen).newest = some m →
      m < n + (s.activeRefinement sen).post + (s.activeRefinement sen).pol) :
    (s.testPosted sen (s.newRequest sen ch n localTime)).AsPosted ch n localTime (s.rate sen).period awaits := by
  have hready : (s.readyIf sen (s.newRequest sen ch n localTime)).AsPosted ch n localTime (s.rate sen).period awaits := by
    unfold State.readyIf
    split
    · next hr =>
      refine ⟨rfl, rfl, rfl, rfl, rfl, fun ha => ?_⟩
      obtain ⟨-, hnewest⟩ := h ha
      have hdata := hr.2
      unfold State.dataReady at hdata
      split at hdata
      · cases hdata
      · next m hm => exact absurd (of_decide_eq_true hdata) (Nat.not_le.2 (hnewest m hm))
    · exact ⟨rfl, rfl, rfl, rfl, rfl, fun _ => rfl⟩
  unfold State.testPosted
  split
  · exact hready
  · next cut hcut =>
    split
    · refine ⟨rfl, rfl, rfl, rfl, rfl, fun ha => ?_⟩
      obtain ⟨hno, -⟩ := h ha
      rw [hcut] at hno
      cases hno
    · exact hready

/-- R63, R77: the queue takes the request. -/
theorem State.postRequest_takes {s : State} {sen : Sensor} {ch : Channel} {n localTime : Nat} {awaits : Prop}
    (hlen : (s.refiner.queues.get sen).length < Config.queueCapacity) (hold : (s.ring.get sen).below n = false)
    (h : awaits → s.refiner.gapCut.get sen = none ∧ ∀ m, (s.ring.get sen).newest = some m →
      m < n + (s.activeRefinement sen).post + (s.activeRefinement sen).pol) :
    (s.postRequest sen ch n localTime).1.Posted sen ch n localTime (s.rate sen).period awaits := by
  unfold State.postRequest
  rw [if_pos hlen]
  refine State.Posted.settle (s := s.modQueue sen fun l => l ++ [_]) ⟨?_, hold⟩ s
  rw [State.modQueue_refiner]
  dsimp only
  rw [PerSensor.get_set]
  exact ⟨_, List.getLast?_append_of_ne_nil _ (List.cons_ne_nil _ _), State.testPosted_asPosted s sen ch n localTime h⟩

theorem State.postRequest_posted (s : State) (sen : Sensor) (ch : Channel) (n localTime : Nat) :
    (s.postRequest sen ch n localTime).2 = decide ((s.refiner.queues.get sen).length < 4) := by
  unfold State.postRequest
  split
  · next h => exact (decide_eq_true h).symm
  · next h => exact (decide_eq_false h).symm

theorem State.postRequest_refused {s : State} {sen : Sensor} {ch : Channel} {n localTime : Nat}
    (h : ¬ (s.refiner.queues.get sen).length < Config.queueCapacity) :
    (s.postRequest sen ch n localTime).1 = s.raiseBoth .pickLost := by
  unfold State.postRequest
  rw [if_neg h]

/-! ### The trigger (R62, R63) -/

theorem State.evaluate_quiet {s : State} {sen : Sensor} {ch : Channel} (h : (s.channel sen ch).state = .quiet)
    (suspended : Bool) (n localTime : Nat) : s.evaluate sen ch suspended n localTime
      = if (s.channelSettings sen ch).onThreshold ≤ (s.channel sen ch).ratio ∧ suspended = false
        then s.trigger sen ch n localTime else s := by
  unfold State.evaluate
  dsimp only
  rw [h]

theorem State.modChannel_channel (s : State) (sen : Sensor) (ch : Channel) (f : ChannelRecord → ChannelRecord) :
    (s.modChannel sen ch f).channel sen ch = f (s.channel sen ch) := by
  unfold State.channel State.modChannel State.modDetector
  dsimp only
  rw [PerSensor.get_set]
  cases ch <;> rfl

/-- Settles O17: the request is posted, and what grant decisions follow leave it last. -/
theorem quietChannelTriggersAtThreshold : Obligations.QuietChannelTriggersAtThreshold := by
  intro s sen ch n localTime hquiet c on t posted
  have heval := State.evaluate_quiet hquiet
  refine ⟨fun hon => ?_, fun hlow => (heval false n localTime).trans (if_neg fun h => Nat.not_le.2 hlow h.1),
    (heval true n localTime).trans (if_neg fun h => nomatch h.2)⟩
  obtain ⟨u, hu⟩ : ∃ u, u = (s.postRequest sen ch n localTime).1 := ⟨_, rfl⟩
  have hposted : (s.postRequest sen ch n localTime).2 = posted := State.postRequest_posted ..
  have ht : t = u.modChannel sen ch fun x => { x with
      state := .triggered
      count := 0
      lostTriggers := if posted then x.lostTriggers else bump x.lostTriggers
      episode := some { trigger := n, triggerLocal := localTime, peak := x.ratio, posted := posted, last := n } } := by
    refine ((heval false n localTime).trans (if_pos ⟨hon, rfl⟩)).trans ?_
    unfold State.trigger
    dsimp only
    rw [hposted, hu]
  have hgrants : GrantsOnly s u := hu ▸ State.postRequest_grants s sen ch n localTime
  have hdet : u.detector = s.detector := by rw [hgrants.rest]
  have hchannel : u.channel sen ch = c := by
    unfold State.channel
    rw [hdet]
    rfl
  refine ⟨?_, fun hno => ?_, fun hyes hold => ?_, fun other hne => ?_, ?_, ?_, ?_⟩
  · rw [ht, State.modChannel_channel, hchannel]
    rfl
  · have hrefused := State.postRequest_refused (n := n) (ch := ch) (localTime := localTime) (of_decide_eq_false hno)
    rw [← hu] at hrefused
    rw [ht, hrefused]
    exact ⟨State.raiseBoth_pends _ _, rfl⟩
  · obtain ⟨q, hq, hK⟩ := (State.postRequest_takes (n := n) (ch := ch) (localTime := localTime)
      (of_decide_eq_true hyes) hold (awaits := s.refiner.gapCut.get sen = none ∧ ∀ m, (s.ring.get sen).newest = some m →
        m < n + (s.activeRefinement sen).post + (s.activeRefinement sen).pol) id).last
    refine ⟨q, ?_, hK.channel, hK.trigger, hK.triggerLocal, hK.period, hK.info, fun hgap hdata => hK.state ⟨hgap, hdata⟩⟩
    rw [ht, hu]
    exact hq
  · have hother : other ≠ sen := fun h => hne (by rw [h])
    rw [ht]
    exact (PerSensor.get_set_ne _ _ hother).trans (by rw [hdet])
  · rw [ht]
    exact (by rw [hgrants.rest] : u.ring = s.ring)
  · rw [ht]
    exact (by rw [hgrants.rest] : u.intake = s.intake)
  · rw [ht]
    exact (by rw [hgrants.rest] : u.chains = s.chains)

end Sys2Proof.Machine


/-! PROOFS. The blocks that the Ring Read Arbiter grants (R91, R172, R173, R183). -/

namespace Sys2Proof.Machine

/-- R183: a grant of a FREE path. -/
theorem State.grant_free {s : State} {r : Reader} (hfree : s.arbiter.path = .free) (hr : s.grantee = some r) :
    s.grant = { s with arbiter := s.arbiter.record r }.readBlock r := by
  unfold State.grant
  rw [hfree, hr]

theorem State.requests_of_grantee {s : State} {r : Reader} (h : s.grantee = some r) : s.requests r = true :=
  List.find?_some h

/-! ### The refiner's block (R91) -/

/-- The set that a ring answers with. -/
def RingRecord.answered (r : RingRecord) (n : Nat) : Option SampleSet :=
  match r.answer n with
  | .found x => some x
  | _ => none

theorem RingRecord.answered_found {r : RingRecord} {n : Nat} {x : SampleSet} (h : r.answer n = .found x) :
    r.answered n = some x := by
  unfold RingRecord.answered
  rw [h]

theorem Work.readOne_found {r : RingRecord} {n : Nat} {x : SampleSet} (h : r.answer n = .found x) (trigger : Nat)
    (w : Work) (b : Bool) :
    Work.readOne r trigger n (w, b) = some ({ w with next := n + 1, read := w.read ++ [(n, r.answered n)] }, b) := by
  unfold Work.readOne
  rw [h, RingRecord.answered_found h]

/-- R91: a block of sets that stand in the ring is read whole. -/
theorem Work.readBlock_found (r : RingRecord) (trigger : Nat) (k : Nat) (w : Work) (b : Bool)
    (h : ∀ i, i < k → ∃ x, r.answer (w.next + i) = .found x) :
    Work.readBlock r trigger (List.range' w.next k) (w, b) = some ({ w with
      next := w.next + k
      read := w.read ++ (List.range' w.next k).map fun n => (n, r.answered n) }, b) := by
  induction k generalizing w with
  | zero => simp [Work.readBlock]
  | succ k ih =>
    obtain ⟨x, hx⟩ := h 0 (Nat.succ_pos k)
    rw [List.range'_succ, Work.readBlock, Work.readOne_found (n := w.next) hx]
    dsimp only
    have hrest := ih { w with next := w.next + 1, read := w.read ++ [(w.next, r.answered w.next)] } fun i hi => by
      obtain ⟨y, hy⟩ := h (i + 1) (Nat.succ_lt_succ hi)
      exact ⟨y, by rw [← hy]; congr 1; dsimp only; omega⟩
    dsimp only at hrest
    rw [hrest, List.map_cons, List.append_assoc, Nat.add_assoc, Nat.add_comm 1 k]
    rfl

theorem Work.nextBlock_eq (w : Work) : w.nextBlock = List.range' w.next (min 128 (w.readEnd + 1 - w.next)) := by
  unfold Work.nextBlock
  rw [List.range_eq_range', List.map_add_range']
  rfl

/-- A block without truncation leaves the request as it stands. -/
theorem State.refinerBlock_read {s : State} {w w' : Work} {q : RefineRequest} {rest : List RefineRequest}
    (hw : s.refiner.work = some w) (hq : s.refiner.queues.get w.sensor = q :: rest)
    (h : Work.readBlock (s.ring.get w.sensor) q.trigger w.nextBlock (w, false) = some (w', false)) :
    s.refinerBlock = { s with refiner := { s.refiner with work := some w' } } := by
  have hqueues : s.refiner.queues.set w.sensor (modHead (fun x =>
      { x with flags := { x.flags with truncated := x.flags.truncated || false } }) (s.refiner.queues.get w.sensor))
      = s.refiner.queues := by
    rw [hq, modHead, Bool.or_false, ← hq]
    exact PerSensor.set_get _ _
  unfold State.refinerBlock State.modQueue
  simp only [hw, hq, h]
  rw [hq] at hqueues
  rw [hqueues]

/-- Settles O23: the block is read upward, and each sample number adds its set. -/
theorem grantReadsRefinerBlock : Obligations.GrantReadsRefinerBlock := by
  intro dt s w q rest hfree hgrantee hw hq size hfound
  have hread := Work.readBlock_found (s.ring.get w.sensor) q.trigger size w false hfound
  rw [← Work.nextBlock_eq] at hread
  obtain ⟨u, hu⟩ : ∃ u, u = { s.elapse dt with arbiter := s.arbiter.record .refiner } := ⟨_, rfl⟩
  have hblock := State.refinerBlock_read (s := u) (by rw [hu]; exact hw) (by rw [hu]; exact hq) (by rw [hu]; exact hread)
  have hgrant : (s.elapse dt).grant = u.refinerBlock := by
    rw [State.grant_free (s := s.elapse dt) hfree hgrantee, hu]
    rfl
  rw [hblock, hu] at hgrant
  refine ⟨_, _, congrArg Host.Outcome.next hgrant, rfl, rfl, ?_, fun i hi => ?_, rfl, rfl, rfl⟩
  · rw [List.length_append, List.length_map, Work.nextBlock_eq, List.length_range']
  · obtain ⟨x, hx⟩ := hfound i hi
    refine ⟨x, hx, ?_⟩
    rw [List.getElem?_append_right (Nat.le_add_right _ _), Nat.add_sub_cancel_left, Work.nextBlock_eq,
      List.getElem?_map, List.getElem?_range' hi, Option.map_some, Nat.one_mul, RingRecord.answered_found hx]

/-! ### A chain's block (R172, R173) -/

/-- R172: what a chain that requests a block is at. -/
theorem State.chainRequests_at {s : State} {p : Port} {plan : ElementPlan} {run : ElementRun} {newest : Nat}
    (h : s.chainRequests p = true) (hp : (s.chain p).plan = some plan) (hr : (s.chain p).run = some run)
    (hn : (s.ring.get plan.sensor).newest = some newest) :
    run.progress < plan.length ∧ (s.chain p).buffer.length < 512 ∧ run.next ≤ newest := by
  unfold State.chainRequests at h
  rw [hp, hr] at h
  split at h
  · next hplan hrun =>
    obtain rfl := Option.some.inj hplan
    obtain rfl := Option.some.inj hrun
    simp only [Bool.and_eq_true, decide_eq_true_eq, Bool.not_eq_true'] at h
    obtain ⟨⟨hprogress, hroom⟩, hwritten⟩ := h
    refine ⟨hprogress, hroom, Nat.not_lt.1 fun hlt => ?_⟩
    rw [(RingRecord.beyond_iff hn).2 hlt] at hwritten
    cases hwritten
  · cases h

/-- R172: a block of a chain that requests one holds a set. -/
theorem blockSize_pos {ps : PageSize} {r : RingRecord} {left room u newest : Nat} (hn : r.newest = some newest)
    (hleft : 0 < left) (hroom : 0 < room) (hu : u ≤ newest) : 1 ≤ blockSize ps r left room u := by
  have hpage := Nat.mod_lt u (PageSize.sets_pos ps)
  unfold blockSize
  rw [hn, Option.getD_some, Config.blockMax]
  omega

theorem State.takeBlock_buffer (s : State) (p : Port) (plan : ElementPlan) (run : ElementRun) :
    ∃ entry, ((s.takeBlock p plan run).chain p).buffer = (s.chain p).buffer
      ++ (List.range (blockSize s.pageSize.active (s.ring.get plan.sensor) (plan.length - run.progress)
          (512 - (s.chain p).buffer.length) run.next)).map fun i =>
        bufferedSet (s.ring.get plan.sensor) ((s.chain p).current.getD 0) plan run entry (run.next + i) := by
  have h := (State.readEntry_mapReads s plan.sensor (run.next / s.pageSize.active.sets)).keeps p
  refine ⟨(s.readEntry plan.sensor (run.next / s.pageSize.active.sets)).2, ?_⟩
  unfold State.takeBlock
  dsimp only
  rw [(State.evaluateLevel_keeps _ p).buffer, State.chain_modChain]
  dsimp only
  rw [h.buffer]
  rfl

theorem State.afterBlock_keeps (s : State) (p : Port) : ChainKeeps p s (s.afterBlock p) := by
  unfold State.afterBlock
  split
  · split
    · exact State.finishElement_keeps _ _ _
    · exact State.waitIfBeyond_keeps _ _
  · exact .refl p s

/-- Settles O22: the block goes behind what the buffer holds, and what follows it leaves the buffer. -/
theorem grantReadsChainBlock : Obligations.GrantReadsChainBlock := by
  intro dt s p plan run newest hfree hgrantee hp hr hn sets size
  obtain ⟨u, hu⟩ : ∃ u, u = { s.elapse dt with arbiter := s.arbiter.record (.chain p) } := ⟨_, rfl⟩
  obtain ⟨v, hv⟩ : ∃ v, v = u.takeBlock p plan run := ⟨_, rfl⟩
  have hblock : u.chainBlock p = v.afterBlock p := by
    unfold State.chainBlock
    rw [show (u.chain p).plan = some plan by rw [hu]; exact hp, show (u.chain p).run = some run by rw [hu]; exact hr, hv]
  have hgrant : (s.elapse dt).grant = v.afterBlock p := by
    rw [State.grant_free (s := s.elapse dt) hfree hgrantee, ← hblock, hu]
    rfl
  have honly : ChainOnly p u (v.afterBlock p) := hblock ▸ State.chainBlock_only u p
  obtain ⟨hprogress, hroom, hnext⟩ := State.chainRequests_at (State.requests_of_grantee hgrantee) hp hr hn
  obtain ⟨entry, htake⟩ := u.takeBlock_buffer p plan run
  have hsize : blockSize u.pageSize.active (u.ring.get plan.sensor) (plan.length - run.progress)
      (512 - (u.chain p).buffer.length) run.next = size := by
    rw [hu]
    unfold blockSize
    rw [show ((s.elapse dt).ring.get plan.sensor).newest = some newest from hn]
    rfl
  have hbuffer : ((v.afterBlock p).chain p).buffer = (s.chain p).buffer ++ (List.range size).map fun i =>
      bufferedSet (s.ring.get plan.sensor) ((s.chain p).current.getD 0) plan run entry (run.next + i) := by
    rw [(State.afterBlock_keeps v p).buffer, hv, htake, hsize, hu]
    rfl
  refine ⟨_, congrArg Host.Outcome.next hgrant, ?_, ?_, ?_, ?_, ?_, fun i hi => ?_, ?_, ?_, fun sen => ?_⟩
  · rw [honly.rest, hu]
  · rw [honly.rest, hu]
    rfl
  · rw [← hsize, hu]
    exact blockSize_pos (r := s.ring.get plan.sensor) hn (Nat.sub_pos_of_lt hprogress) (Nat.sub_pos_of_lt hroom) hnext
  · rw [hbuffer, List.length_append, List.length_map, List.length_range]
  · rw [hbuffer, List.take_left]
  · refine ⟨bufferedSet (s.ring.get plan.sensor) ((s.chain p).current.getD 0) plan run entry (run.next + i), ?_, rfl,
      rfl, rfl, rfl⟩
    rw [hbuffer, List.getElem?_append_right (Nat.le_add_right _ _), Nat.add_sub_cancel_left, List.getElem?_map,
      List.getElem?_range hi]
    rfl
  · rw [honly.other, hu]
    rfl
  · have hattention := honly.otherAttention
    rw [hu] at hattention
    exact hattention
  · have hring := honly.ring sen
    rw [hu] at hring
    exact ⟨hring.slots, hring.newest⟩

end Sys2Proof.Machine


/-! PROOFS. PICK_WRITE (R102, R109, R111): the record that is created, and that a PROVISIONAL one stands. -/

namespace Sys2Proof.Machine

/-! ### PROVISIONAL records stand (R123) -/

/-- A record holds an id, and every record that does is PROVISIONAL. -/
def State.Provisional (s : State) (id : Nat) : Prop :=
  (∃ r ∈ s.table.records, r.id = id) ∧ ∀ r ∈ s.table.records, r.id = id → r.state = .provisional

/-- An id that PROVISIONAL records hold is held by PROVISIONAL records still. -/
def Stands (s t : State) : Prop := ∀ id, s.Provisional id → t.Provisional id

theorem Stands.refl (s : State) : Stands s s := fun _ h => h

theorem Stands.trans {s t u : State} (h : Stands s t) (k : Stands t u) : Stands s u := fun id hs => k id (h id hs)

theorem Stands.foldl {α : Type} {f : State → α → State} (h : ∀ s x, Stands s (f s x)) (l : List α) (s : State) :
    Stands s (l.foldl f s) := by
  induction l generalizing s with
  | nil => exact .refl s
  | cons x rest ih => exact (h s x).trans (ih _)

theorem Stands.of_records {s t : State} (h : t.table.records = s.table.records) : Stands s t := fun id hs => by
  unfold State.Provisional
  rw [h]
  exact hs

theorem State.modPick_stands (s : State) (id : Nat) {f : PickRecord → PickRecord}
    (hf : ∀ r, (f r).id = r.id ∧ (f r).state = r.state) : Stands s (s.modPick id f) := by
  have same (r : PickRecord) : (if r.id = id then f r else r).id = r.id ∧ (if r.id = id then f r else r).state = r.state := by
    split
    · exact hf r
    · exact ⟨rfl, rfl⟩
  rintro i ⟨⟨r, hr, hid⟩, hall⟩
  refine ⟨⟨_, List.mem_map_of_mem hr, (same r).1.trans hid⟩, fun x hx hxid => ?_⟩
  obtain ⟨y, hy, rfl⟩ := List.mem_map.1 (show x ∈ s.table.records.map _ from hx)
  exact (same y).2.trans (hall y hy ((same y).1.symm.trans hxid))

/-- R123, condition 1: a PROVISIONAL record is not released. -/
theorem State.releaseTest_stands (s : State) (id : Nat) : Stands s (s.releaseTest id) := by
  unfold State.releaseTest
  split
  · exact .refl s
  · next r hr =>
    obtain ⟨hmem, rfl⟩ := State.mem_of_findPick hr
    split
    · next hfree =>
      rintro i ⟨⟨x, hx, hxid⟩, hall⟩
      have hne : i ≠ r.id := by
        rintro rfl
        unfold State.releasable at hfree
        rw [hall r hmem rfl] at hfree
        cases hfree
      exact ⟨⟨x, List.mem_filter.2 ⟨hx, by rw [hxid]; exact bne_iff_ne.2 hne⟩, hxid⟩,
        fun y hy => hall y (List.mem_filter.1 hy).1⟩
    · exact .refl s

theorem State.releaseTests_stands (s : State) (ids : List Nat) : Stands s (s.releaseTests ids) :=
  .foldl State.releaseTest_stands ids s

theorem State.setGrouping_stands (s : State) (id : Nat) (g : Grouping) : Stands s (s.setGrouping id g) :=
  s.modPick_stands id fun _ => ⟨rfl, rfl⟩

theorem State.offerPick_stands (s : State) (p : Port) (id : Nat) : Stands s (s.offerPick p id) :=
  (Stands.of_records (t := s.appendNotice p (.pickNew id)) rfl).trans (State.modPick_stands _ id fun _ => ⟨rfl, rfl⟩)

theorem State.eachAttached_stands {s : State} {f : State → Port → OfferMode → State}
    (hf : ∀ t p m, Stands t (f t p m)) : Stands s (s.eachAttached f) := by
  have one (t : State) (p : Port) : Stands t (State.atAttached f t p) := by
    unfold State.atAttached
    split
    · exact .refl t
    · exact hf t p _
  exact (one s .a).trans (one _ .b)

theorem State.offerNew_stands (s : State) (id : Nat) : Stands s (s.offerNew id) := by
  unfold State.offerNew
  split
  · exact .refl s
  · refine State.eachAttached_stands fun t p m => ?_
    split
    · exact t.offerPick_stands p id
    · exact .refl t

theorem State.offerDeclaration_stands (s : State) (members : List Nat) (group : Nat) :
    Stands s (s.offerDeclaration members group) :=
  State.eachAttached_stands fun t p _ =>
    (Stands.foldl (f := fun u id => u.offerPick p id) (fun u id => u.offerPick_stands p id) members t).trans
      (.of_records rfl)

theorem State.offerExpired_stands (s : State) (id : Nat) : Stands s (s.offerExpired id) :=
  State.eachAttached_stands fun t p m => by
    split
    · exact t.offerPick_stands p id
    · exact .refl t

theorem State.mergeClosing_stands (s : State) (group : Nat) : Stands s (s.mergeClosing group) :=
  State.eachAttached_stands fun t p m => by
    split
    · exact .of_records rfl
    · exact .of_records rfl

/-! ### Groups and records that are handed on -/

theorem State.groupFreeTest_stands (s : State) (id : Nat) : Stands s (s.groupFreeTest id) :=
  .of_records (by rw [s.groupFreeTest_table])

theorem State.countExpired_stands (s : State) :
    Stands s { s with grouper := { s.grouper with expired := bump s.grouper.expired } } := .of_records rfl

theorem State.expireGroup_stands (s : State) (g : GroupRecord) (handling : Option Nat) :
    Stands s (s.expireGroup g handling) :=
  (((Stands.foldl (fun t id => t.setGrouping_stands id .single) (g.members.map (·.pick)) s).trans
    (.foldl State.offerExpired_stands (g.others handling) _)).trans
    ((Stands.of_records (t := State.freeGroup _ g.id) rfl).trans (State.countExpired_stands _))).trans
    (State.releaseTests_stands _ _)

theorem State.closeGroup_stands (s : State) (g : GroupRecord) (handling : Option Nat) :
    Stands s (s.closeGroup g handling) :=
  (((Stands.of_records (t := s.modGroup g.id fun x => { x with state := .closed }) rfl).trans
    (State.mergeClosing_stands _ _)).trans (State.releaseTests_stands _ _)).trans (State.groupFreeTest_stands _ _)

theorem State.testGroup_stands (s : State) (handling : Option Nat) (id : Nat) : Stands s (s.testGroup handling id) := by
  unfold State.testGroup
  split
  · exact .refl s
  · split <;> try split
    · exact s.expireGroup_stands _ _
    · exact .refl s
    · exact s.closeGroup_stands _ _
    · exact .refl s
    · exact .refl s

theorem State.testGroups_stands (s : State) : Stands s s.testGroups :=
  .foldl (fun t id => t.testGroup_stands none id) _ s

theorem State.declareGroup_stands (s : State) (g : GroupRecord) (handling : Nat) :
    Stands s (s.declareGroup g handling) :=
  ((((Stands.of_records (t := s.modGroup g.id _) rfl).trans
    (.foldl (fun t id => t.setGrouping_stands id (.grouped g.id)) _ _)).trans (State.offerDeclaration_stands _ _ _)).trans
    (State.releaseTests_stands _ _)).trans (State.testGroup_stands _ _ _)

theorem State.afterJoin_stands (s : State) (pick groupId : Nat) : Stands s (s.afterJoin pick groupId).1 := by
  have hdeclare : Stands s (s.declareIfReached groupId pick).1 := by
    unfold State.declareIfReached
    split
    · exact .refl s
    · split
      · exact s.declareGroup_stands _ _
      · exact .refl s
  exact hdeclare.trans (State.testGroup_stands _ _ _)

theorem State.joinGroup_stands (s : State) (r : PickRecord) (g : GroupRecord) (ph : MemberPhase) :
    Stands s (s.joinGroup r g ph) :=
  (Stands.of_records (t := s.modGroup g.id _) rfl).trans (State.setGrouping_stands _ _ _)

theorem State.openGroup_stands (s : State) (r : PickRecord) (t : Nat) : Stands s (s.openGroup r t) := by
  unfold State.openGroup
  split
  · exact Stands.trans (.of_records rfl) (State.setGrouping_stands _ _ _)
  · exact Stands.trans (.of_records rfl) (State.modPick_stands _ _ fun _ => ⟨rfl, rfl⟩)

theorem State.groupPick_stands (s : State) (id : Nat) : Stands s (s.groupPick id).1 := by
  unfold State.groupPick
  split
  · exact .refl s
  · split
    · exact s.setGrouping_stands _ _
    · split
      · exact s.setGrouping_stands _ _
      · split
        · exact s.setGrouping_stands _ _
        · unfold State.placeP
          split
          · exact (s.joinGroup_stands _ _ _).trans (State.afterJoin_stands _ _ _)
          · split
            · exact (s.openGroup_stands _ _).trans (State.afterJoin_stands _ _ _)
            · exact s.openGroup_stands _ _
        · unfold State.placeS
          split
          · exact (s.joinGroup_stands _ _ _).trans (State.testGroup_stands _ _ _)
          · exact s.setGrouping_stands _ _

theorem State.handOnRecord_stands (s : State) (id : Nat) : Stands s (s.handOnRecord id) := by
  unfold State.handOnRecord
  dsimp only
  split
  · exact (s.groupPick_stands id).trans (State.releaseTest_stands _ _)
  · exact ((s.groupPick_stands id).trans (State.offerNew_stands _ _)).trans (State.releaseTest_stands _ _)

theorem State.discardHead_stands (s : State) (sen : Sensor) : Stands s (s.discardHead sen) :=
  (Stands.of_records (t := (s.modQueue sen List.tail).loseRequest sen) rfl).trans (State.testGroups_stands _)

theorem State.passOthers_stands (s : State) (sen : Sensor) : Stands s { s.passOthers sen with
    refiner := { (s.passOthers sen).refiner with lastGranted := sen } } := .of_records rfl

theorem State.grantDecision_stands (fuel : Nat) (s : State) : Stands s (s.grantDecision fuel) := by
  induction fuel generalizing s with
  | zero => exact .refl s
  | succ fuel ih =>
    unfold State.grantDecision
    split
    · exact .of_records rfl
    · split
      · exact .of_records (by rw [State.stall_table])
      · split
        · exact .refl s
        · next i _ _ _ q _ =>
          dsimp only
          split
          · exact ((s.passOthers_stands i).trans (State.discardHead_stands _ i)).trans (ih _)
          · exact .of_records rfl

/-! ### The record of a pick (R111) -/

/-- R102: the request of a written pick leaves its queue, and the refiner is free. -/
def State.requestGone (s : State) (sen : Sensor) : State :=
  { s.modQueue sen List.tail with refiner := { (s.modQueue sen List.tail).refiner with work := none } }

theorem State.requestGone_grants (s : State) (sen : Sensor) : GrantsOnly s (s.requestGone sen) :=
  (State.modQueue_grants fun l h => h.sublist (List.tail_sublist l)).trans
    (State.refiner_grants rfl ⟨rfl, rfl, rfl⟩ (fun _ h => h) (fun _ h => h) (fun h => nomatch h) rfl)

theorem State.requestGone_stands (s : State) (sen : Sensor) : Stands s (s.requestGone sen) := .of_records rfl

theorem State.writePick_stands (s : State) (w : Work) (q : RefineRequest) {u : State} {r : PickRecord}
    (hu : u = (s.timeOf w.sensor (pickMath w.group q.channel (windowOf w q.trigger)).onset).1)
    (hr : r = (u.newRecord w q (windowOf w q.trigger) (pickMath w.group q.channel (windowOf w q.trigger))
      (s.timeOf w.sensor (pickMath w.group q.channel (windowOf w q.trigger)).onset).2).withInfo q.info) :
    GrantsOnly (u.addRecord r) (s.writePick w q) ∧ Stands (u.addRecord r) (s.writePick w q) := by
  subst hr hu
  refine ⟨?_, ?_⟩
  · exact (((State.handOnRecord_reports _ _).toGrantsOnly.trans (State.requestGone_grants _ w.sensor)).trans
      (State.testGroups_reports _).toGrantsOnly).trans (State.grantDecision_grants _ _)
  · exact (((State.handOnRecord_stands _ _).trans (State.requestGone_stands _ w.sensor)).trans
      (State.testGroups_stands _)).trans (State.grantDecision_stands _ _)

/-- R111: what is written of a new record, as its pick was computed. -/
structure PickRecord.Written (w : Work) (q : RefineRequest) (pick : PickMath) (r : PickRecord) : Prop where
  sensor : r.sensor = w.sensor
  channel : r.channel = q.channel
  trigger : r.trigger = q.trigger
  onset : r.onset = pick.onset
  phase : r.phase = pick.phase
  qualityClass : r.qualityClass = pick.qualityClass
  sharpness : r.sharpness = pick.sharpness
  vertical : r.vertical = pick.vertical
  polarity : r.polarity = pick.polarity
  sector : r.sector = pick.sector
  amplitude : r.amplitude = pick.amplitude
  fresh : q.info = none → r.state = .provisional ∧ r.ending = none
  ended : ∀ info, q.info = some info → r.state = .final ∧ r.peak = info.peak
    ∧ r.ending = some { endSample := info.endSample, duration := info.endSample - pick.onset, cause := info.cause }

theorem State.newRecord_written (s : State) (w : Work) (q : RefineRequest) (win : Window) (pick : PickMath) (t : SetTime) :
    ((s.newRecord w q win pick t).withInfo q.info).Written w q pick := by
  cases hinfo : q.info with
  | none => exact ⟨rfl, rfl, rfl, rfl, rfl, rfl, rfl, rfl, rfl, rfl, rfl, fun _ => ⟨rfl, rfl⟩, fun _ h => nomatch hinfo.symm.trans h⟩
  | some info =>
    refine ⟨rfl, rfl, rfl, rfl, rfl, rfl, rfl, rfl, rfl, rfl, rfl, fun h => (nomatch hinfo.symm.trans h), fun i h => ?_⟩
    obtain rfl : info = i := Option.some.inj (hinfo.symm.trans h)
    exact ⟨rfl, rfl, rfl⟩

theorem State.newRecord_id (s : State) (w : Work) (q : RefineRequest) (win : Window) (pick : PickMath) (t : SetTime) :
    ((s.newRecord w q win pick t).withInfo q.info).id
      = firstFree (s.table.records.map (·.id)) (Config.tableCapacity + 1) s.table.nextId := by
  cases q.info <;> rfl

theorem PickRecord.Written.of_same {w : Work} {q : RefineRequest} {pick : PickMath} {r r' : PickRecord}
    (h : r'.Written w q pick) (hs : r.SameButReports r') : r.Written w q pick := by
  unfold PickRecord.SameButReports at hs
  rw [hs]
  exact ⟨h.sensor, h.channel, h.trigger, h.onset, h.phase, h.qualityClass, h.sharpness, h.vertical, h.polarity, h.sector,
    h.amplitude, h.fresh, h.ended⟩

theorem PickRecord.SameButReports.id {r r' : PickRecord} (h : r.SameButReports r') : r.id = r'.id := by
  unfold PickRecord.SameButReports at h
  rw [h]

theorem State.pickWrite_writes {s : State} {w : Work} {q : RefineRequest} {rest : List RefineRequest}
    (hw : s.refiner.work = some w) (hread : w.readEnd < w.next) (hq : s.refiner.queues.get w.sensor = q :: rest) :
    s.pickWrite = s.writePick w q := by
  unfold State.pickWrite
  simp only [hw, hq]
  exact if_neg (Nat.not_le.2 hread)

/-- Settles O19: the id is held by the new record alone, which is changed by no test. -/
theorem pickWriteCreatesRecord : Obligations.PickWriteCreatesRecord := by
  intro dt s w q rest hw hread hq hlen _ _ id pick
  obtain ⟨u, hu⟩ : ∃ u, u = ((s.elapse dt).timeOf w.sensor pick.onset).1 := ⟨_, rfl⟩
  obtain ⟨r, hr⟩ : ∃ r, r = (u.newRecord w q (windowOf w q.trigger) pick
    ((s.elapse dt).timeOf w.sensor pick.onset).2).withInfo q.info := ⟨_, rfl⟩
  obtain ⟨hgrants, hstands⟩ := (s.elapse dt).writePick_stands w q hu hr
  have hmap : MapReads (s.elapse dt) u := hu ▸ State.timeOf_mapReads _ _ _
  have htable : u.table = s.table := by rw [hmap.rest]; rfl
  have hrid : r.id = id := by
    rw [hr, State.newRecord_id, htable]
  have hwritten : r.Written w q pick := hr ▸ State.newRecord_written _ _ _ _ _ _
  have hfree : id ∉ s.table.records.map (·.id) :=
    firstFree_not_mem (by rw [List.length_map]; exact hlen.trans (by decide)) (by decide) s.table.nextId
  have hadded : ∀ x ∈ (u.addRecord r).table.records, x ∈ s.table.records ∨ x = r := fun x hx => by
    change x ∈ u.table.records ++ [r] at hx
    rw [htable] at hx
    exact (List.mem_append.1 hx).imp_right List.mem_singleton.1
  have hsole : ∀ x ∈ (u.addRecord r).table.records, x.id = id → x = r := fun x hx hxid =>
    (hadded x hx).resolve_left fun hold => hfree (hxid ▸ List.mem_map_of_mem hold)
  refine ⟨_, congrArg Host.Outcome.next (State.pickWrite_writes (s := s.elapse dt) hw hread hq), ?_, fun x hx hxid => ?_,
    fun hinfo => ?_, fun x hx hxid => ?_, by rw [hgrants.rest]; change u.detector = _; rw [hmap.rest]; rfl,
    by rw [hgrants.rest]; change u.intake = _; rw [hmap.rest]; rfl,
    by rw [hgrants.rest]; change u.chains = _; rw [hmap.rest]; rfl,
    by rw [hgrants.rest]; change u.ports = _; rw [hmap.rest]; rfl,
    by rw [hgrants.rest]; change u.time = _; rw [hmap.rest], fun sen => ?_⟩
  · exact hgrants.nextPick.trans (congrArg idAfter hrid)
  · obtain ⟨y, hy, hsame⟩ := hgrants.records x hx
    obtain rfl := hsole y hy (hsame.id.symm.trans hxid)
    have h := hwritten.of_same hsame
    exact ⟨h.sensor, h.channel, h.trigger, h.onset, h.phase, h.qualityClass, h.sharpness, h.vertical, h.polarity, h.sector,
      h.amplitude, h.fresh, h.ended⟩
  · refine (hstands id ⟨⟨r, List.mem_append_right _ (List.mem_singleton.2 rfl), hrid⟩, fun x hx hxid => ?_⟩).1
    rw [hsole x hx hxid]
    exact (hwritten.fresh hinfo).1
  · obtain ⟨y, hy, hsame⟩ := hgrants.records x hx
    refine (hadded y hy).elim (fun hold => ⟨y, hold, hsame.id.symm, ?_⟩) fun hnew => ?_
    · unfold PickRecord.SameButReports at hsame
      rw [hsame]
      exact ⟨rfl, rfl, rfl⟩
    · exact absurd (hsame.id.trans ((congrArg PickRecord.id hnew).trans hrid)) hxid
  · rw [hgrants.rest]
    exact (hmap.ring sen).slots

end Sys2Proof.Machine


/-! PROOFS. What the Offer Lists, the release tests and the group tests make of a state, exactly (R123, R136, R138,
R149 to R153). -/

namespace Sys2Proof.Machine

/-! ### Lists that gain notices -/

/-- Each port's list has its `news` after what it held, and OFFER became pending with the first of them (R150). -/
structure Gains (s t : State) (news : Port → List Notice) : Prop where
  lists : ∀ p, t.offers.get p = { s.offers.get p with notices := s.notices p ++ news p }
  offer : ∀ p, s.notices p = [] → news p ≠ [] → Pends t p .offer
  keeps : ∀ p, Pends s p .offer → Pends t p .offer

/-- What is told to each port by its mode in force (R149). -/
def State.modeNews (s : State) (news : OfferMode → List Notice) (p : Port) : List Notice :=
  match (s.offers.get p).mode with
  | none => []
  | some m => news m

/-- What is told to one port. -/
def onlyAt (p : Port) (l : List Notice) (q : Port) : List Notice := if q = p then l else []

theorem onlyAt_self (p : Port) (l : List Notice) : onlyAt p l p = l := if_pos rfl

theorem onlyAt_other (p : Port) (l : List Notice) : onlyAt p l p.other = [] := if_neg (Port.other_ne p)

theorem Gains.of_same {s t : State} (ho : t.offers = s.offers) (ha : t.attention = s.attention) :
    Gains s t fun _ => [] where
  lists p := by
    rw [ho, List.append_nil]
    rfl
  offer _ _ h := absurd rfl h
  keeps p h := by
    unfold Pends
    rw [ha]
    exact h

theorem Gains.notices {s t : State} {news : Port → List Notice} (h : Gains s t news) (p : Port) :
    t.notices p = s.notices p ++ news p := by
  unfold State.notices
  rw [h.lists p]
  rfl

theorem Gains.mode {s t : State} {news : Port → List Notice} (h : Gains s t news) (p : Port) :
    (t.offers.get p).mode = (s.offers.get p).mode := by
  rw [h.lists p]

theorem Gains.trans {s t u : State} {news more : Port → List Notice} (h : Gains s t news) (k : Gains t u more) :
    Gains s u fun p => news p ++ more p where
  lists p := by
    rw [k.lists p, h.notices p, h.lists p, List.append_assoc]
  offer p hs hn := by
    by_cases hnews : news p = []
    · refine k.offer p ?_ (by rw [hnews] at hn; exact hn)
      rw [h.notices p, hs, hnews]
      rfl
    · exact k.keeps p (h.offer p hs hnews)
  keeps p hp := k.keeps p (h.keeps p hp)

theorem Gains.congr {s t : State} {news more : Port → List Notice} (h : Gains s t news) (he : ∀ p, news p = more p) :
    Gains s t more := by
  rwa [show more = news from funext fun p => (he p).symm]

theorem Gains.then_same {s t u : State} {news : Port → List Notice} (h : Gains s t news) (ho : u.offers = t.offers)
    (ha : u.attention = t.attention) : Gains s u news :=
  (h.trans (.of_same ho ha)).congr fun _ => List.append_nil _

/-- The frame of the statements. -/
theorem Gains.listsGain {s t : State} {news : OfferMode → List Notice} (h : Gains s t (s.modeNews news)) :
    ListsGain s t news := fun p => by
  refine ⟨(h.lists p).trans ?_, fun m hm hs hn => h.offer p hs ?_⟩
  · unfold State.modeNews
    cases (s.offers.get p).mode <;> rfl
  · unfold State.modeNews
    rw [hm]
    exact hn

/-- R148, R150: a notice is appended. -/
theorem State.appendNotice_gains (s : State) (p : Port) (n : Notice) : Gains s (s.appendNotice p n) (onlyAt p [n]) where
  lists q := by
    rcases Port.eq_or_other p q with rfl | rfl
    · rw [onlyAt_self]
      exact PerPort.get_set _ _ _
    · rw [onlyAt_other, List.append_nil]
      exact PerPort.get_set_other _ _ _
  offer q hs hn := by
    by_cases hq : q = p
    · subst hq
      change ClassSet.has (((s.appendNotice q n).attention.get q).pending) .offer = true
      unfold State.appendNotice
      rw [State.setNotices_attention, PerPort.get_set, show (s.offers.get q).notices = [] from hs, hs]
      simp [offerNews]
    · exact absurd (if_neg hq) hn
  keeps q hq := by
    rcases Port.eq_or_other p q with rfl | rfl
    · change ClassSet.has (((s.appendNotice q n).attention.get q).pending) .offer = true
      unfold State.appendNotice
      rw [State.setNotices_attention, PerPort.get_set]
      unfold offerNews
      split
      · simp
      · next hnil =>
        exact absurd hnil (List.append_ne_nil_of_right_ne_nil _ (List.cons_ne_nil _ _))
      · exact hq
    · change ClassSet.has (((s.appendNotice p n).attention.get p.other).pending) .offer = true
      unfold State.appendNotice
      rw [State.setNotices_attention, PerPort.get_set_other]
      exact hq

theorem State.offerPick_gains (s : State) (p : Port) (id : Nat) : Gains s (s.offerPick p id) (onlyAt p [.pickNew id]) :=
  (s.appendNotice_gains p (.pickNew id)).then_same rfl rfl

theorem foldl_gains {α : Type} {f : State → α → State} {p : Port} {g : α → Notice}
    (h : ∀ s x, Gains s (f s x) (onlyAt p [g x])) (l : List α) (s : State) :
    Gains s (l.foldl f s) (onlyAt p (l.map g)) := by
  induction l generalizing s with
  | nil => exact (Gains.of_same (s := s) (t := s) rfl rfl).congr fun q => (ite_self _).symm
  | cons x rest ih =>
    refine ((h s x).trans (ih _)).congr fun q => ?_
    unfold onlyAt
    split <;> rfl

theorem State.foldl_appendNotice_rest (s : State) (p : Port) (l : List Notice) :
    l.foldl (fun u n => u.appendNotice p n) s = { s with
      offers := (l.foldl (fun u n => u.appendNotice p n) s).offers
      attention := (l.foldl (fun u n => u.appendNotice p n) s).attention } := by
  induction l generalizing s with
  | nil => rfl
  | cons n rest ih =>
    rw [List.foldl_cons, ih]
    rfl

/-- R151 to R153: what an offer tells each attached port: picks, and after them other notices. -/
structure OffersBy (f : State → Port → OfferMode → State) (ids : OfferMode → List Nat)
    (extra : OfferMode → List Notice) : Prop where
  eq : ∀ u p m, f u p m = (extra m).foldl (fun v n => v.appendNotice p n) ((ids m).foldl (fun v id => v.offerPick p id) u)

/-- R121: a delivery field after an offer at one port. -/
def offeredAt (s : State) (p : Port) (ids : OfferMode → List Nat) (x : PickRecord) : PickRecord :=
  let told := (s.offers.get p).mode.any fun m => decide (x.id ∈ ids m)
  { x with delivery := x.delivery.set p (if told then .waiting else x.delivery.get p) }

theorem State.atAttached_offers {f : State → Port → OfferMode → State} {ids : OfferMode → List Nat}
    {extra : OfferMode → List Notice} (hf : OffersBy f ids extra) (s : State) (p : Port) :
    let t := State.atAttached f s p
    t = { s with offers := t.offers, attention := t.attention, table := t.table }
      ∧ Gains s t (onlyAt p (s.modeNews (fun m => (ids m).map .pickNew ++ extra m) p))
      ∧ t.table = { s.table with records := s.table.records.map (offeredAt s p ids) } := by
  unfold State.atAttached State.modeNews offeredAt
  cases hm : (s.offers.get p).mode with
  | none =>
    refine ⟨rfl, (Gains.of_same (s := s) (t := s) rfl rfl).congr fun q => (ite_self _).symm, ?_⟩
    simp
  | some m =>
    dsimp only
    rw [hf.eq]
    obtain ⟨hrest, -, htable⟩ := s.foldl_offerPick p (ids m)
    have hmore := State.foldl_appendNotice_rest ((ids m).foldl (fun v id => v.offerPick p id) s) p (extra m)
    refine ⟨?_, ?_, ?_⟩
    · rw [hmore, hrest]
    · refine ((foldl_gains (fun u id => u.offerPick_gains p id) (ids m) s).trans
        (foldl_gains (g := id) (fun u n => u.appendNotice_gains p n) (extra m) _)).congr fun q => ?_
      unfold onlyAt
      split
      · rw [List.map_id]
      · rfl
    · rw [hmore]
      refine htable.trans (congrArg (ArrivalTable.mk · s.table.nextId) (List.map_congr_left fun x _ => ?_))
      by_cases hx : x.id ∈ ids m
      · simp [hx]
      · simp [hx]

/-- R149, R151 to R153: what an offer to every attached port does. -/
theorem State.eachAttached_offers {f : State → Port → OfferMode → State} {ids : OfferMode → List Nat}
    {extra : OfferMode → List Notice} (hf : OffersBy f ids extra) (s : State) :
    let t := s.eachAttached f
    t = { s with offers := t.offers, attention := t.attention, table := t.table }
      ∧ Gains s t (s.modeNews fun m => (ids m).map .pickNew ++ extra m)
      ∧ t.table = { s.table with records := s.table.records.map fun x =>
          { x with delivery := nowWaiting s (fun m => decide (x.id ∈ ids m)) x.delivery } } := by
  obtain ⟨hra, hga, hta⟩ := State.atAttached_offers hf s .a
  obtain ⟨u, hu⟩ : ∃ u, u = State.atAttached f s .a := ⟨_, rfl⟩
  dsimp only at hra hga hta
  rw [← hu] at hra hga hta
  obtain ⟨hrb, hgb, htb⟩ := State.atAttached_offers hf u .b
  have hmode := hga.mode .b
  rw [State.eachAttached_eq, ← hu]
  refine ⟨by rw [hrb, hra], (hga.trans hgb).congr fun q => ?_, ?_⟩
  · cases q with
    | a => exact List.append_nil _
    | b =>
      change [] ++ State.modeNews u _ .b = State.modeNews s _ .b
      unfold State.modeNews
      rw [hmode]
      rfl
  · rw [htb, hta]
    refine congrArg (ArrivalTable.mk · s.table.nextId) ((List.map_map ..).trans (List.map_congr_left fun x _ => ?_))
    change offeredAt u .b ids (offeredAt s .a ids x) = _
    unfold offeredAt
    rw [hmode]
    rfl

theorem nowWaiting_congr {s t : State} (h : ∀ p, (t.offers.get p).mode = (s.offers.get p).mode) (f : OfferMode → Bool)
    (d : PerPort Delivery) : nowWaiting t f d = nowWaiting s f d := by
  unfold nowWaiting
  rw [h .a, h .b]

theorem nowWaiting_never (s : State) (d : PerPort Delivery) : nowWaiting s (fun _ => false) d = d := by
  unfold nowWaiting
  cases (s.offers.get .a).mode <;> cases (s.offers.get .b).mode <;> rfl

theorem nowWaiting_twice (s : State) (f g : OfferMode → Bool) (d : PerPort Delivery) :
    nowWaiting s g (nowWaiting s f d) = nowWaiting s (fun m => f m || g m) d := by
  unfold nowWaiting
  congr 1
  · cases (s.offers.get .a).mode with
    | none => rfl
    | some m => cases hf : f m <;> cases hg : g m <;> simp [hf, hg]
  · cases (s.offers.get .b).mode with
    | none => rfl
    | some m => cases hf : f m <;> cases hg : g m <;> simp [hf, hg]

/-! ### The three offers -/

/-- R151: the new record's offer, by the modes that take a record of its grouping. -/
theorem State.offerNew_offers {s : State} {id : Nat} {r : PickRecord} (hr : s.findPick id = some r)
    {offered : OfferMode → Bool} (ho : ∀ m, m.offers r.grouping = offered m) :
    let t := s.offerNew id
    t = { s with offers := t.offers, attention := t.attention, table := t.table }
      ∧ Gains s t (s.modeNews fun m => if offered m = true then [.pickNew id] else [])
      ∧ t.table = { s.table with records := s.table.records.map fun x =>
          if x.id = id then { x with delivery := nowWaiting s offered x.delivery } else x } := by
  obtain rfl : (fun m : OfferMode => m.offers r.grouping) = offered := funext ho
  have hf : OffersBy (fun t p m => if m.offers r.grouping then t.offerPick p id else t)
      (fun m => if m.offers r.grouping = true then [id] else []) (fun _ => []) := ⟨fun u p m => by
    cases m.offers r.grouping <;> rfl⟩
  obtain ⟨hrest, hgains, htable⟩ := State.eachAttached_offers hf s
  have he : s.offerNew id = s.eachAttached fun t p m => if m.offers r.grouping then t.offerPick p id else t := by
    unfold State.offerNew
    rw [hr]
  rw [he]
  refine ⟨hrest, hgains.congr fun p => ?_, htable.trans (congrArg (ArrivalTable.mk · s.table.nextId)
    (List.map_congr_left fun x _ => ?_))⟩
  · unfold State.modeNews
    cases (s.offers.get p).mode with
    | none => rfl
    | some m => cases hm : m.offers r.grouping <;> simp [hm]
  · by_cases hx : x.id = id
    · rw [if_pos hx]
      congr 1
      congr 1
      funext m
      cases hm : m.offers r.grouping <;> simp [hx]
    · rw [if_neg hx]
      have hnever : (fun m : OfferMode => decide (x.id ∈ if m.offers r.grouping = true then [id] else []))
          = fun _ => false := by
        funext m
        cases hm : m.offers r.grouping <;> simp [hx]
      rw [hnever, nowWaiting_never]

/-- R152: the report of a declaration. -/
theorem State.offerDeclaration_offers (s : State) (ids : List Nat) (group : Nat) :
    let t := s.offerDeclaration ids group
    t = { s with offers := t.offers, attention := t.attention, table := t.table }
      ∧ Gains s t (s.modeNews fun _ => ids.map .pickNew ++ [.groupDeclared group])
      ∧ t.table = { s.table with records := s.table.records.map fun x =>
          { x with delivery := nowWaiting s (fun _ => decide (x.id ∈ ids)) x.delivery } } :=
  State.eachAttached_offers (ids := fun _ => ids) (extra := fun _ => [.groupDeclared group]) ⟨fun _ _ _ => rfl⟩ s

/-- R153: the offers of the members that expiry made SINGLE. -/
theorem State.offerExpireds_offers (s : State) (ids : List Nat) :
    let t := ids.foldl State.offerExpired s
    t = { s with offers := t.offers, attention := t.attention, table := t.table }
      ∧ Gains s t (s.modeNews fun m => if m = .all then ids.map .pickNew else [])
      ∧ t.table = { s.table with records := s.table.records.map fun x =>
          { x with delivery := nowWaiting s (fun m => decide (m = .all ∧ x.id ∈ ids)) x.delivery } } := by
  induction ids generalizing s with
  | nil =>
    refine ⟨rfl, (Gains.of_same (s := s) (t := s) rfl rfl).congr fun p => ?_, ?_⟩
    · unfold State.modeNews
      cases (s.offers.get p).mode <;> simp
    · simp [nowWaiting_never]
  | cons id rest ih =>
    have hf : OffersBy (fun t p m => if m = .all then t.offerPick p id else t)
        (fun m => if m = .all then [id] else []) (fun _ => []) := ⟨fun u p m => by
      cases m <;> rfl⟩
    obtain ⟨hr1, hg1, ht1⟩ := State.eachAttached_offers hf s
    obtain ⟨u, hu⟩ : ∃ u, u = s.offerExpired id := ⟨_, rfl⟩
    change s.offerExpired id = _ at hr1
    change Gains s (s.offerExpired id) _ at hg1
    change (s.offerExpired id).table = _ at ht1
    rw [← hu] at hr1 hg1 ht1
    obtain ⟨hr2, hg2, ht2⟩ := ih u
    have hmodes := hg1.mode
    rw [List.foldl_cons, ← hu]
    refine ⟨by rw [hr2, hr1], (hg1.trans hg2).congr fun p => ?_, ?_⟩
    · unfold State.modeNews
      rw [hmodes p]
      cases (s.offers.get p).mode with
      | none => rfl
      | some m => cases m <;> simp
    · rw [ht2, ht1]
      refine congrArg (ArrivalTable.mk · s.table.nextId) ((List.map_map ..).trans (List.map_congr_left fun x _ => ?_))
      simp only [Function.comp_apply, nowWaiting_congr hmodes, nowWaiting_twice]
      congr 2
      funext m
      cases m <;> simp

/-! ### Release tests -/

theorem State.releasable_congr {s t : State} (ho : t.offers = s.offers) (hg : t.grouper.groups = s.grouper.groups)
    (r : PickRecord) : t.releasable r = s.releasable r := by
  unfold State.releasable State.portNeeds State.listedLive State.attached State.notices
  rw [ho, hg]

/-- R124: the release tests of several ids, at once. -/
theorem State.releaseTests_records {s : State} (h : (s.table.records.map (·.id)).Nodup) (ids : List Nat) :
    s.releaseTests ids = { s with table := { s.table with
      records := s.table.records.filter fun x => !(decide (x.id ∈ ids) && s.releasable x) } } := by
  induction ids generalizing s with
  | nil => simp [State.releaseTests]
  | cons id rest ih =>
    have hone : s.releaseTest id = { s with table := { s.table with
        records := s.table.records.filter fun x => !(decide (x.id = id) && s.releasable x) } } := by
      cases hf : s.findPick id with
      | none =>
        have hall : s.table.records.filter (fun x => !(decide (x.id = id) && s.releasable x)) = s.table.records := by
          refine List.filter_eq_self.2 fun x hx => ?_
          have hne := List.find?_eq_none.1 hf x hx
          simp only [beq_iff_eq] at hne
          simp [hne]
        rw [hall]
        unfold State.releaseTest
        rw [hf]
      | some r =>
        obtain ⟨hmem, rfl⟩ := State.mem_of_findPick hf
        have hsole (x : PickRecord) (hx : x ∈ s.table.records) (hid : x.id = r.id) : x = r :=
          List.inj_on_of_nodup_map h hx hmem hid
        cases hfree : s.releasable r with
        | true =>
          rw [State.releaseTest_free hf hfree]
          unfold ArrivalTable.free
          rw [List.filter_congr fun x hx => ?_]
          by_cases hid : x.id = r.id
          · simp [hsole x hx hid, hfree]
          · simp [hid]
        | false =>
          have hall : s.table.records.filter (fun x => !(decide (x.id = r.id) && s.releasable x)) = s.table.records := by
            refine List.filter_eq_self.2 fun x hx => ?_
            by_cases hid : x.id = r.id
            · simp [hsole x hx hid, hfree]
            · simp [hid]
          rw [hall]
          unfold State.releaseTest
          rw [hf]
          exact if_neg (by rw [hfree]; decide)
    have hnext : ((s.releaseTest id).table.records.map (·.id)).Nodup := (s.releaseTest_reports id).ids.nodup h
    change (s.releaseTest id).releaseTests rest = _
    have hsame (x : PickRecord) : (s.releaseTest id).releasable x = s.releasable x := by
      rw [hone]
      exact State.releasable_congr rfl rfl x
    rw [ih hnext]
    simp only [hsame]
    rw [hone]
    dsimp only
    rw [List.filter_filter]
    congr 2
    refine List.filter_congr fun x _ => ?_
    by_cases hid : x.id = id
    · cases s.releasable x <;> simp [hid]
    · simp [hid]

/-- R123, condition 4: the members of a live group are not released. -/
theorem State.releaseTests_listed {s : State} {ids : List Nat} (h : ∀ id ∈ ids, s.listedLive id = true) :
    s.releaseTests ids = s := by
  induction ids with
  | nil => rfl
  | cons id rest ih =>
    have hone : s.releaseTest id = s := by
      unfold State.releaseTest
      split
      · rfl
      · next r hr =>
        obtain ⟨-, rfl⟩ := State.mem_of_findPick hr
        refine if_neg ?_
        unfold State.releasable
        rw [h r.id List.mem_cons_self]
        simp
    change (s.releaseTest id).releaseTests rest = s
    rw [hone]
    exact ih fun i hi => h i (List.mem_cons_of_mem _ hi)

/-! ### Groups in their list -/

theorem map_changed_other {l : List GroupRecord} {id : Nat} (h : ∀ x ∈ l, x.id ≠ id) (f : GroupRecord → GroupRecord) :
    (l.map fun x => if x.id = id then f x else x) = l :=
  (List.map_congr_left fun x hx => if_neg (h x hx)).trans (List.map_id _)

/-- A group among the others. -/
structure Among (l older : List GroupRecord) (g : GroupRecord) (newer : List GroupRecord) : Prop where
  eq : l = older ++ g :: newer
  older : ∀ x ∈ older, x.id ≠ g.id
  newer : ∀ x ∈ newer, x.id ≠ g.id

theorem Among.of_nodup {l older newer : List GroupRecord} {g : GroupRecord} (h : l = older ++ g :: newer)
    (hnd : (l.map (·.id)).Nodup) : Among l older g newer := by
  rw [h, List.map_append, List.map_cons] at hnd
  obtain ⟨-, hnewer, hne⟩ := List.nodup_append.1 hnd
  refine ⟨h, fun x hx => hne _ (List.mem_map_of_mem hx) _ List.mem_cons_self, fun x hx e => ?_⟩
  exact (List.nodup_cons.1 hnewer).1 (e ▸ List.mem_map_of_mem hx)

section
variable {s : State} {older newer : List GroupRecord} {g : GroupRecord}

theorem Among.findGroup (h : Among s.grouper.groups older g newer) : s.findGroup g.id = some g := by
  unfold State.findGroup
  rw [h.eq, List.find?_append, List.find?_eq_none.2 fun x hx => by simpa using h.older x hx]
  simp

theorem Among.modGroup (h : Among s.grouper.groups older g newer) (f : GroupRecord → GroupRecord) :
    (s.modGroup g.id f).grouper = { s.grouper with groups := older ++ f g :: newer } := by
  unfold State.modGroup
  dsimp only
  rw [h.eq, List.map_append, List.map_cons, map_changed_other h.older, map_changed_other h.newer, if_pos rfl]

theorem Among.change {l : List GroupRecord} {g' : GroupRecord} (h : Among l older g newer) (hid : g'.id = g.id) :
    Among (older ++ g' :: newer) older g' newer :=
  ⟨rfl, fun x hx => hid ▸ h.older x hx, fun x hx => hid ▸ h.newer x hx⟩

end

/-! ### Completeness and tests (R137, R138) -/

theorem State.windowComplete_congr {s t : State} (h : t = { s with
    grouper := t.grouper, table := t.table, offers := t.offers, attention := t.attention }) (w : Nat) :
    t.windowComplete w = s.windowComplete w := by
  rw [h]
  rfl

/-- R138: a test of a group whose window is incomplete changes nothing. -/
theorem State.testGroup_still {s : State} {g : GroupRecord} (hg : s.findGroup g.id = some g)
    (ho : g.state = .opened → s.windowComplete g.pEnd = false)
    (hd : g.state = .declared → s.windowComplete g.closeEnd = false) (handling : Option Nat) :
    s.testGroup handling g.id = s := by
  unfold State.testGroup
  rw [hg]
  dsimp only
  split
  · next hs => exact if_neg (by rw [ho hs]; decide)
  · next hs => exact if_neg (by rw [hd hs]; decide)
  · rfl

/-- R138: with every window incomplete the tests change nothing. -/
theorem State.testGroups_still {s : State} (h : ∀ g ∈ s.grouper.groups,
    (g.state = .opened → s.windowComplete g.pEnd = false) ∧ (g.state = .declared → s.windowComplete g.closeEnd = false)) :
    s.testGroups = s := by
  have still (id : Nat) : s.testGroup none id = s := by
    cases hf : s.findGroup id with
    | none =>
      unfold State.testGroup
      rw [hf]
    | some g =>
      obtain ⟨hg, rfl⟩ := State.mem_of_findGroup hf
      exact State.testGroup_still hf (h g hg).1 (h g hg).2 none
  unfold State.testGroups
  generalize s.grouper.groups.map (·.id) = l
  induction l with
  | nil => rfl
  | cons id rest ih =>
    rw [List.foldl_cons, still]
    exact ih

/-! ### Onset order (R136) -/

/-- R136: onset order, and among picks of equal onset the order of a list. -/
def State.OnsetBefore (s : State) (ids : List Nat) (a b : Nat) : Prop :=
  s.onsetTime a < s.onsetTime b ∨ s.onsetTime a = s.onsetTime b ∧ ids.idxOf a < ids.idxOf b

theorem State.insertByOnset_pairwise {s : State} {ids : List Nat} {x : Nat} {acc : List Nat}
    (h : acc.Pairwise (s.OnsetBefore ids)) (hx : ∀ a ∈ acc, ids.idxOf a < ids.idxOf x) :
    (s.insertByOnset x acc).Pairwise (s.OnsetBefore ids) := by
  induction acc with
  | nil => exact List.pairwise_singleton _ _
  | cons y rest ih =>
    obtain ⟨hy, hrest⟩ := List.pairwise_cons.1 h
    unfold State.insertByOnset
    split
    · next hlt =>
      refine List.pairwise_cons.2 ⟨fun b hb => .inl ?_, h⟩
      rcases List.mem_cons.1 hb with rfl | hb
      · exact hlt
      · rcases hy b hb with hyb | ⟨hyb, -⟩
        · exact hlt.trans hyb
        · rw [← hyb]
          exact hlt
    · next hge =>
      refine List.pairwise_cons.2 ⟨fun b hb => ?_, ih hrest fun a ha => hx a (List.mem_cons_of_mem _ ha)⟩
      rcases List.mem_cons.1 ((s.insertByOnset_perm x rest).subset hb) with rfl | hb
      · rcases Nat.lt_or_eq_of_le (Nat.not_lt.1 hge) with hlt | heq
        · exact .inl hlt
        · exact .inr ⟨heq, hx y List.mem_cons_self⟩
      · exact hy b hb

/-- R136: members in order of onset, those of equal onset in join order. -/
theorem State.byOnset_pairwise (s : State) {ids : List Nat} (h : ids.Nodup) :
    (s.byOnset ids).Pairwise (s.OnsetBefore ids) := by
  have go : ∀ todo done acc : List Nat, ids = done ++ todo → acc.Perm done → acc.Pairwise (s.OnsetBefore ids) →
      (todo.foldl (fun acc id => s.insertByOnset id acc) acc).Pairwise (s.OnsetBefore ids) := by
    intro todo
    induction todo with
    | nil => exact fun _ _ _ _ hp => hp
    | cons x rest ih =>
      intro done acc he hperm hp
      have hnew : x ∉ done := fun hx => by
        rw [he] at h
        exact (List.nodup_append.1 h).2.2 x hx x List.mem_cons_self rfl
      refine ih (done ++ [x]) _ (by rw [he, List.append_assoc]; rfl) ?_ (State.insertByOnset_pairwise hp fun a ha => ?_)
      · exact (s.insertByOnset_perm x acc).trans ((hperm.cons x).trans (List.perm_append_singleton x done).symm)
      · have hadone := hperm.subset ha
        rw [he, List.idxOf_append_of_mem hadone, List.idxOf_append_of_notMem hnew]
        exact (List.idxOf_lt_length_of_mem hadone).trans_le (Nat.le_add_right _ _)
  exact go ids [] [] rfl (.refl _) List.Pairwise.nil

theorem State.byOnset_congr {s t : State} (h : ∀ id, t.onsetTime id = s.onsetTime id) (ids : List Nat) :
    t.byOnset ids = s.byOnset ids := by
  have hinsert (id : Nat) (l : List Nat) : t.insertByOnset id l = s.insertByOnset id l := by
    induction l with
    | nil => rfl
    | cons x rest ih =>
      unfold State.insertByOnset
      rw [h, h, ih]
  unfold State.byOnset
  congr 1
  funext acc id
  exact hinsert id acc

/-! ### Records found after a change -/

theorem State.findPick_map {s t : State} {f : PickRecord → PickRecord} (hf : ∀ r, (f r).id = r.id)
    (h : t.table.records = s.table.records.map f) (id : Nat) : t.findPick id = (s.findPick id).map f := by
  unfold State.findPick
  rw [h, List.find?_map]
  congr 2
  funext r
  simp [hf]

theorem State.onsetTime_map {s t : State} {f : PickRecord → PickRecord}
    (hf : ∀ r, (f r).id = r.id ∧ (f r).onsetLocal = r.onsetLocal) (h : t.table.records = s.table.records.map f)
    (id : Nat) : t.onsetTime id = s.onsetTime id := by
  unfold State.onsetTime
  rw [State.findPick_map (fun r => (hf r).1) h]
  cases s.findPick id with
  | none => rfl
  | some r => exact congrArg (Option.getD · 0) (hf r).2

end Sys2Proof.Machine


/-! PROOFS. How picks are grouped (chapter 7): the declaration, the placing of a new pick, expiry, closing and the
statement O20. -/

namespace Sys2Proof.Machine

/-! ### Declaration (R135, R136) -/

/-- The record of a group once it is declared. -/
def GroupRecord.declaredAt (g : GroupRecord) (time : Nat) : GroupRecord :=
  { g with state := .declared, declareTime := some time }

/-- R135, R136: in `u` the picks `ids` of `s` are GROUPED in the group `group` and reported before it, and the grouper
stands as `grouper`. -/
structure Declares (s u : State) (grouper : Grouper) (group : Nat) (ids : List Nat) : Prop where
  rest : u = { s with grouper := u.grouper, table := u.table, offers := u.offers, attention := u.attention }
  grouper : u.grouper = grouper
  table : u.table = { s.table with records := s.table.records.map fun x =>
    if x.id ∈ ids then { x with grouping := .grouped group, delivery := nowWaiting s (fun _ => true) x.delivery } else x }
  gains : Gains s u (s.modeNews fun _ => (s.byOnset ids).map .pickNew ++ [.groupDeclared group])

/-- A state that differs in the groups and in one pick's grouping. -/
def Regrouped (s t : State) (id : Nat) (G : Grouping) : Prop :=
  t = { s with grouper := t.grouper, table := (s.setGrouping id G).table }

section
variable {s t u : State} {id : Nat} {G : Grouping}

theorem Regrouped.rest (h : Regrouped s t id G) :
    t = { s with grouper := t.grouper, table := t.table, offers := t.offers, attention := t.attention } := by
  rw [h]

theorem Regrouped.records (h : Regrouped s t id G) : t.table.records
    = s.table.records.map fun x => if x.id = id then { x with grouping := G } else x := by
  rw [h]
  rfl

theorem Regrouped.isPending {g : Nat} (h : Regrouped s t id (.pending g)) {i : Nat}
    (hi : s.isPending i = true ∨ i = id ∧ (s.findPick id).isSome) : t.isPending i = true := by
  unfold State.isPending at hi ⊢
  rw [State.findPick_map (fun x => by split <;> rfl) h.records]
  rcases hi with hi | ⟨rfl, hi⟩
  · cases hf : s.findPick i with
    | none =>
      rw [hf] at hi
      cases hi
    | some x =>
      rw [hf] at hi
      change (if x.id = id then { x with grouping := .pending g } else x).grouping.isPending = true
      split
      · rfl
      · exact hi
  · obtain ⟨x, hx⟩ := Option.isSome_iff_exists.1 hi
    rw [hx]
    change (if x.id = i then { x with grouping := .pending g } else x).grouping.isPending = true
    rw [if_pos (State.mem_of_findPick hx).2]
    rfl

/-- A pick that was regrouped before the declaration of its group is in it as the others are. -/
theorem Declares.of_regrouped {gr : Grouper} {group : Nat} {ids : List Nat} (h : Regrouped s t id G) (hid : id ∈ ids)
    (hd : Declares t u gr group ids) : Declares s u gr group ids where
  rest := by rw [hd.rest, h]
  grouper := hd.grouper
  table := by
    have hnext : t.table.nextId = s.table.nextId := by rw [h]; rfl
    rw [hd.table, h.records]
    refine congrArg₂ ArrivalTable.mk ((List.map_map ..).trans (List.map_congr_left fun x _ => ?_)) hnext
    have hw (d : PerPort Delivery) : nowWaiting t (fun _ => true) d = nowWaiting s (fun _ => true) d :=
      nowWaiting_congr (fun p => by rw [h]) _ d
    rw [Function.comp_apply]
    by_cases hx : x.id = id
    · rw [if_pos hx, if_pos (hx ▸ hid), if_pos (hx ▸ hid), hw]
    · rw [if_neg hx, hw]
  gains := by
    have hnews : t.modeNews (fun _ => (t.byOnset ids).map Notice.pickNew ++ [.groupDeclared group])
        = s.modeNews fun _ => (s.byOnset ids).map .pickNew ++ [.groupDeclared group] := by
      rw [State.byOnset_congr (State.onsetTime_map (fun x => by split <;> exact ⟨rfl, rfl⟩) h.records)]
      funext p
      unfold State.modeNews
      rw [show t.offers = s.offers by rw [h]]
    have hsame : Gains s t fun _ => [] := .of_same (by rw [h]) (by rw [h])
    exact (hsame.trans hd.gains).congr (congrFun hnews)

end

section
variable {s : State} {older newer : List GroupRecord} {g : GroupRecord}

/-- R123, condition 4: what a live group lists. -/
theorem Among.listedLive (h : Among s.grouper.groups older g newer) (hs : g.state ≠ .closed) {id : Nat}
    (hid : id ∈ g.members.map (·.pick)) : s.listedLive id = true := by
  obtain ⟨m, hm, rfl⟩ := List.mem_map.1 hid
  refine List.any_eq_true.2 ⟨g, h.eq ▸ by simp, ?_⟩
  simp only [Bool.and_eq_true, decide_eq_true_eq, List.any_eq_true]
  exact ⟨hs, m, hm, beq_self_eq_true _⟩

/-- R135, R136: an OPEN group whose window is incomplete is declared. -/
theorem State.declareGroup_declares (hg : Among s.grouper.groups older g newer)
    (hp : ∀ id ∈ g.members.map (·.pick), s.isPending id = true) (hw : s.windowComplete g.closeEnd = false)
    (handling : Nat) :
    Declares s (s.declareGroup g handling)
      { s.grouper with groups := older ++ g.declaredAt s.time.localTime :: newer } g.id (g.members.map (·.pick)) := by
  have hall : (g.members.map (·.pick)).filter s.isPending = g.members.map (·.pick) := List.filter_eq_self.2 hp
  unfold State.declareGroup
  dsimp only
  rw [hall]
  generalize hids : g.members.map (·.pick) = ids at hp hall ⊢
  obtain ⟨v, hv⟩ : ∃ v, v = ids.foldl (fun t id => t.setGrouping id (.grouped g.id))
    (s.modGroup g.id fun x => { x with state := .declared, declareTime := some s.time.localTime }) := ⟨_, rfl⟩
  rw [← hv]
  rw [State.foldl_setGrouping] at hv
  have hgroups : v.grouper = { s.grouper with groups := older ++ g.declaredAt s.time.localTime :: newer } :=
    (congrArg State.grouper hv).trans (hg.modGroup _)
  obtain ⟨hrest, hgains, htable⟩ := v.offerDeclaration_offers (s.byOnset ids) g.id
  generalize v.offerDeclaration (s.byOnset ids) g.id = w at hrest hgains htable ⊢
  have hwrest : w = { s with grouper := w.grouper, table := w.table, offers := w.offers, attention := w.attention } := by
    rw [hrest, hv]
    rfl
  have hwg : w.grouper = { s.grouper with groups := older ++ g.declaredAt s.time.localTime :: newer } := by
    rw [hrest]
    exact hgroups
  have hamong : Among w.grouper.groups older (g.declaredAt s.time.localTime) newer := by
    rw [hwg]
    exact hg.change rfl
  have htests : w.releaseTests (ids.filter fun id => id ≠ handling) = w :=
    State.releaseTests_listed fun id hid => hamong.listedLive (nomatch ·) (hids ▸ (List.mem_filter.1 hid).1)
  have hstill : w.testGroup (some handling) g.id = w :=
    State.testGroup_still (g := g.declaredAt s.time.localTime) hamong.findGroup (nomatch ·)
      (fun _ => (State.windowComplete_congr hwrest _).trans hw) _
  rw [htests, hstill]
  refine ⟨hwrest, hwg, ?_, ?_⟩
  · rw [htable, show v.table = { s.table with records := s.table.records.map fun r =>
      if r.id ∈ ids then { r with grouping := .grouped g.id } else r } by rw [hv]; rfl]
    refine congrArg (ArrivalTable.mk · s.table.nextId) ((List.map_map ..).trans (List.map_congr_left fun x _ => ?_))
    have hw (f : OfferMode → Bool) (d : PerPort Delivery) : nowWaiting v f d = nowWaiting s f d :=
      nowWaiting_congr (fun p => by rw [hv]; rfl) _ d
    rw [Function.comp_apply, hw]
    by_cases hx : x.id ∈ ids
    · simp only [(s.byOnset_perm ids).mem_iff, hx, if_true, decide_true]
    · simp only [(s.byOnset_perm ids).mem_iff, hx, if_false, decide_false, nowWaiting_never]
  · have hsame : Gains s v fun _ => [] := .of_same (by rw [hv]; rfl) (by rw [hv]; rfl)
    refine (hsame.trans hgains).congr fun p => ?_
    unfold State.modeNews
    rw [show v.offers = s.offers by rw [hv]; rfl]
    rfl

/-- R134: nothing follows a join that does not declare the group while its window is incomplete. -/
theorem State.afterJoin_of_unreached (hg : s.findGroup g.id = some g) (h : ¬ (g.state = .opened ∧ g.count ≤ g.pCount))
    (pick : Nat) : s.afterJoin pick g.id = (s.testGroup (some pick) g.id, false) := by
  have hd : s.declareIfReached g.id pick = (s, false) := by
    unfold State.declareIfReached
    rw [hg]
    exact if_neg h
  unfold State.afterJoin
  rw [hd]

/-- R134, R135: the join that reaches M declares the group. -/
theorem State.afterJoin_of_reached (hg : Among s.grouper.groups older g newer) (hs : g.state = .opened)
    (hc : g.count ≤ g.pCount) (hp : ∀ id ∈ g.members.map (·.pick), s.isPending id = true)
    (hw : s.windowComplete g.closeEnd = false) (pick : Nat) :
    ∃ u, s.afterJoin pick g.id = (u, true) ∧ Declares s u
      { s.grouper with groups := older ++ g.declaredAt s.time.localTime :: newer } g.id (g.members.map (·.pick)) := by
  have hd := State.declareGroup_declares hg hp hw pick
  have hreach : s.declareIfReached g.id pick = (s.declareGroup g pick, true) := by
    unfold State.declareIfReached
    rw [hg.findGroup]
    exact if_pos ⟨hs, hc⟩
  have hamong : Among (s.declareGroup g pick).grouper.groups older (g.declaredAt s.time.localTime) newer := by
    rw [hd.grouper]
    exact hg.change rfl
  have hstill : (s.declareGroup g pick).testGroup (some pick) g.id = s.declareGroup g pick :=
    State.testGroup_still (g := g.declaredAt s.time.localTime) hamong.findGroup (nomatch ·)
      (fun _ => (State.windowComplete_congr hd.rest _).trans hw) _
  refine ⟨_, ?_, hd⟩
  unfold State.afterJoin
  rw [hreach]
  exact congrArg (·, true) hstill

end

end Sys2Proof.Machine


/-! PROOFS. Where a new pick is placed (R130 to R134): SINGLE, in a group that it opens, or in a group that admits it. -/

namespace Sys2Proof.Machine

section
variable {s : State} {id t : Nat} {r : PickRecord}

/-! ### The three ways (R130) -/

/-- R130: no onset time, too low a class, or phase U. -/
theorem State.groupPick_single (hf : s.findPick id = some r)
    (h : r.onsetLocal = none ∨ s.grouper.settings.active.qmax < r.qualityClass ∨ r.phase = .u) :
    s.groupPick id = (s.setGrouping id .single, false) := by
  unfold State.groupPick
  rw [hf]
  dsimp only
  split
  · rfl
  · next t ht =>
    split
    · rfl
    · next hq =>
      have hu : r.phase = .u := (h.resolve_left (by rw [ht]; exact (nomatch ·))).resolve_left hq
      rw [hu]

theorem State.groupPick_p (hf : s.findPick id = some r) (ho : r.onsetLocal = some t)
    (hq : r.qualityClass ≤ s.grouper.settings.active.qmax) (hp : r.phase = .p) : s.groupPick id = s.placeP r t := by
  unfold State.groupPick
  rw [hf]
  dsimp only
  rw [ho]
  dsimp only
  rw [if_neg (Nat.not_lt.2 hq), hp]

theorem State.groupPick_s (hf : s.findPick id = some r) (ho : r.onsetLocal = some t)
    (hq : r.qualityClass ≤ s.grouper.settings.active.qmax) (hp : r.phase = .s) : s.groupPick id = s.placeS r t := by
  unfold State.groupPick
  rw [hf]
  dsimp only
  rw [ho]
  dsimp only
  rw [if_neg (Nat.not_lt.2 hq), hp]

/-! ### Admission (R131, R133) -/

theorem GroupRecord.has_iff {g : GroupRecord} {sen : Sensor} {ph : MemberPhase} :
    g.has sen ph = false ↔ ∀ m ∈ g.members, ¬ (m.sensor = sen ∧ m.phase = ph) := by
  simp [GroupRecord.has]

theorem GroupRecord.admitsP_iff {g : GroupRecord} {sen : Sensor} : g.admitsP sen t = true ↔ Admits g sen .p t := by
  unfold GroupRecord.admitsP Admits
  simp only [Bool.and_eq_true, decide_eq_true_eq, Bool.not_eq_true', GroupRecord.has_iff]
  tauto

theorem GroupRecord.admitsS_iff {g : GroupRecord} {sen : Sensor} : g.admitsS sen t = true ↔ Admits g sen .s t := by
  unfold GroupRecord.admitsS Admits
  simp only [Bool.and_eq_true, decide_eq_true_eq, Bool.not_eq_true', GroupRecord.has_iff, and_assoc, Nat.sub_le_iff_le_add']

theorem not_admits_p {g : GroupRecord} {sen : Sensor}
    (h : g.state = .closed ∨ (∃ m ∈ g.members, m.sensor = sen ∧ m.phase = .p) ∨ t < g.firstLocal
      ∨ g.firstLocal + g.pWindow * 1000 < t) : ¬ Admits g sen .p t := by
  rintro ⟨hlive, hnone, hfrom, hto⟩
  rcases h with h | ⟨m, hm, h⟩ | h | h
  · exact hlive h
  · exact hnone m hm h
  · exact absurd hfrom (Nat.not_le.2 h)
  · exact absurd hto (Nat.not_le.2 h)

/-! ### Opening (R132) -/

theorem State.placeP_of_none (h : ∀ g ∈ s.grouper.groups, ¬ Admits g r.sensor .p t) :
    s.placeP r t = if s.grouper.groups.length < Config.groupCapacity then
      (s.openGroup r t).afterJoin r.id (s.newGroup r t).id else (s.openGroup r t, false) := by
  have hnone : (s.grouper.groups.find? fun g => g.admitsP r.sensor t) = none :=
    List.find?_eq_none.2 fun g hg hadm => h g hg (GroupRecord.admitsP_iff.1 hadm)
  unfold State.placeP
  rw [hnone]

theorem State.newGroup_fresh (s : State) (r : PickRecord) (t : Nat) (h : s.grouper.groups.length < 8) :
    (s.newGroup r t).id ∉ s.grouper.groups.map (·.id) :=
  firstFree_not_mem (by rw [List.length_map]; exact Nat.lt_succ_of_lt h) (by decide) _

/-- The state with the new group. -/
theorem State.openGroup_opens (h : s.grouper.groups.length < 8) : s.openGroup r t = { s with
    grouper := { s.grouper with groups := s.grouper.groups ++ [s.newGroup r t], nextId := idAfter (s.newGroup r t).id }
    table := (s.setGrouping r.id (.pending (s.newGroup r t).id)).table } := by
  unfold State.openGroup
  exact if_pos h

theorem State.openGroup_regrouped (h : s.grouper.groups.length < 8) :
    Regrouped s (s.openGroup r t) r.id (.pending (s.newGroup r t).id) := by
  rw [State.openGroup_opens h]
  rfl

theorem State.openGroup_among (h : s.grouper.groups.length < 8) :
    Among (s.openGroup r t).grouper.groups s.grouper.groups (s.newGroup r t) [] := by
  rw [State.openGroup_opens h]
  exact ⟨rfl, fun x hx e => s.newGroup_fresh r t h (e ▸ List.mem_map_of_mem hx), nofun⟩

/-- R132: with 8 live groups the pick is SINGLE with GROUP_FULL. -/
theorem State.openGroup_full (h : 8 ≤ s.grouper.groups.length) : s.openGroup r t = { s with
    grouper := { s.grouper with fullCount := min (s.grouper.fullCount + 1) 65535 }
    table := { s.table with records := s.table.records.map fun x =>
      if x.id = r.id then { x with grouping := .single, flags := { x.flags with groupFull := true } } else x } } := by
  unfold State.openGroup
  exact if_neg (Nat.not_lt.2 h)

/-- R140: the new group that expires at once tells the pick to no list. -/
theorem State.expireGroup_alone {u : State} {g : GroupRecord} (hm : g.members.map (·.pick) = [id]) :
    u.expireGroup g (some id) = { u with
      grouper := { u.grouper with
        groups := u.grouper.groups.filter fun x => x.id != g.id
        expired := min (u.grouper.expired + 1) 65535 }
      table := (u.setGrouping id .single).table } := by
  have hothers : g.others (some id) = [] := by
    unfold GroupRecord.others
    rw [hm]
    simp
  unfold State.expireGroup
  rw [hothers, hm]
  rfl

/-- R132, R134: with M above 1 and its window incomplete, the new group stays OPEN. -/
theorem State.opened_stays (hlen : s.grouper.groups.length < 8) (hc : 2 ≤ s.grouper.settings.active.count)
    (hw : s.windowComplete (t + s.grouper.settings.active.pWindow * 1000) = false) :
    (s.openGroup r t).afterJoin r.id (s.newGroup r t).id = (s.openGroup r t, false) := by
  have hfind := (State.openGroup_among (r := r) (t := t) hlen).findGroup
  rw [State.afterJoin_of_unreached hfind fun h => absurd h.2 (Nat.not_le.2 hc)]
  exact congrArg (·, false) (State.testGroup_still hfind
    (fun _ => (State.windowComplete_congr (State.openGroup_regrouped hlen).rest _).trans hw) (nomatch ·) _)

/-- R132, R138, R140: with its window complete, the new group expires at once. -/
theorem State.opened_expires (hlen : s.grouper.groups.length < 8) (hc : 2 ≤ s.grouper.settings.active.count)
    (hw : s.windowComplete (t + s.grouper.settings.active.pWindow * 1000) = true) :
    (s.openGroup r t).afterJoin r.id (s.newGroup r t).id = ({ s with
      grouper := { s.grouper with
        nextId := idAfter (s.newGroup r t).id, expired := min (s.grouper.expired + 1) 65535 }
      table := (s.setGrouping r.id .single).table }, false) := by
  have hfind := (State.openGroup_among (r := r) (t := t) hlen).findGroup
  have hdue : (s.openGroup r t).windowComplete (s.newGroup r t).pEnd = true :=
    (State.windowComplete_congr (State.openGroup_regrouped hlen).rest _).trans hw
  have htest : (s.openGroup r t).testGroup (some r.id) (s.newGroup r t).id
      = (s.openGroup r t).expireGroup (s.newGroup r t) (some r.id) := by
    unfold State.testGroup
    rw [hfind]
    exact if_pos hdue
  have hgone : (s.grouper.groups ++ [s.newGroup r t]).filter (fun x => x.id != (s.newGroup r t).id) = s.grouper.groups := by
    rw [List.filter_append, List.filter_eq_self.2 fun x hx => ?_]
    · simp
    · exact bne_iff_ne.2 fun e => s.newGroup_fresh r t hlen (e ▸ List.mem_map_of_mem hx)
  rw [State.afterJoin_of_unreached hfind fun h => absurd h.2 (Nat.not_le.2 hc), htest, State.expireGroup_alone rfl,
    State.openGroup_opens hlen]
  dsimp only
  rw [hgone]
  refine congrArg (·, false) (congrArg (fun tb => { s with
    grouper := { s.grouper with nextId := idAfter (s.newGroup r t).id, expired := min (s.grouper.expired + 1) 65535 }
    table := tb }) (congrArg (ArrivalTable.mk · s.table.nextId) ((List.map_map ..).trans
      (List.map_congr_left fun x _ => ?_))))
  rw [Function.comp_apply]
  by_cases hx : x.id = r.id
  · simp only [if_pos hx]
  · simp only [if_neg hx]

/-- R132, R135: with M = 1 the new group is declared at once. -/
theorem State.opened_declares (hlen : s.grouper.groups.length < 8) (hf : s.findPick r.id = some r)
    (hc : s.grouper.settings.active.count = 1)
    (hw : s.windowComplete (t + max s.grouper.settings.active.pWindow s.grouper.settings.active.sWindow * 1000) = false) :
    ∃ u, (s.openGroup r t).afterJoin r.id (s.newGroup r t).id = (u, true) ∧ Declares s u
      { s.grouper with
        groups := s.grouper.groups ++ [(s.newGroup r t).declaredAt s.time.localTime]
        nextId := idAfter (s.newGroup r t).id } (s.newGroup r t).id [r.id] := by
  have hre := State.openGroup_regrouped (r := r) (t := t) hlen
  have hsome : (s.findPick r.id).isSome := by rw [hf]; rfl
  obtain ⟨u, hu, hd⟩ := State.afterJoin_of_reached (State.openGroup_among (r := r) (t := t) hlen) rfl
    (show s.grouper.settings.active.count ≤ 1 by rw [hc])
    (fun i hi => hre.isPending (.inr ⟨List.mem_singleton.1 hi, hsome⟩))
    ((State.windowComplete_congr hre.rest _).trans hw) r.id
  refine ⟨u, hu, ?_⟩
  rw [show (s.openGroup r t).time = s.time by rw [hre], State.openGroup_opens hlen] at hd
  rw [State.openGroup_opens hlen] at hre
  exact hd.of_regrouped hre List.mem_cons_self

/-! ### Joining (R131, R133, R134) -/

theorem latestGroup_some {b : GroupRecord} {l : List GroupRecord} (h : ∀ x ∈ l, x.firstLocal < b.firstLocal) :
    latestGroup (some b) l = some b := by
  induction l with
  | nil => rfl
  | cons x rest ih =>
    rw [latestGroup, if_neg (Nat.not_le.2 (h x List.mem_cons_self))]
    exact ih fun y hy => h y (List.mem_cons_of_mem _ hy)

/-- R133: the latest of the groups, and the last of those. -/
theorem latestGroup_split {best : Option GroupRecord} {older newer : List GroupRecord} {g : GroupRecord}
    (hb : ∀ b ∈ best, b.firstLocal ≤ g.firstLocal) (ho : ∀ x ∈ older, x.firstLocal ≤ g.firstLocal)
    (hn : ∀ x ∈ newer, x.firstLocal < g.firstLocal) : latestGroup best (older ++ g :: newer) = some g := by
  induction older generalizing best with
  | nil =>
    cases best with
    | none => exact latestGroup_some hn
    | some b =>
      rw [List.nil_append, latestGroup, if_pos (hb b rfl)]
      exact latestGroup_some hn
  | cons x rest ih =>
    have hx := ho x List.mem_cons_self
    have hrest : ∀ y ∈ rest, y.firstLocal ≤ g.firstLocal := fun y hy => ho y (List.mem_cons_of_mem _ hy)
    cases best with
    | none => exact ih (fun b e => Option.some.inj e ▸ hx) hrest
    | some b =>
      refine ih (fun c e => ?_) hrest
      rw [← Option.some.inj e]
      split
      · exact hx
      · exact hb b rfl

variable {older newer : List GroupRecord} {g : GroupRecord} {ph : MemberPhase}

/-- R131: the oldest group that admits a P pick is joined. -/
theorem State.placeP_joins (hg : s.grouper.groups = older ++ g :: newer) (ha : Admits g r.sensor .p t)
    (ho : ∀ x ∈ older, ¬ Admits x r.sensor .p t) : s.placeP r t = (s.joinGroup r g .p).afterJoin r.id g.id := by
  have hfind : (s.grouper.groups.find? fun g => g.admitsP r.sensor t) = some g := by
    rw [hg, List.find?_append, List.find?_eq_none.2 fun x hx hadm => ho x hx (GroupRecord.admitsP_iff.1 hadm),
      List.find?_cons_of_pos (p := fun x : GroupRecord => x.admitsP r.sensor t) (GroupRecord.admitsP_iff.2 ha)]
    rfl
  unfold State.placeP
  rw [hfind]

/-- R133: the latest group that admits an S pick is joined. -/
theorem State.placeS_joins (hg : s.grouper.groups = older ++ g :: newer) (ha : Admits g r.sensor .s t)
    (ho : ∀ x ∈ older, Admits x r.sensor .s t → x.firstLocal ≤ g.firstLocal)
    (hn : ∀ x ∈ newer, Admits x r.sensor .s t → x.firstLocal < g.firstLocal) :
    s.placeS r t = ((s.joinGroup r g .s).testGroup (some r.id) g.id, false) := by
  have hlatest : latestGroup none (s.grouper.groups.filter fun g => g.admitsS r.sensor t) = some g := by
    rw [hg, List.filter_append,
      List.filter_cons_of_pos (p := fun x : GroupRecord => x.admitsS r.sensor t) (GroupRecord.admitsS_iff.2 ha)]
    refine latestGroup_split nofun (fun x hx => ?_) fun x hx => ?_
    · obtain ⟨hmem, hadm⟩ := List.mem_filter.1 hx
      exact ho x hmem (GroupRecord.admitsS_iff.1 hadm)
    · obtain ⟨hmem, hadm⟩ := List.mem_filter.1 hx
      exact hn x hmem (GroupRecord.admitsS_iff.1 hadm)
  unfold State.placeS
  rw [hlatest]

/-- The group with the pick. -/
def GroupRecord.joinedBy (g : GroupRecord) (r : PickRecord) (ph : MemberPhase) : GroupRecord :=
  g.join { pick := r.id, sensor := r.sensor, phase := ph }

/-- R131, R133: what a join makes of the state. -/
theorem State.joinGroup_joins (hg : Among s.grouper.groups older g newer) : s.joinGroup r g ph = { s with
    grouper := { s.grouper with groups := older ++ g.joinedBy r ph :: newer }
    table := (s.setGrouping r.id g.groupingOf).table } := by
  unfold State.joinGroup State.setGrouping State.modPick
  rw [hg.modGroup]
  rfl

theorem State.joinGroup_regrouped (hg : Among s.grouper.groups older g newer) :
    Regrouped s (s.joinGroup r g ph) r.id g.groupingOf := by
  rw [State.joinGroup_joins hg]
  rfl

theorem State.joinGroup_among (hg : Among s.grouper.groups older g newer) :
    Among (s.joinGroup r g ph).grouper.groups older (g.joinedBy r ph) newer := by
  rw [State.joinGroup_joins hg]
  exact hg.change rfl

/-- R134, R138: with the group's window incomplete nothing follows the join. -/
theorem State.joined_still (hg : Among s.grouper.groups older g newer)
    (hw : s.windowComplete (if g.state = .opened then g.pEnd else g.closeEnd) = false) :
    (s.joinGroup r g ph).testGroup (some r.id) g.id = s.joinGroup r g ph := by
  have hsame := State.windowComplete_congr (State.joinGroup_regrouped (r := r) (ph := ph) hg).rest
  refine State.testGroup_still (g := g.joinedBy r ph) (State.joinGroup_among hg).findGroup (fun hs => ?_) (fun hs => ?_) _
  · have hs : g.state = .opened := hs
    rw [if_pos hs] at hw
    exact (hsame _).trans hw
  · have hs : g.state = .declared := hs
    rw [if_neg (by rw [hs]; exact (nomatch ·))] at hw
    exact (hsame _).trans hw

/-- R135: the P that reaches M declares the group. -/
theorem State.joined_declares (hg : Among s.grouper.groups older g newer) (hs : g.state = .opened)
    (hc : g.count ≤ g.pCount + 1) (hf : s.findPick r.id = some r)
    (hp : ∀ id ∈ g.members.map (·.pick), s.isPending id = true) (hw : s.windowComplete g.closeEnd = false) :
    ∃ u, (s.joinGroup r g .p).afterJoin r.id g.id = (u, true) ∧ Declares s u
      { s.grouper with groups := older ++ (g.joinedBy r .p).declaredAt s.time.localTime :: newer } g.id
      (g.members.map (·.pick) ++ [r.id]) := by
  have hre := State.joinGroup_regrouped (r := r) (ph := .p) hg
  rw [groupingOf_opened hs] at hre
  have hids : (g.joinedBy r .p).members.map (·.pick) = g.members.map (·.pick) ++ [r.id] := List.map_append
  have hpend : ∀ i ∈ (g.joinedBy r .p).members.map (·.pick), (s.joinGroup r g .p).isPending i = true := fun i hi => by
    rw [hids] at hi
    rcases List.mem_append.1 hi with hi | hi
    · exact hre.isPending (.inl (hp i hi))
    · exact hre.isPending (.inr ⟨List.mem_singleton.1 hi, by rw [hf]; rfl⟩)
  obtain ⟨u, hu, hd⟩ := State.afterJoin_of_reached (State.joinGroup_among (r := r) (ph := .p) hg) hs hc hpend
    ((State.windowComplete_congr hre.rest _).trans hw) r.id
  refine ⟨u, hu, ?_⟩
  rw [hids, show (s.joinGroup r g .p).time = s.time by rw [hre],
    show (s.joinGroup r g .p).grouper = { s.grouper with groups := older ++ g.joinedBy r .p :: newer } by
      rw [State.joinGroup_joins hg]] at hd
  exact hd.of_regrouped hre (List.mem_append_right _ List.mem_cons_self)

end

end Sys2Proof.Machine


/-! PROOFS. How a group ends (R140 to R142): expiry of an OPEN group and closing of a DECLARED one. -/

namespace Sys2Proof.Machine

section
variable {s : State} {g : GroupRecord}

/-! ### The state of the members -/

theorem GroupRecord.others_none (g : GroupRecord) : g.others none = g.members.map (·.pick) :=
  List.filter_eq_self.2 fun _ _ => rfl

/-- The members of an OPEN group are PENDING. -/
theorem Consistent.isPending_of_member (h : Consistent s.table.records s.notices s.grouper.groups)
    (hg : g ∈ s.grouper.groups) (hs : g.state = .opened) {id : Nat} (hid : id ∈ g.members.map (·.pick)) :
    s.isPending id = true := by
  obtain ⟨m, hm, rfl⟩ := List.mem_map.1 hid
  obtain ⟨r, hr, e, hgr⟩ := (h.members g hg (by rw [hs]; exact (nomatch ·))).2 m hm
  rw [State.isPending, ← e, State.findPick_of_mem h.ids hr]
  simp [hgr, groupingOf_opened hs, Grouping.isPending]

/-- R130, R131: a SINGLE record is in no live group. -/
theorem Consistent.not_member_of_single (h : Consistent s.table.records s.notices s.grouper.groups)
    (hg : g ∈ s.grouper.groups) (hs : g.state ≠ .closed) {r : PickRecord} (hr : r ∈ s.table.records)
    (hsingle : r.grouping = .single) : r.id ∉ g.members.map (·.pick) := fun hid => by
  obtain ⟨m, hm, e⟩ := List.mem_map.1 hid
  have hgr := h.grouping_of_member hg hs hm hr e.symm
  rw [hsingle] at hgr
  unfold GroupRecord.groupingOf at hgr
  split at hgr <;> cases hgr

/-! ### Expiry (R140) -/

/-- R140, R153: a record once the group that lists it has expired. -/
def expiredRecord (s : State) (ids : List Nat) (x : PickRecord) : PickRecord :=
  if x.id ∈ ids then { x with grouping := .single, delivery := nowWaiting s (fun m => decide (m = .all)) x.delivery } else x

theorem expiredRecord_id (s : State) (ids : List Nat) (x : PickRecord) : (expiredRecord s ids x).id = x.id := by
  unfold expiredRecord
  split <;> rfl

/-- The state in which the release tests that follow an expiry are made. -/
structure Expired (s u : State) (g : GroupRecord) : Prop where
  rest : u = { s with grouper := u.grouper, table := u.table, offers := u.offers, attention := u.attention }
  grouper : u.grouper = { s.grouper with
    groups := s.grouper.groups.filter fun x => x.id != g.id, expired := min (s.grouper.expired + 1) 65535 }
  table : u.table = { s.table with records := s.table.records.map (expiredRecord s (g.members.map (·.pick))) }
  gains : Gains s u (s.modeNews fun m => if m = .all then (g.members.map (·.pick)).map .pickNew else [])

theorem State.expireGroup_expires (s : State) (g : GroupRecord) :
    ∃ u, Expired s u g ∧ s.expireGroup g none = u.releaseTests (g.members.map (·.pick)) := by
  unfold State.expireGroup
  rw [g.others_none]
  dsimp only
  generalize hids : g.members.map (·.pick) = ids
  obtain ⟨v, hv⟩ : ∃ v, v = ids.foldl (fun t id => t.setGrouping id .single) s := ⟨_, rfl⟩
  rw [← hv]
  rw [State.foldl_setGrouping] at hv
  obtain ⟨hrest, hgains, htable⟩ := v.offerExpireds_offers ids
  generalize ids.foldl State.offerExpired v = w at hrest hgains htable ⊢
  have hmode (p : Port) : (v.offers.get p).mode = (s.offers.get p).mode := by rw [hv]
  have hgrouper : w.grouper = s.grouper := by rw [hrest, hv]
  refine ⟨_, ⟨?_, ?_, ?_, ?_⟩, rfl⟩
  · unfold State.freeGroup
    dsimp only
    rw [hrest, hv]
  · unfold State.freeGroup
    dsimp only
    rw [hgrouper]
    rfl
  · refine htable.trans ?_
    rw [hids, hv]
    refine congrArg (ArrivalTable.mk · s.table.nextId) ((List.map_map ..).trans (List.map_congr_left fun x _ => ?_))
    rw [Function.comp_apply, ← hv, nowWaiting_congr hmode]
    unfold expiredRecord
    by_cases hx : x.id ∈ ids
    · simp only [hx, if_true, and_true]
    · simp only [hx, if_false, and_false, decide_false, nowWaiting_never]
  · have hsame : Gains s v fun _ => [] := .of_same (by rw [hv]) (by rw [hv])
    refine ((hsame.trans hgains).congr fun p => ?_).then_same rfl rfl
    rw [hids]
    unfold State.modeNews
    rw [hmode p]
    rfl

/-- R123, R153: which members of an expired group are released: what no list was told. -/
theorem Expired.releasable {u : State} (h : Expired s u g) (hc : Consistent s.table.records s.notices s.grouper.groups)
    (hg : g ∈ s.grouper.groups) (hs : g.state = .opened) {x : PickRecord} (hx : x ∈ s.table.records)
    (hid : x.id ∈ g.members.map (·.pick)) :
    u.releasable (expiredRecord s (g.members.map (·.pick)) x) = decide (x.state ≠ .provisional
      ∧ (s.offers.get .a).mode ≠ some .all ∧ (s.offers.get .b).mode ≠ some .all) := by
  have hlive : g.state ≠ .closed := by rw [hs]; exact (nomatch ·)
  obtain ⟨m, hm, hpick⟩ := List.mem_map.1 hid
  have hpending : x.grouping = .pending g.id := by
    rw [hc.grouping_of_member hg hlive hm hx hpick.symm, groupingOf_opened hs]
  have hrecord : expiredRecord s (g.members.map (·.pick)) x
      = { x with grouping := .single, delivery := nowWaiting s (fun m => decide (m = .all)) x.delivery } := if_pos hid
  have hneeds (p : Port) : u.portNeeds p (expiredRecord s (g.members.map (·.pick)) x)
      = decide ((s.offers.get p).mode = some .all) := by
    have hnone := hc.delivery x hx ⟨_, hpending⟩ p
    have hquiet : (s.notices p).any (Notice.namesPick x.id) = false :=
      Bool.eq_false_iff.2 fun hn => hc.not_named hx hpending p (any_namesPick.1 hn)
    have hget : (nowWaiting s (fun m => decide (m = .all)) x.delivery).get p
        = if (s.offers.get p).mode.any (fun m => decide (m = .all)) then .waiting else .none := by
      rw [← hnone]
      cases p <;> rfl
    rw [hrecord]
    unfold State.portNeeds State.attached
    dsimp only
    rw [h.gains.mode p, h.gains.notices p, List.any_append, hquiet, hget]
    unfold State.modeNews
    cases hmode : (s.offers.get p).mode with
    | none => rfl
    | some mode =>
      by_cases hall : mode = .all
      · subst hall
        simp only [if_true, decide_true, Option.isSome_some, Bool.true_and, Bool.false_or]
        rw [Bool.or_eq_true]
        refine .inl (List.any_eq_true.2 ⟨_, List.mem_map_of_mem hid, ?_⟩)
        simp [Notice.namesPick]
      · simp [hall]
  have hunlisted : u.listedLive x.id = false := by
    refine Bool.eq_false_iff.2 fun hl => ?_
    obtain ⟨g', hg', hl'⟩ := List.any_eq_true.1 hl
    simp only [Bool.and_eq_true, decide_eq_true_eq, List.any_eq_true, beq_iff_eq] at hl'
    obtain ⟨hlive', m', hm', hpick'⟩ := hl'
    rw [h.grouper] at hg'
    obtain ⟨hmem, hne⟩ := List.mem_filter.1 hg'
    exact bne_iff_ne.1 hne
      (congrArg GroupRecord.id (hc.eq_of_member hmem hg hlive' hlive hm' hm (hpick'.trans hpick.symm)))
  unfold State.releasable
  rw [hneeds .a, hneeds .b, expiredRecord_id, hunlisted, hrecord]
  simp [Grouping.isPending, Bool.and_assoc]

/-- R140: an OPEN group whose window is complete expires. -/
theorem State.testGroup_expires (h : NoticeInv s) (hnd : (s.table.records.map (·.id)).Nodup)
    (hf : s.findGroup g.id = some g) (hs : g.state = .opened) (hw : s.windowComplete g.pEnd = true) :
    let t := s.testGroup none g.id
    let ids := g.members.map (·.pick)
    t = { s with grouper := t.grouper, table := t.table, offers := t.offers, attention := t.attention }
      ∧ t.grouper = { s.grouper with
        groups := s.grouper.groups.filter fun x => x.id ≠ g.id, expired := min (s.grouper.expired + 1) 65535 }
      ∧ t.table = { s.table with records := (s.table.records.map (expiredRecord s ids)).filter fun x =>
        ¬ (x.id ∈ ids ∧ x.state ≠ .provisional ∧ (s.offers.get .a).mode ≠ some .all
          ∧ (s.offers.get .b).mode ≠ some .all) }
      ∧ ListsGain s t fun m => if m = .all then ids.map .pickNew else [] := by
  have hc := h.consistent hnd
  obtain ⟨hg, -⟩ := State.mem_of_findGroup hf
  obtain ⟨u, hu, he⟩ := s.expireGroup_expires g
  have htest : s.testGroup none g.id = s.expireGroup g none := by
    unfold State.testGroup
    rw [hf]
    dsimp only
    rw [hs]
    exact if_pos hw
  dsimp only
  rw [htest, he]
  have hids : (u.table.records.map (·.id)).Nodup := by
    rw [hu.table, show (s.table.records.map (expiredRecord s (g.members.map (·.pick)))).map (·.id)
      = s.table.records.map (·.id) from (List.map_map ..).trans (List.map_congr_left fun x _ => expiredRecord_id ..)]
    exact hnd
  rw [State.releaseTests_records hids]
  refine ⟨?_, ?_, ?_, ?_⟩
  · rw [hu.rest]
  · refine hu.grouper.trans (congrArg (fun l => { s.grouper with
      groups := l, expired := min (s.grouper.expired + 1) 65535 }) (List.filter_congr fun x _ => ?_))
    by_cases hx : x.id = g.id <;> simp [hx]
  · dsimp only
    rw [hu.table]
    refine congrArg (ArrivalTable.mk · s.table.nextId) (List.filter_congr fun y hy => ?_)
    obtain ⟨x, hx, rfl⟩ := List.mem_map.1 hy
    by_cases hid : x.id ∈ g.members.map (·.pick)
    · rw [hu.releasable hc hg hs hx hid, expiredRecord_id, decide_eq_true hid]
      have hstate : (expiredRecord s (g.members.map (·.pick)) x).state = x.state := by
        unfold expiredRecord
        split <;> rfl
      rw [hstate]
      simp [hid]
    · rw [expiredRecord_id]
      simp [hid]
  · exact Gains.listsGain (hu.gains.then_same rfl rfl)

/-! ### Closing (R141, R142) -/

/-- The groups with one of them CLOSED. -/
def closedIn (id : Nat) (groups : List GroupRecord) : List GroupRecord :=
  groups.map fun x => if x.id = id then { x with state := .closed } else x

/-- The state in which the release tests that follow a closing are made. -/
structure Closed (s u : State) (g : GroupRecord) : Prop where
  rest : u = { s with grouper := u.grouper, offers := u.offers, attention := u.attention }
  grouper : u.grouper = { s.grouper with groups := closedIn g.id s.grouper.groups }
  offers : ∀ p, u.offers.get p = { s.offers.get p with
    notices := if s.attached p = true then closingList g.id (s.notices p) else s.notices p }

theorem State.mergeClosing_closes (s : State) (g : GroupRecord) :
    Closed s ((s.modGroup g.id fun x => { x with state := .closed }).mergeClosing g.id) g := by
  obtain ⟨v, hv⟩ : ∃ v, v = s.modGroup g.id fun x => { x with state := .closed } := ⟨_, rfl⟩
  obtain ⟨hrest, hmode, -⟩ := State.eachAttached_setNotices (fun _ => closingList g.id) v
  rw [← State.mergeClosing_eq] at hrest hmode
  have hn := v.mergeClosing_notices g.id
  rw [← hv]
  refine ⟨by rw [hrest, hv]; rfl, by rw [hrest, hv]; rfl, fun p => ?_⟩
  have hnotices : ((v.mergeClosing g.id).offers.get p).notices
      = if s.attached p = true then closingList g.id (s.notices p) else s.notices p :=
    (hn p).trans (by rw [hv]; rfl)
  have hsetting := (hmode p).2
  have hm := (hmode p).1
  rw [show v.offers = s.offers by rw [hv]; rfl] at hsetting hm
  generalize (v.mergeClosing g.id).offers.get p = o at hnotices hsetting hm ⊢
  cases o
  cases hnotices
  cases hsetting
  cases hm
  rfl

/-- The closing of a group names no pick. -/
theorem closingList_namesPick (group id : Nat) (l : List Notice) :
    (closingList group l).any (Notice.namesPick id) = l.any (Notice.namesPick id) := by
  unfold closingList
  split
  · unfold closeInPlace
    rw [List.any_map]
    congr 1
    funext n
    rw [Function.comp_apply]
    split
    · next e =>
      rw [e]
      rfl
    · rfl
  · rw [List.any_append]
    simp [Notice.namesPick]

theorem closingList_namesGroup (group : Nat) (l : List Notice) : (closingList group l).any (Notice.namesGroup group) = true := by
  unfold closingList
  split
  · next h =>
    obtain ⟨n, hn, hg⟩ := List.any_eq_true.1 h
    refine List.any_eq_true.2 ⟨_, List.mem_map_of_mem hn, ?_⟩
    split
    · simp [Notice.namesGroup]
    · exact hg
  · simp [Notice.namesGroup]

/-- R154: the list of an attached port says of a DECLARED group no more than its declaration. -/
theorem Consistent.closingList_eq (h : Consistent s.table.records s.notices s.grouper.groups)
    (hg : g ∈ s.grouper.groups) (hs : g.state = .declared) (p : Port) :
    closingList g.id (s.notices p) = if .groupDeclared g.id ∈ s.notices p then
      (s.notices p).map fun n => if n = .groupDeclared g.id then .groupClosed g.id else n
      else s.notices p ++ [.groupClosed g.id] := by
  have hnamed : (s.notices p).any (Notice.namesGroup g.id) = true ↔ .groupDeclared g.id ∈ s.notices p := by
    refine ⟨fun hn => ?_, fun hn => List.any_eq_true.2 ⟨_, hn, by simp [Notice.namesGroup]⟩⟩
    obtain ⟨n, hn, e⟩ := List.mem_map.1 (any_namesGroup.1 hn)
    cases n with
    | pickNew i => cases e
    | pickFinal i => cases e
    | pickRetracted i _ => cases e
    | groupDeclared i =>
      cases e
      exact hn
    | groupClosed i =>
      cases e
      obtain ⟨g', hg', e', hst⟩ := h.closed p _ hn
      rw [h.eq_of_groupId hg' hg e', hs] at hst
      cases hst
  unfold closingList
  by_cases hd : .groupDeclared g.id ∈ s.notices p
  · rw [if_pos (hnamed.2 hd), if_pos hd]
    rfl
  · rw [if_neg (mt hnamed.1 hd), if_neg hd]

theorem Closed.attached {u : State} (h : Closed s u g) (p : Port) : u.attached p = s.attached p := by
  unfold State.attached
  rw [h.offers p]

theorem Closed.notices {u : State} (h : Closed s u g) (p : Port) :
    u.notices p = if s.attached p = true then closingList g.id (s.notices p) else s.notices p := by
  unfold State.notices
  rw [h.offers p]
  rfl

/-- R123: the four conditions, the group that closes disregarded. -/
theorem Closed.releasable_iff {u : State} (h : Closed s u g) (x : PickRecord) :
    u.releasable x = true ↔ Unheld s g.id x := by
  have hneeds (p : Port) : u.portNeeds p x = false ↔ (s.attached p = true →
      (∀ n ∈ s.notices p, n.namesPick x.id = false)
        ∧ (x.state = .retracted ∨ x.delivery.get p = .none ∨ x.delivery.get p = .takenFinal)) := by
    unfold State.portNeeds
    rw [h.attached p, h.notices p]
    cases s.attached p with
    | false => simp
    | true =>
      rw [if_pos rfl, closingList_namesPick]
      simp only [Bool.true_and, Bool.or_eq_false_iff, List.any_eq_false, Bool.not_eq_true, Bool.not_eq_false',
        Bool.or_eq_true, decide_eq_true_eq, or_assoc, forall_const]
  have hgrouping : x.grouping.isPending = false ↔ ∀ g, x.grouping ≠ .pending g := by
    cases x.grouping <;> simp [Grouping.isPending]
  have hlisted : u.listedLive x.id = false
      ↔ ∀ g' ∈ s.grouper.groups, g'.id ≠ g.id → g'.state ≠ .closed → ∀ m ∈ g'.members, m.pick ≠ x.id := by
    unfold State.listedLive
    rw [h.grouper, closedIn, List.any_map, List.any_eq_false]
    refine forall_congr' fun g' => forall_congr' fun _ => ?_
    rw [Function.comp_apply]
    by_cases hid : g'.id = g.id
    · simp [hid]
    · simp [hid]
  unfold State.releasable Unheld
  simp only [Bool.and_eq_true, Bool.not_eq_true', decide_eq_true_eq, hneeds, hgrouping, hlisted, and_assoc]
  refine and_congr_right fun _ => ?_
  constructor
  · rintro ⟨ha, hb, hrest⟩
    exact ⟨fun p => by cases p <;> assumption, hrest⟩
  · rintro ⟨hp, hrest⟩
    exact ⟨hp .a, hp .b, hrest⟩

theorem Closed.groupNamed {u : State} (h : Closed s u g) :
    u.groupNamed g.id = true ↔ s.attached .a = true ∨ s.attached .b = true := by
  have hport (p : Port) : (u.attached p && (u.notices p).any (Notice.namesGroup g.id)) = s.attached p := by
    rw [h.attached p, h.notices p]
    cases s.attached p with
    | false => rfl
    | true => rw [if_pos rfl, closingList_namesGroup, Bool.and_self]
  unfold State.groupNamed
  rw [hport .a, hport .b, Bool.or_eq_true]

/-- R142: a CLOSED group that no list names is freed at once. -/
theorem Closed.freeTest {u v : State} (h : Closed s u g) (hf : s.findGroup g.id = some g)
    (hv : v = { u with table := v.table }) : v.groupFreeTest g.id = { v with grouper := { s.grouper with
      groups := if s.attached .a = true ∨ s.attached .b = true then closedIn g.id s.grouper.groups
        else s.grouper.groups.filter fun x => x.id ≠ g.id } } := by
  have hvg : v.grouper = { s.grouper with groups := closedIn g.id s.grouper.groups } := by
    rw [hv]
    exact h.grouper
  have hnamed : v.groupNamed g.id = u.groupNamed g.id := by
    rw [hv]
    rfl
  have hfind : v.findGroup g.id = some { g with state := .closed } := by
    unfold State.findGroup at hf ⊢
    rw [hvg, closedIn, List.find?_map]
    have hkey : ((fun x : GroupRecord => x.id == g.id) ∘ fun x => if x.id = g.id then { x with state := .closed } else x)
        = fun x => x.id == g.id := by
      funext x
      rw [Function.comp_apply]
      split <;> rfl
    rw [hkey, hf]
    exact congrArg some (if_pos rfl)
  unfold State.groupFreeTest
  rw [hfind]
  dsimp only
  rw [hnamed]
  by_cases hatt : s.attached .a = true ∨ s.attached .b = true
  · rw [if_neg (fun hn => Bool.eq_false_iff.1 hn.2 (h.groupNamed.2 hatt)), if_pos hatt, ← hvg]
  · rw [if_pos ⟨rfl, Bool.eq_false_iff.2 fun hn => hatt (h.groupNamed.1 hn)⟩, if_neg hatt]
    unfold State.freeGroup
    rw [hvg, closedIn]
    have hfilter : (s.grouper.groups.map fun x => if x.id = g.id then { x with state := .closed } else x).filter
        (fun x => x.id != g.id) = s.grouper.groups.filter fun x => x.id ≠ g.id := by
      induction s.grouper.groups with
      | nil => rfl
      | cons x rest ih =>
        by_cases hx : x.id = g.id
        · simp [hx, ih]
        · simp [hx, ih]
    rw [hfilter]

/-- R141: a DECLARED group whose close end is passed closes. -/
theorem State.testGroup_closes (h : NoticeInv s) (hnd : (s.table.records.map (·.id)).Nodup)
    (hf : s.findGroup g.id = some g) (hs : g.state = .declared) (hw : s.windowComplete g.closeEnd = true) :
    let t := s.testGroup none g.id
    t = { s with grouper := t.grouper, table := t.table, offers := t.offers, attention := t.attention }
      ∧ t.grouper = { s.grouper with
        groups := if s.attached .a = true ∨ s.attached .b = true then closedIn g.id s.grouper.groups
          else s.grouper.groups.filter fun x => x.id ≠ g.id }
      ∧ (∀ p, t.offers.get p = { s.offers.get p with
        notices := if s.attached p = false then s.notices p
          else if .groupDeclared g.id ∈ s.notices p then
            (s.notices p).map fun n => if n = .groupDeclared g.id then .groupClosed g.id else n
          else s.notices p ++ [.groupClosed g.id] })
      ∧ t.table = { s.table with records := t.table.records } ∧ t.table.records.Sublist s.table.records
      ∧ ∀ x, x ∈ t.table.records ↔ x ∈ s.table.records ∧ ¬ (x.id ∈ g.members.map (·.pick) ∧ Unheld s g.id x) := by
  have hc := h.consistent hnd
  obtain ⟨hg, -⟩ := State.mem_of_findGroup hf
  have hu := s.mergeClosing_closes g
  have htest : s.testGroup none g.id = s.closeGroup g none := by
    unfold State.testGroup
    rw [hf]
    dsimp only
    rw [hs]
    exact if_pos hw
  dsimp only
  rw [htest]
  unfold State.closeGroup
  dsimp only
  rw [g.others_none]
  generalize (s.modGroup g.id fun x => { x with state := .closed }).mergeClosing g.id = u at hu ⊢
  have htable : u.table = s.table := by rw [hu.rest]
  have hids : (u.table.records.map (·.id)).Nodup := htable ▸ hnd
  rw [State.releaseTests_records hids]
  generalize hv : ({ u with table := { u.table with records := u.table.records.filter fun x =>
    !(decide (x.id ∈ g.members.map (·.pick)) && u.releasable x) } } : State) = v
  have hvtable : v.table = { s.table with records := s.table.records.filter fun x =>
      !(decide (x.id ∈ g.members.map (·.pick)) && u.releasable x) } := by
    rw [← hv, htable]
  rw [hu.freeTest hf (v := v) (by rw [← hv])]
  refine ⟨?_, rfl, fun p => ?_, ?_, ?_, fun x => ?_⟩
  · rw [← hv, hu.rest]
  · have hoffers : v.offers.get p = u.offers.get p := by rw [← hv]
    refine (hoffers.trans (hu.offers p)).trans ?_
    cases s.attached p with
    | false => rfl
    | true =>
      rw [if_pos rfl, hc.closingList_eq hg hs p]
      rfl
  · dsimp only
    rw [hvtable]
  · dsimp only
    rw [hvtable]
    exact List.filter_sublist
  · dsimp only
    rw [hvtable, List.mem_filter, ← hu.releasable_iff x, Bool.not_eq_true', Bool.eq_false_iff, ne_eq,
      Bool.and_eq_true, decide_eq_true_eq]

end

end Sys2Proof.Machine


/-! PROOFS. O20: how new picks are grouped, and what becomes of their groups (chapter 7). -/

namespace Sys2Proof.Machine

section
variable {s : State} {id t : Nat} {r : PickRecord} {g : GroupRecord} {older newer : List GroupRecord}

/-- R132: a P pick that no group admits finds no room. -/
theorem State.groupPick_full (hf : s.findPick id = some r) (ho : r.onsetLocal = some t)
    (hq : r.qualityClass ≤ s.grouper.settings.active.qmax) (hp : r.phase = .p)
    (hn : ∀ g ∈ s.grouper.groups, ¬ Admits g r.sensor .p t) (h : 8 ≤ s.grouper.groups.length) :
    s.groupPick id = ({ s with
      grouper := { s.grouper with fullCount := min (s.grouper.fullCount + 1) 65535 }
      table := { s.table with records := s.table.records.map fun x =>
        if x.id = id then { x with grouping := .single, flags := { x.flags with groupFull := true } } else x } },
      false) := by
  obtain ⟨-, rfl⟩ := State.mem_of_findPick hf
  rw [State.groupPick_p hf ho hq hp, State.placeP_of_none hn, State.openGroup_full h]
  exact if_neg (Nat.not_lt.2 h)

/-- R132: a P pick that no group admits opens one. -/
theorem State.groupPick_opens (hf : s.findPick id = some r) (ho : r.onsetLocal = some t)
    (hq : r.qualityClass ≤ s.grouper.settings.active.qmax) (hp : r.phase = .p)
    (hn : ∀ g ∈ s.grouper.groups, ¬ Admits g r.sensor .p t) (h : s.grouper.groups.length < 8) :
    s.groupPick id = (s.openGroup r t).afterJoin r.id (s.newGroup r t).id := by
  rw [State.groupPick_p hf ho hq hp, State.placeP_of_none hn]
  exact if_pos h

/-- R131, R134: a P pick's join that does not declare its group. -/
theorem State.groupPick_joins_p (hf : s.findPick id = some r) (ho : r.onsetLocal = some t)
    (hq : r.qualityClass ≤ s.grouper.settings.active.qmax) (hg : Among s.grouper.groups older g newer)
    (ha : Admits g r.sensor .p t) (hp : r.phase = .p) (hfirst : ∀ x ∈ older, ¬ Admits x r.sensor .p t)
    (hm : g.state = .declared ∨ g.pCount + 1 < g.count)
    (hw : s.windowComplete (if g.state = .opened then g.pEnd else g.closeEnd) = false) :
    s.groupPick id = (s.joinGroup r g .p, false) := by
  have hunreached : ¬ ((g.joinedBy r .p).state = .opened ∧ (g.joinedBy r .p).count ≤ (g.joinedBy r .p).pCount) := by
    rintro ⟨hs, hc⟩
    rcases hm with hm | hm
    · exact absurd (hm.symm.trans hs) (nomatch ·)
    · exact Nat.not_le.2 hm hc
  rw [State.groupPick_p hf ho hq hp, State.placeP_joins hg.eq ha hfirst]
  exact (State.afterJoin_of_unreached (State.joinGroup_among hg).findGroup hunreached r.id).trans
    (congrArg (·, false) (State.joined_still hg hw))

/-- R133, R134: an S pick's join. -/
theorem State.groupPick_joins_s (hf : s.findPick id = some r) (ho : r.onsetLocal = some t)
    (hq : r.qualityClass ≤ s.grouper.settings.active.qmax) (hg : Among s.grouper.groups older g newer)
    (ha : Admits g r.sensor .s t) (hp : r.phase = .s)
    (hbefore : ∀ x ∈ older, Admits x r.sensor .s t → x.firstLocal ≤ g.firstLocal)
    (hafter : ∀ x ∈ newer, Admits x r.sensor .s t → x.firstLocal < g.firstLocal)
    (hw : s.windowComplete (if g.state = .opened then g.pEnd else g.closeEnd) = false) :
    s.groupPick id = (s.joinGroup r g .s, false) := by
  rw [State.groupPick_s hf ho hq hp, State.placeS_joins hg.eq ha hbefore hafter, State.joined_still hg hw]

/-- R135: a join that declares its group. -/
theorem State.groupPick_declares (hf : s.findPick id = some r) (ho : r.onsetLocal = some t)
    (hq : r.qualityClass ≤ s.grouper.settings.active.qmax) (hg : Among s.grouper.groups older g newer)
    (ha : Admits g r.sensor .p t) (hp : r.phase = .p) (hfirst : ∀ x ∈ older, ¬ Admits x r.sensor .p t)
    (hs : g.state = .opened) (hc : g.count ≤ g.pCount + 1) (hw : s.windowComplete g.closeEnd = false)
    (hinv : NoticeInv s) (hnd : (s.table.records.map (·.id)).Nodup) :
    ∃ u, s.groupPick id = (u, true) ∧ Declares s u
      { s.grouper with groups := older ++ (g.joinedBy r .p).declaredAt s.time.localTime :: newer } g.id
      (g.members.map (·.pick) ++ [id]) := by
  obtain ⟨-, rfl⟩ := State.mem_of_findPick hf
  have hmem : g ∈ s.grouper.groups := hg.eq ▸ List.mem_append_right _ List.mem_cons_self
  rw [State.groupPick_p hf ho hq hp, State.placeP_joins hg.eq ha hfirst]
  exact State.joined_declares hg hs hc hf
    (fun i hi => (hinv.consistent hnd).isPending_of_member hmem hs hi) hw

/-- R131, R136: the picks of the group and the new one are different ones. -/
theorem NoticeInv.members_nodup (h : NoticeInv s) (hnd : (s.table.records.map (·.id)).Nodup)
    (hg : g ∈ s.grouper.groups) (hs : g.state ≠ .closed) (hf : s.findPick id = some r) (hsingle : r.grouping = .single) :
    (g.members.map (·.pick) ++ [id]).Nodup := by
  have hc := h.consistent hnd
  obtain ⟨hr, rfl⟩ := State.mem_of_findPick hf
  have hnew := hc.not_member_of_single hg hs hr hsingle
  exact List.nodup_append.2 ⟨(hc.members g hg hs).1, List.nodup_singleton _, fun a ha b hb e =>
    hnew (List.mem_singleton.1 hb ▸ e ▸ ha)⟩

end

/-- Settles O20: each way of a new pick by the lemma of that way (`groupPick_single` to `groupPick_declares`), the ends of
a group by `testGroup_expires` and `testGroup_closes`, and the offer by `offerNew_offers`. -/
theorem newPicksAreGrouped : Obligations.NewPicksAreGrouped := by
  unfold Obligations.NewPicksAreGrouped
  refine ⟨fun s id r hf => ⟨State.groupPick_single hf, fun t ho hq hp hn => ?_⟩,
    fun s id t r g older newer ph hf ho hq hgroups hgnd ha hfirst => ?_, fun s h => State.testGroups_still h,
    fun s g h hnd hf => ⟨State.testGroup_expires h hnd hf, State.testGroup_closes h hnd hf⟩, fun s id r hf => ?_⟩
  · have hnone : ∀ g ∈ s.grouper.groups, ¬ Admits g r.sensor .p t := fun g hg => not_admits_p (hn g hg)
    refine ⟨State.groupPick_full hf ho hq hp hnone, fun hlen => ?_⟩
    rw [State.groupPick_opens hf ho hq hp hnone hlen]
    obtain ⟨-, rfl⟩ := State.mem_of_findPick hf
    refine ⟨s.newGroup r t, s.newGroup_fresh r t hlen, rfl, fun hc hw => ?_, fun hc hw => State.opened_expires hlen hc hw,
      fun hc hw => ?_⟩
    · rw [State.opened_stays hlen hc hw, State.openGroup_opens hlen]
    · obtain ⟨u, hu, hd⟩ := State.opened_declares hlen hf hc hw
      refine ⟨u, hu, hd.rest, hd.grouper, hd.table.trans ?_, hd.gains.listsGain⟩
      simp only [List.mem_singleton]
  · have hg := Among.of_nodup hgroups hgnd
    refine ⟨fun hm hw => ?_, fun hs hph hc hw hinv hnd hsingle => ?_⟩
    · have hjoin : s.groupPick id = (s.joinGroup r g ph, false) := by
        cases ph with
        | p => exact State.groupPick_joins_p hf ho hq hg ha hfirst.1 hfirst.2 (hm.imp_right (·.resolve_left nofun)) hw
        | s => exact State.groupPick_joins_s hf ho hq hg ha hfirst.1 hfirst.2.1 hfirst.2.2 hw
      obtain ⟨-, rfl⟩ := State.mem_of_findPick hf
      rw [hjoin, State.joinGroup_joins hg]
      rfl
    · subst hph
      obtain ⟨hp, hnone⟩ := hfirst
      obtain ⟨u, hu, hd⟩ := State.groupPick_declares hf ho hq hg ha hp hnone hs hc hw hinv hnd
      have hmem : g ∈ s.grouper.groups := hgroups ▸ List.mem_append_right _ List.mem_cons_self
      have hids := hinv.members_nodup hnd hmem (by rw [hs]; exact (nomatch ·)) hf hsingle
      obtain ⟨-, rfl⟩ := State.mem_of_findPick hf
      exact ⟨u, _, hu, hd.rest, hd.grouper, hd.table, s.byOnset_perm _, s.byOnset_pairwise hids, hd.gains.listsGain⟩
  · obtain ⟨hrest, hgains, htable⟩ := State.offerNew_offers hf (offered := fun m => match r.grouping with
      | .pending _ => false
      | .grouped _ => true
      | .single => decide (m = .all)) fun m => by cases r.grouping <;> cases m <;> rfl
    exact ⟨hrest, hgains.listsGain, htable⟩

end Sys2Proof.Machine
